-- ==== Sys2Proof/Word.lean ====
section
/-! DEFINITION. The word types of the block and their widths (spec/00_scope.md R8, R22). -/
namespace Sys2Proof

abbrev Byte := BitVec 8
abbrev Half := BitVec 16
abbrev Word := BitVec 32
abbrev Quad := BitVec 64

/-- Operand widths 8, 16 and 32 (R8). -/
inductive Width where
  | w8 | w16 | w32
deriving DecidableEq, Repr, Inhabited

abbrev Width.bits : Width → Nat
  | .w8 => 8
  | .w16 => 16
  | .w32 => 32

abbrev Width.bytes : Width → Nat
  | .w8 => 1
  | .w16 => 2
  | .w32 => 4

/-- An operand-size or address-size attribute, 16 or 32 (R25, R305). -/
inductive Size where
  | s16 | s32
deriving DecidableEq, Repr, Inhabited

abbrev Size.width : Size → Width
  | .s16 => .w16
  | .s32 => .w32

abbrev Size.bytes (z : Size) : Nat := z.width.bytes

/-- The 32-bit mask of a size: offsets wrap to it (R220). -/
def Size.mask : Size → Word
  | .s16 => 0xFFFF#32
  | .s32 => 0xFFFFFFFF#32

end Sys2Proof
end

