-- ==== Sys2Proof/Syntax.lean ====
section
/-! DEFINITION. Instructions as syntax: one constructor per row of spec/opcode_table.json (spec/30_encoding.md
R340 to R342), every one with the attributes its prefixes give it (R301 to R306) and its length (R111). -/
namespace Sys2Proof

/-- The six segment registers (spec/10_state.md R120), in encoding order. -/
inductive SegReg where
  | es | cs | ss | ds | fs | gs
deriving DecidableEq, Repr, Inhabited

/-- The control registers that exist (R140 to R144). -/
inductive ControlReg where
  | cr0 | cr2 | cr3 | cr4
deriving DecidableEq, Repr, Inhabited

/-- The repeat-prefix kind of the prefix state (R301). -/
inductive Rep where
  | none | rep | repne
deriving DecidableEq, Repr, Inhabited

/-- A displacement of 16-bit addressing as it is encoded (R320): the mod field says which. -/
inductive Disp16 where
  | none
  | d8 (d : Byte)
  | d16 (d : Half)
deriving DecidableEq, Repr, Inhabited

/-- A displacement of 32-bit addressing as it is encoded (R322). -/
inductive Disp32 where
  | none
  | d8 (d : Byte)
  | d32 (d : Word)
deriving DecidableEq, Repr, Inhabited

/-- A memory operand as ModRM and SIB encode it (R320, R322, R323), with nothing lost. -/
inductive Addr where
  /-- 16-bit addressing, rm and displacement. -/
  | a16 (rm : BitVec 3) (d : Disp16)
  /-- 16-bit addressing, mod 0 and rm 6: a bare 16-bit offset. -/
  | abs16 (d : Half)
  /-- 32-bit addressing, a base register and no SIB. -/
  | a32 (rm : BitVec 3) (d : Disp32)
  /-- 32-bit addressing, mod 0 and rm 5: a bare 32-bit offset. -/
  | abs32 (d : Word)
  /-- SIB with a base register; index 4 means no index. -/
  | sib (ss : BitVec 2) (index base : BitVec 3) (d : Disp32)
  /-- SIB with mod 0 and base 5: a 32-bit offset in place of the base. -/
  | sibAbs (ss : BitVec 2) (index : BitVec 3) (d : Word)
deriving DecidableEq, Repr, Inhabited

/-- The r/m operand of ModRM (R310): a register number, read at the instruction's width, or memory. -/
inductive Rm where
  | reg (r : BitVec 3)
  | mem (a : Addr)
deriving DecidableEq, Repr, Inhabited

/-- What the prefixes and the length give every instruction (R301, R305, R306, R360): operand size, address size,
segment override, repeat kind, LOCK, and the encoded length. -/
structure Bound where
  osz : Size
  asz : Size
  seg : Option SegReg
  rep : Rep
  lock : Bool
  len : Nat
deriving DecidableEq, Repr, Inhabited

/-- The instructions. Immediates stand as they are encoded: an 8-bit one that the instruction sign-extends stays a
byte, and one of operand size or address size stands in 32 bits. -/
inductive Instr where
  | addEbGb (b : Bound) (e : Rm) (g : BitVec 3)
  | addEvGv (b : Bound) (e : Rm) (g : BitVec 3)
  | addGbEb (b : Bound) (g : BitVec 3) (e : Rm)
  | addGvEv (b : Bound) (g : BitVec 3) (e : Rm)
  | addAlIb (b : Bound) (imm : Byte)
  | addEaxIz (b : Bound) (imm : Word)
  | pushEs (b : Bound)
  | popEs (b : Bound)
  | orEbGb (b : Bound) (e : Rm) (g : BitVec 3)
  | orEvGv (b : Bound) (e : Rm) (g : BitVec 3)
  | orGbEb (b : Bound) (g : BitVec 3) (e : Rm)
  | orGvEv (b : Bound) (g : BitVec 3) (e : Rm)
  | orAlIb (b : Bound) (imm : Byte)
  | orEaxIz (b : Bound) (imm : Word)
  | pushCs (b : Bound)
  | adcEbGb (b : Bound) (e : Rm) (g : BitVec 3)
  | adcEvGv (b : Bound) (e : Rm) (g : BitVec 3)
  | adcGbEb (b : Bound) (g : BitVec 3) (e : Rm)
  | adcGvEv (b : Bound) (g : BitVec 3) (e : Rm)
  | adcAlIb (b : Bound) (imm : Byte)
  | adcEaxIz (b : Bound) (imm : Word)
  | pushSs (b : Bound)
  | popSs (b : Bound)
  | sbbEbGb (b : Bound) (e : Rm) (g : BitVec 3)
  | sbbEvGv (b : Bound) (e : Rm) (g : BitVec 3)
  | sbbGbEb (b : Bound) (g : BitVec 3) (e : Rm)
  | sbbGvEv (b : Bound) (g : BitVec 3) (e : Rm)
  | sbbAlIb (b : Bound) (imm : Byte)
  | sbbEaxIz (b : Bound) (imm : Word)
  | pushDs (b : Bound)
  | popDs (b : Bound)
  | andEbGb (b : Bound) (e : Rm) (g : BitVec 3)
  | andEvGv (b : Bound) (e : Rm) (g : BitVec 3)
  | andGbEb (b : Bound) (g : BitVec 3) (e : Rm)
  | andGvEv (b : Bound) (g : BitVec 3) (e : Rm)
  | andAlIb (b : Bound) (imm : Byte)
  | andEaxIz (b : Bound) (imm : Word)
  | daa (b : Bound)
  | subEbGb (b : Bound) (e : Rm) (g : BitVec 3)
  | subEvGv (b : Bound) (e : Rm) (g : BitVec 3)
  | subGbEb (b : Bound) (g : BitVec 3) (e : Rm)
  | subGvEv (b : Bound) (g : BitVec 3) (e : Rm)
  | subAlIb (b : Bound) (imm : Byte)
  | subEaxIz (b : Bound) (imm : Word)
  | das (b : Bound)
  | xorEbGb (b : Bound) (e : Rm) (g : BitVec 3)
  | xorEvGv (b : Bound) (e : Rm) (g : BitVec 3)
  | xorGbEb (b : Bound) (g : BitVec 3) (e : Rm)
  | xorGvEv (b : Bound) (g : BitVec 3) (e : Rm)
  | xorAlIb (b : Bound) (imm : Byte)
  | xorEaxIz (b : Bound) (imm : Word)
  | aaa (b : Bound)
  | cmpEbGb (b : Bound) (e : Rm) (g : BitVec 3)
  | cmpEvGv (b : Bound) (e : Rm) (g : BitVec 3)
  | cmpGbEb (b : Bound) (g : BitVec 3) (e : Rm)
  | cmpGvEv (b : Bound) (g : BitVec 3) (e : Rm)
  | cmpAlIb (b : Bound) (imm : Byte)
  | cmpEaxIz (b : Bound) (imm : Word)
  | aas (b : Bound)
  | incZv (b : Bound) (r : BitVec 3)
  | decZv (b : Bound) (r : BitVec 3)
  | pushZv (b : Bound) (r : BitVec 3)
  | popZv (b : Bound) (r : BitVec 3)
  | pusha (b : Bound)
  | popa (b : Bound)
  | boundGvMa (b : Bound) (g : BitVec 3) (m : Addr)
  | arplEwGw (b : Bound) (e : Rm) (g : BitVec 3)
  | pushIz (b : Bound) (imm : Word)
  | imulGvEvIz (b : Bound) (g : BitVec 3) (e : Rm) (imm : Word)
  | pushIbs (b : Bound) (imm : Byte)
  | imulGvEvIbs (b : Bound) (g : BitVec 3) (e : Rm) (imm : Byte)
  | insb (b : Bound)
  | insv (b : Bound)
  | outsb (b : Bound)
  | outsv (b : Bound)
  | jccJb (b : Bound) (cc : BitVec 4) (disp : Byte)
  | addEbIb (b : Bound) (e : Rm) (imm : Byte)
  | orEbIb (b : Bound) (e : Rm) (imm : Byte)
  | adcEbIb (b : Bound) (e : Rm) (imm : Byte)
  | sbbEbIb (b : Bound) (e : Rm) (imm : Byte)
  | andEbIb (b : Bound) (e : Rm) (imm : Byte)
  | subEbIb (b : Bound) (e : Rm) (imm : Byte)
  | xorEbIb (b : Bound) (e : Rm) (imm : Byte)
  | cmpEbIb (b : Bound) (e : Rm) (imm : Byte)
  | addEvIz (b : Bound) (e : Rm) (imm : Word)
  | orEvIz (b : Bound) (e : Rm) (imm : Word)
  | adcEvIz (b : Bound) (e : Rm) (imm : Word)
  | sbbEvIz (b : Bound) (e : Rm) (imm : Word)
  | andEvIz (b : Bound) (e : Rm) (imm : Word)
  | subEvIz (b : Bound) (e : Rm) (imm : Word)
  | xorEvIz (b : Bound) (e : Rm) (imm : Word)
  | cmpEvIz (b : Bound) (e : Rm) (imm : Word)
  | addEbIb82 (b : Bound) (e : Rm) (imm : Byte)
  | orEbIb82 (b : Bound) (e : Rm) (imm : Byte)
  | adcEbIb82 (b : Bound) (e : Rm) (imm : Byte)
  | sbbEbIb82 (b : Bound) (e : Rm) (imm : Byte)
  | andEbIb82 (b : Bound) (e : Rm) (imm : Byte)
  | subEbIb82 (b : Bound) (e : Rm) (imm : Byte)
  | xorEbIb82 (b : Bound) (e : Rm) (imm : Byte)
  | cmpEbIb82 (b : Bound) (e : Rm) (imm : Byte)
  | addEvIbs (b : Bound) (e : Rm) (imm : Byte)
  | orEvIbs (b : Bound) (e : Rm) (imm : Byte)
  | adcEvIbs (b : Bound) (e : Rm) (imm : Byte)
  | sbbEvIbs (b : Bound) (e : Rm) (imm : Byte)
  | andEvIbs (b : Bound) (e : Rm) (imm : Byte)
  | subEvIbs (b : Bound) (e : Rm) (imm : Byte)
  | xorEvIbs (b : Bound) (e : Rm) (imm : Byte)
  | cmpEvIbs (b : Bound) (e : Rm) (imm : Byte)
  | testEbGb (b : Bound) (e : Rm) (g : BitVec 3)
  | testEvGv (b : Bound) (e : Rm) (g : BitVec 3)
  | xchgEbGb (b : Bound) (e : Rm) (g : BitVec 3)
  | xchgEvGv (b : Bound) (e : Rm) (g : BitVec 3)
  | movEbGb (b : Bound) (e : Rm) (g : BitVec 3)
  | movEvGv (b : Bound) (e : Rm) (g : BitVec 3)
  | movGbEb (b : Bound) (g : BitVec 3) (e : Rm)
  | movGvEv (b : Bound) (g : BitVec 3) (e : Rm)
  | movEwSw (b : Bound) (e : Rm) (sreg : SegReg)
  | leaGvM (b : Bound) (g : BitVec 3) (m : Addr)
  | movSwEw (b : Bound) (sreg : SegReg) (e : Rm)
  | popEv (b : Bound) (e : Rm)
  | nop (b : Bound)
  | xchgEaxR1 (b : Bound)
  | xchgEaxR2 (b : Bound)
  | xchgEaxR3 (b : Bound)
  | xchgEaxR4 (b : Bound)
  | xchgEaxR5 (b : Bound)
  | xchgEaxR6 (b : Bound)
  | xchgEaxR7 (b : Bound)
  | cbw (b : Bound)
  | cwd (b : Bound)
  | callAp (b : Bound) (off : Word) (sel : Half)
  | wait (b : Bound)
  | pushf (b : Bound)
  | popf (b : Bound)
  | sahf (b : Bound)
  | lahf (b : Bound)
  | movAlOb (b : Bound) (moffs : Word)
  | movEaxOv (b : Bound) (moffs : Word)
  | movObAl (b : Bound) (moffs : Word)
  | movOvEax (b : Bound) (moffs : Word)
  | movsb (b : Bound)
  | movsv (b : Bound)
  | cmpsb (b : Bound)
  | cmpsv (b : Bound)
  | testAlIb (b : Bound) (imm : Byte)
  | testEaxIz (b : Bound) (imm : Word)
  | stosb (b : Bound)
  | stosv (b : Bound)
  | lodsb (b : Bound)
  | lodsv (b : Bound)
  | scasb (b : Bound)
  | scasv (b : Bound)
  | movZbIb (b : Bound) (r : BitVec 3) (imm : Byte)
  | movZvIz (b : Bound) (r : BitVec 3) (imm : Word)
  | rolEbIb (b : Bound) (e : Rm) (imm : Byte)
  | rorEbIb (b : Bound) (e : Rm) (imm : Byte)
  | rclEbIb (b : Bound) (e : Rm) (imm : Byte)
  | rcrEbIb (b : Bound) (e : Rm) (imm : Byte)
  | shlEbIb (b : Bound) (e : Rm) (imm : Byte)
  | shrEbIb (b : Bound) (e : Rm) (imm : Byte)
  | sarEbIb (b : Bound) (e : Rm) (imm : Byte)
  | rolEvIb (b : Bound) (e : Rm) (imm : Byte)
  | rorEvIb (b : Bound) (e : Rm) (imm : Byte)
  | rclEvIb (b : Bound) (e : Rm) (imm : Byte)
  | rcrEvIb (b : Bound) (e : Rm) (imm : Byte)
  | shlEvIb (b : Bound) (e : Rm) (imm : Byte)
  | shrEvIb (b : Bound) (e : Rm) (imm : Byte)
  | sarEvIb (b : Bound) (e : Rm) (imm : Byte)
  | rolEb1 (b : Bound) (e : Rm)
  | rorEb1 (b : Bound) (e : Rm)
  | rclEb1 (b : Bound) (e : Rm)
  | rcrEb1 (b : Bound) (e : Rm)
  | shlEb1 (b : Bound) (e : Rm)
  | shrEb1 (b : Bound) (e : Rm)
  | sarEb1 (b : Bound) (e : Rm)
  | rolEv1 (b : Bound) (e : Rm)
  | rorEv1 (b : Bound) (e : Rm)
  | rclEv1 (b : Bound) (e : Rm)
  | rcrEv1 (b : Bound) (e : Rm)
  | shlEv1 (b : Bound) (e : Rm)
  | shrEv1 (b : Bound) (e : Rm)
  | sarEv1 (b : Bound) (e : Rm)
  | rolEbCl (b : Bound) (e : Rm)
  | rorEbCl (b : Bound) (e : Rm)
  | rclEbCl (b : Bound) (e : Rm)
  | rcrEbCl (b : Bound) (e : Rm)
  | shlEbCl (b : Bound) (e : Rm)
  | shrEbCl (b : Bound) (e : Rm)
  | sarEbCl (b : Bound) (e : Rm)
  | rolEvCl (b : Bound) (e : Rm)
  | rorEvCl (b : Bound) (e : Rm)
  | rclEvCl (b : Bound) (e : Rm)
  | rcrEvCl (b : Bound) (e : Rm)
  | shlEvCl (b : Bound) (e : Rm)
  | shrEvCl (b : Bound) (e : Rm)
  | sarEvCl (b : Bound) (e : Rm)
  | retIw (b : Bound) (imm : Half)
  | ret (b : Bound)
  | lesGvMp (b : Bound) (g : BitVec 3) (m : Addr)
  | ldsGvMp (b : Bound) (g : BitVec 3) (m : Addr)
  | movEbIb (b : Bound) (e : Rm) (imm : Byte)
  | movEvIz (b : Bound) (e : Rm) (imm : Word)
  | enterIwIb (b : Bound) (size : Half) (level : Byte)
  | leave (b : Bound)
  | retfIw (b : Bound) (imm : Half)
  | retf (b : Bound)
  | int3 (b : Bound)
  | intIb (b : Bound) (imm : Byte)
  | into (b : Bound)
  | iret (b : Bound)
  | aamIb (b : Bound) (imm : Byte)
  | aadIb (b : Bound) (imm : Byte)
  | xlat (b : Bound)
  | esc (b : Bound) (op : BitVec 3) (g : BitVec 3) (e : Rm)
  | loopneJb (b : Bound) (disp : Byte)
  | loopeJb (b : Bound) (disp : Byte)
  | loopJb (b : Bound) (disp : Byte)
  | jcxzJb (b : Bound) (disp : Byte)
  | inAlIb (b : Bound) (imm : Byte)
  | inEaxIb (b : Bound) (imm : Byte)
  | outIbAl (b : Bound) (imm : Byte)
  | outIbEax (b : Bound) (imm : Byte)
  | callJz (b : Bound) (disp : Word)
  | jmpJz (b : Bound) (disp : Word)
  | jmpAp (b : Bound) (off : Word) (sel : Half)
  | jmpJb (b : Bound) (disp : Byte)
  | inAlDx (b : Bound)
  | inEaxDx (b : Bound)
  | outDxAl (b : Bound)
  | outDxEax (b : Bound)
  | hlt (b : Bound)
  | cmc (b : Bound)
  | testEbIb (b : Bound) (e : Rm) (imm : Byte)
  | notEb (b : Bound) (e : Rm)
  | negEb (b : Bound) (e : Rm)
  | mulEb (b : Bound) (e : Rm)
  | imulEb (b : Bound) (e : Rm)
  | divEb (b : Bound) (e : Rm)
  | idivEb (b : Bound) (e : Rm)
  | testEvIz (b : Bound) (e : Rm) (imm : Word)
  | notEv (b : Bound) (e : Rm)
  | negEv (b : Bound) (e : Rm)
  | mulEv (b : Bound) (e : Rm)
  | imulEv (b : Bound) (e : Rm)
  | divEv (b : Bound) (e : Rm)
  | idivEv (b : Bound) (e : Rm)
  | clc (b : Bound)
  | stc (b : Bound)
  | cli (b : Bound)
  | sti (b : Bound)
  | cld (b : Bound)
  | std (b : Bound)
  | incEb (b : Bound) (e : Rm)
  | decEb (b : Bound) (e : Rm)
  | incEv (b : Bound) (e : Rm)
  | decEv (b : Bound) (e : Rm)
  | callEv (b : Bound) (e : Rm)
  | callMp (b : Bound) (m : Addr)
  | jmpEv (b : Bound) (e : Rm)
  | jmpMp (b : Bound) (m : Addr)
  | pushEv (b : Bound) (e : Rm)
  | sldtEw (b : Bound) (e : Rm)
  | strEw (b : Bound) (e : Rm)
  | lldtEw (b : Bound) (e : Rm)
  | ltrEw (b : Bound) (e : Rm)
  | verrEw (b : Bound) (e : Rm)
  | verwEw (b : Bound) (e : Rm)
  | sgdtMs (b : Bound) (m : Addr)
  | sidtMs (b : Bound) (m : Addr)
  | lgdtMs (b : Bound) (m : Addr)
  | lidtMs (b : Bound) (m : Addr)
  | smswEw (b : Bound) (e : Rm)
  | lmswEw (b : Bound) (e : Rm)
  | invlpgM (b : Bound) (m : Addr)
  | larGvEw (b : Bound) (g : BitVec 3) (e : Rm)
  | lslGvEw (b : Bound) (g : BitVec 3) (e : Rm)
  | clts (b : Bound)
  | invd (b : Bound)
  | wbinvd (b : Bound)
  | ud2 (b : Bound)
  | movRdCd (b : Bound) (r : BitVec 3) (c : ControlReg)
  | movRdDd (b : Bound) (r : BitVec 3) (d : BitVec 3)
  | movCdRd (b : Bound) (c : ControlReg) (r : BitVec 3)
  | movDdRd (b : Bound) (d : BitVec 3) (r : BitVec 3)
  | wrmsr (b : Bound)
  | rdtsc (b : Bound)
  | rdmsr (b : Bound)
  | cmovccGvEv (b : Bound) (cc : BitVec 4) (g : BitVec 3) (e : Rm)
  | jccJz (b : Bound) (cc : BitVec 4) (disp : Word)
  | setccEb (b : Bound) (cc : BitVec 4) (e : Rm)
  | pushFs (b : Bound)
  | popFs (b : Bound)
  | cpuid (b : Bound)
  | btEvGv (b : Bound) (e : Rm) (g : BitVec 3)
  | shldEvGvIb (b : Bound) (e : Rm) (g : BitVec 3) (imm : Byte)
  | shldEvGvCl (b : Bound) (e : Rm) (g : BitVec 3)
  | pushGs (b : Bound)
  | popGs (b : Bound)
  | rsm (b : Bound)
  | btsEvGv (b : Bound) (e : Rm) (g : BitVec 3)
  | shrdEvGvIb (b : Bound) (e : Rm) (g : BitVec 3) (imm : Byte)
  | shrdEvGvCl (b : Bound) (e : Rm) (g : BitVec 3)
  | imulGvEv (b : Bound) (g : BitVec 3) (e : Rm)
  | cmpxchgEbGb (b : Bound) (e : Rm) (g : BitVec 3)
  | cmpxchgEvGv (b : Bound) (e : Rm) (g : BitVec 3)
  | lssGvMp (b : Bound) (g : BitVec 3) (m : Addr)
  | btrEvGv (b : Bound) (e : Rm) (g : BitVec 3)
  | lfsGvMp (b : Bound) (g : BitVec 3) (m : Addr)
  | lgsGvMp (b : Bound) (g : BitVec 3) (m : Addr)
  | movzxGvEb (b : Bound) (g : BitVec 3) (e : Rm)
  | movzxGvEw (b : Bound) (g : BitVec 3) (e : Rm)
  | btEvIb (b : Bound) (e : Rm) (imm : Byte)
  | btsEvIb (b : Bound) (e : Rm) (imm : Byte)
  | btrEvIb (b : Bound) (e : Rm) (imm : Byte)
  | btcEvIb (b : Bound) (e : Rm) (imm : Byte)
  | btcEvGv (b : Bound) (e : Rm) (g : BitVec 3)
  | bsfGvEv (b : Bound) (g : BitVec 3) (e : Rm)
  | bsrGvEv (b : Bound) (g : BitVec 3) (e : Rm)
  | movsxGvEb (b : Bound) (g : BitVec 3) (e : Rm)
  | movsxGvEw (b : Bound) (g : BitVec 3) (e : Rm)
  | xaddEbGb (b : Bound) (e : Rm) (g : BitVec 3)
  | xaddEvGv (b : Bound) (e : Rm) (g : BitVec 3)
  | cmpxchg8bMq (b : Bound) (m : Addr)
  | bswapZd (b : Bound) (r : BitVec 3)
deriving DecidableEq, Repr

/-- The immediate part of an encoding (R330). -/
inductive Imm where
  | none
  | ib (b : Byte)
  | iw (h : Half)
  /-- `Iz`, `Jz`: operand size. -/
  | iz (v : Word)
  /-- `Ob`, `Ov`: address size. -/
  | moffs (v : Word)
  | ap (off : Word) (sel : Half)
  | iwib (h : Half) (b : Byte)
deriving DecidableEq, Repr, Inhabited

/-- Which repeat prefixes a row takes (R304). -/
inductive RepUse where
  | no | string | pause
deriving DecidableEq, Repr, Inhabited

/-- Operands whose value a rule restricts (R351): a segment register that is loaded, a debug register. -/
inductive Special where
  | none
  | loadSeg (r : SegReg)
  | debug (d : BitVec 3)
deriving DecidableEq, Repr, Inhabited

/-- The encoding fields of one instruction: the escape, the opcode byte, ModRM as (reg, r/m), the immediate, whether
LOCK may stand (R303), the repeat use (R304), whether the row is protected-mode only (R352), and the restricted
operand (R351). -/
structure Parts where
  bound : Bound
  esc : Bool
  op : Byte
  modrm : Option (BitVec 3 × Rm)
  imm : Imm
  lockable : Bool
  rep : RepUse
  pmOnly : Bool
  special : Special
deriving DecidableEq, Repr

/-- Encoding number of a segment register (spec/10_state.md R120). -/
def SegReg.num : SegReg → BitVec 3
  | .es => 0 | .cs => 1 | .ss => 2 | .ds => 3 | .fs => 4 | .gs => 5

/-- The segment register of an encoding number; 6 and 7 are reserved (R120). -/
def SegReg.ofNum (n : BitVec 3) : Option SegReg :=
  match n.toNat with
  | 0 => some .es | 1 => some .cs | 2 => some .ss | 3 => some .ds | 4 => some .fs | 5 => some .gs
  | _ => none

/-- Encoding number of a control register. -/
def ControlReg.num : ControlReg → BitVec 3
  | .cr0 => 0 | .cr2 => 2 | .cr3 => 3 | .cr4 => 4

/-- The control register of an encoding number; CR1, CR5, CR6, CR7 do not exist (R144). -/
def ControlReg.ofNum (n : BitVec 3) : Option ControlReg :=
  match n.toNat with
  | 0 => some .cr0 | 2 => some .cr2 | 3 => some .cr3 | 4 => some .cr4
  | _ => none

/-- The encoding fields of every instruction, from its row of spec/opcode_table.json (R340 to R342). -/
def Instr.parts : Instr → Parts
  | .addEbGb b e g => ⟨b, false, 0x00, some (g, e), .none, true, .no, false, .none⟩
  | .addEvGv b e g => ⟨b, false, 0x01, some (g, e), .none, true, .no, false, .none⟩
  | .addGbEb b g e => ⟨b, false, 0x02, some (g, e), .none, false, .no, false, .none⟩
  | .addGvEv b g e => ⟨b, false, 0x03, some (g, e), .none, false, .no, false, .none⟩
  | .addAlIb b imm => ⟨b, false, 0x04, none, .ib imm, false, .no, false, .none⟩
  | .addEaxIz b imm => ⟨b, false, 0x05, none, .iz imm, false, .no, false, .none⟩
  | .pushEs b => ⟨b, false, 0x06, none, .none, false, .no, false, .none⟩
  | .popEs b => ⟨b, false, 0x07, none, .none, false, .no, false, .none⟩
  | .orEbGb b e g => ⟨b, false, 0x08, some (g, e), .none, true, .no, false, .none⟩
  | .orEvGv b e g => ⟨b, false, 0x09, some (g, e), .none, true, .no, false, .none⟩
  | .orGbEb b g e => ⟨b, false, 0x0A, some (g, e), .none, false, .no, false, .none⟩
  | .orGvEv b g e => ⟨b, false, 0x0B, some (g, e), .none, false, .no, false, .none⟩
  | .orAlIb b imm => ⟨b, false, 0x0C, none, .ib imm, false, .no, false, .none⟩
  | .orEaxIz b imm => ⟨b, false, 0x0D, none, .iz imm, false, .no, false, .none⟩
  | .pushCs b => ⟨b, false, 0x0E, none, .none, false, .no, false, .none⟩
  | .adcEbGb b e g => ⟨b, false, 0x10, some (g, e), .none, true, .no, false, .none⟩
  | .adcEvGv b e g => ⟨b, false, 0x11, some (g, e), .none, true, .no, false, .none⟩
  | .adcGbEb b g e => ⟨b, false, 0x12, some (g, e), .none, false, .no, false, .none⟩
  | .adcGvEv b g e => ⟨b, false, 0x13, some (g, e), .none, false, .no, false, .none⟩
  | .adcAlIb b imm => ⟨b, false, 0x14, none, .ib imm, false, .no, false, .none⟩
  | .adcEaxIz b imm => ⟨b, false, 0x15, none, .iz imm, false, .no, false, .none⟩
  | .pushSs b => ⟨b, false, 0x16, none, .none, false, .no, false, .none⟩
  | .popSs b => ⟨b, false, 0x17, none, .none, false, .no, false, .none⟩
  | .sbbEbGb b e g => ⟨b, false, 0x18, some (g, e), .none, true, .no, false, .none⟩
  | .sbbEvGv b e g => ⟨b, false, 0x19, some (g, e), .none, true, .no, false, .none⟩
  | .sbbGbEb b g e => ⟨b, false, 0x1A, some (g, e), .none, false, .no, false, .none⟩
  | .sbbGvEv b g e => ⟨b, false, 0x1B, some (g, e), .none, false, .no, false, .none⟩
  | .sbbAlIb b imm => ⟨b, false, 0x1C, none, .ib imm, false, .no, false, .none⟩
  | .sbbEaxIz b imm => ⟨b, false, 0x1D, none, .iz imm, false, .no, false, .none⟩
  | .pushDs b => ⟨b, false, 0x1E, none, .none, false, .no, false, .none⟩
  | .popDs b => ⟨b, false, 0x1F, none, .none, false, .no, false, .none⟩
  | .andEbGb b e g => ⟨b, false, 0x20, some (g, e), .none, true, .no, false, .none⟩
  | .andEvGv b e g => ⟨b, false, 0x21, some (g, e), .none, true, .no, false, .none⟩
  | .andGbEb b g e => ⟨b, false, 0x22, some (g, e), .none, false, .no, false, .none⟩
  | .andGvEv b g e => ⟨b, false, 0x23, some (g, e), .none, false, .no, false, .none⟩
  | .andAlIb b imm => ⟨b, false, 0x24, none, .ib imm, false, .no, false, .none⟩
  | .andEaxIz b imm => ⟨b, false, 0x25, none, .iz imm, false, .no, false, .none⟩
  | .daa b => ⟨b, false, 0x27, none, .none, false, .no, false, .none⟩
  | .subEbGb b e g => ⟨b, false, 0x28, some (g, e), .none, true, .no, false, .none⟩
  | .subEvGv b e g => ⟨b, false, 0x29, some (g, e), .none, true, .no, false, .none⟩
  | .subGbEb b g e => ⟨b, false, 0x2A, some (g, e), .none, false, .no, false, .none⟩
  | .subGvEv b g e => ⟨b, false, 0x2B, some (g, e), .none, false, .no, false, .none⟩
  | .subAlIb b imm => ⟨b, false, 0x2C, none, .ib imm, false, .no, false, .none⟩
  | .subEaxIz b imm => ⟨b, false, 0x2D, none, .iz imm, false, .no, false, .none⟩
  | .das b => ⟨b, false, 0x2F, none, .none, false, .no, false, .none⟩
  | .xorEbGb b e g => ⟨b, false, 0x30, some (g, e), .none, true, .no, false, .none⟩
  | .xorEvGv b e g => ⟨b, false, 0x31, some (g, e), .none, true, .no, false, .none⟩
  | .xorGbEb b g e => ⟨b, false, 0x32, some (g, e), .none, false, .no, false, .none⟩
  | .xorGvEv b g e => ⟨b, false, 0x33, some (g, e), .none, false, .no, false, .none⟩
  | .xorAlIb b imm => ⟨b, false, 0x34, none, .ib imm, false, .no, false, .none⟩
  | .xorEaxIz b imm => ⟨b, false, 0x35, none, .iz imm, false, .no, false, .none⟩
  | .aaa b => ⟨b, false, 0x37, none, .none, false, .no, false, .none⟩
  | .cmpEbGb b e g => ⟨b, false, 0x38, some (g, e), .none, false, .no, false, .none⟩
  | .cmpEvGv b e g => ⟨b, false, 0x39, some (g, e), .none, false, .no, false, .none⟩
  | .cmpGbEb b g e => ⟨b, false, 0x3A, some (g, e), .none, false, .no, false, .none⟩
  | .cmpGvEv b g e => ⟨b, false, 0x3B, some (g, e), .none, false, .no, false, .none⟩
  | .cmpAlIb b imm => ⟨b, false, 0x3C, none, .ib imm, false, .no, false, .none⟩
  | .cmpEaxIz b imm => ⟨b, false, 0x3D, none, .iz imm, false, .no, false, .none⟩
  | .aas b => ⟨b, false, 0x3F, none, .none, false, .no, false, .none⟩
  | .incZv b r => ⟨b, false, 0x40 ||| r.setWidth 8, none, .none, false, .no, false, .none⟩
  | .decZv b r => ⟨b, false, 0x48 ||| r.setWidth 8, none, .none, false, .no, false, .none⟩
  | .pushZv b r => ⟨b, false, 0x50 ||| r.setWidth 8, none, .none, false, .no, false, .none⟩
  | .popZv b r => ⟨b, false, 0x58 ||| r.setWidth 8, none, .none, false, .no, false, .none⟩
  | .pusha b => ⟨b, false, 0x60, none, .none, false, .no, false, .none⟩
  | .popa b => ⟨b, false, 0x61, none, .none, false, .no, false, .none⟩
  | .boundGvMa b g m => ⟨b, false, 0x62, some (g, .mem m), .none, false, .no, false, .none⟩
  | .arplEwGw b e g => ⟨b, false, 0x63, some (g, e), .none, false, .no, true, .none⟩
  | .pushIz b imm => ⟨b, false, 0x68, none, .iz imm, false, .no, false, .none⟩
  | .imulGvEvIz b g e imm => ⟨b, false, 0x69, some (g, e), .iz imm, false, .no, false, .none⟩
  | .pushIbs b imm => ⟨b, false, 0x6A, none, .ib imm, false, .no, false, .none⟩
  | .imulGvEvIbs b g e imm => ⟨b, false, 0x6B, some (g, e), .ib imm, false, .no, false, .none⟩
  | .insb b => ⟨b, false, 0x6C, none, .none, false, .string, false, .none⟩
  | .insv b => ⟨b, false, 0x6D, none, .none, false, .string, false, .none⟩
  | .outsb b => ⟨b, false, 0x6E, none, .none, false, .string, false, .none⟩
  | .outsv b => ⟨b, false, 0x6F, none, .none, false, .string, false, .none⟩
  | .jccJb b cc disp => ⟨b, false, 0x70 ||| cc.setWidth 8, none, .ib disp, false, .no, false, .none⟩
  | .addEbIb b e imm => ⟨b, false, 0x80, some (0, e), .ib imm, true, .no, false, .none⟩
  | .orEbIb b e imm => ⟨b, false, 0x80, some (1, e), .ib imm, true, .no, false, .none⟩
  | .adcEbIb b e imm => ⟨b, false, 0x80, some (2, e), .ib imm, true, .no, false, .none⟩
  | .sbbEbIb b e imm => ⟨b, false, 0x80, some (3, e), .ib imm, true, .no, false, .none⟩
  | .andEbIb b e imm => ⟨b, false, 0x80, some (4, e), .ib imm, true, .no, false, .none⟩
  | .subEbIb b e imm => ⟨b, false, 0x80, some (5, e), .ib imm, true, .no, false, .none⟩
  | .xorEbIb b e imm => ⟨b, false, 0x80, some (6, e), .ib imm, true, .no, false, .none⟩
  | .cmpEbIb b e imm => ⟨b, false, 0x80, some (7, e), .ib imm, false, .no, false, .none⟩
  | .addEvIz b e imm => ⟨b, false, 0x81, some (0, e), .iz imm, true, .no, false, .none⟩
  | .orEvIz b e imm => ⟨b, false, 0x81, some (1, e), .iz imm, true, .no, false, .none⟩
  | .adcEvIz b e imm => ⟨b, false, 0x81, some (2, e), .iz imm, true, .no, false, .none⟩
  | .sbbEvIz b e imm => ⟨b, false, 0x81, some (3, e), .iz imm, true, .no, false, .none⟩
  | .andEvIz b e imm => ⟨b, false, 0x81, some (4, e), .iz imm, true, .no, false, .none⟩
  | .subEvIz b e imm => ⟨b, false, 0x81, some (5, e), .iz imm, true, .no, false, .none⟩
  | .xorEvIz b e imm => ⟨b, false, 0x81, some (6, e), .iz imm, true, .no, false, .none⟩
  | .cmpEvIz b e imm => ⟨b, false, 0x81, some (7, e), .iz imm, false, .no, false, .none⟩
  | .addEbIb82 b e imm => ⟨b, false, 0x82, some (0, e), .ib imm, true, .no, false, .none⟩
  | .orEbIb82 b e imm => ⟨b, false, 0x82, some (1, e), .ib imm, true, .no, false, .none⟩
  | .adcEbIb82 b e imm => ⟨b, false, 0x82, some (2, e), .ib imm, true, .no, false, .none⟩
  | .sbbEbIb82 b e imm => ⟨b, false, 0x82, some (3, e), .ib imm, true, .no, false, .none⟩
  | .andEbIb82 b e imm => ⟨b, false, 0x82, some (4, e), .ib imm, true, .no, false, .none⟩
  | .subEbIb82 b e imm => ⟨b, false, 0x82, some (5, e), .ib imm, true, .no, false, .none⟩
  | .xorEbIb82 b e imm => ⟨b, false, 0x82, some (6, e), .ib imm, true, .no, false, .none⟩
  | .cmpEbIb82 b e imm => ⟨b, false, 0x82, some (7, e), .ib imm, false, .no, false, .none⟩
  | .addEvIbs b e imm => ⟨b, false, 0x83, some (0, e), .ib imm, true, .no, false, .none⟩
  | .orEvIbs b e imm => ⟨b, false, 0x83, some (1, e), .ib imm, true, .no, false, .none⟩
  | .adcEvIbs b e imm => ⟨b, false, 0x83, some (2, e), .ib imm, true, .no, false, .none⟩
  | .sbbEvIbs b e imm => ⟨b, false, 0x83, some (3, e), .ib imm, true, .no, false, .none⟩
  | .andEvIbs b e imm => ⟨b, false, 0x83, some (4, e), .ib imm, true, .no, false, .none⟩
  | .subEvIbs b e imm => ⟨b, false, 0x83, some (5, e), .ib imm, true, .no, false, .none⟩
  | .xorEvIbs b e imm => ⟨b, false, 0x83, some (6, e), .ib imm, true, .no, false, .none⟩
  | .cmpEvIbs b e imm => ⟨b, false, 0x83, some (7, e), .ib imm, false, .no, false, .none⟩
  | .testEbGb b e g => ⟨b, false, 0x84, some (g, e), .none, false, .no, false, .none⟩
  | .testEvGv b e g => ⟨b, false, 0x85, some (g, e), .none, false, .no, false, .none⟩
  | .xchgEbGb b e g => ⟨b, false, 0x86, some (g, e), .none, true, .no, false, .none⟩
  | .xchgEvGv b e g => ⟨b, false, 0x87, some (g, e), .none, true, .no, false, .none⟩
  | .movEbGb b e g => ⟨b, false, 0x88, some (g, e), .none, false, .no, false, .none⟩
  | .movEvGv b e g => ⟨b, false, 0x89, some (g, e), .none, false, .no, false, .none⟩
  | .movGbEb b g e => ⟨b, false, 0x8A, some (g, e), .none, false, .no, false, .none⟩
  | .movGvEv b g e => ⟨b, false, 0x8B, some (g, e), .none, false, .no, false, .none⟩
  | .movEwSw b e sreg => ⟨b, false, 0x8C, some (sreg.num, e), .none, false, .no, false, .none⟩
  | .leaGvM b g m => ⟨b, false, 0x8D, some (g, .mem m), .none, false, .no, false, .none⟩
  | .movSwEw b sreg e => ⟨b, false, 0x8E, some (sreg.num, e), .none, false, .no, false, .loadSeg sreg⟩
  | .popEv b e => ⟨b, false, 0x8F, some (0, e), .none, false, .no, false, .none⟩
  | .nop b => ⟨b, false, 0x90, none, .none, false, .pause, false, .none⟩
  | .xchgEaxR1 b => ⟨b, false, 0x91, none, .none, false, .no, false, .none⟩
  | .xchgEaxR2 b => ⟨b, false, 0x92, none, .none, false, .no, false, .none⟩
  | .xchgEaxR3 b => ⟨b, false, 0x93, none, .none, false, .no, false, .none⟩
  | .xchgEaxR4 b => ⟨b, false, 0x94, none, .none, false, .no, false, .none⟩
  | .xchgEaxR5 b => ⟨b, false, 0x95, none, .none, false, .no, false, .none⟩
  | .xchgEaxR6 b => ⟨b, false, 0x96, none, .none, false, .no, false, .none⟩
  | .xchgEaxR7 b => ⟨b, false, 0x97, none, .none, false, .no, false, .none⟩
  | .cbw b => ⟨b, false, 0x98, none, .none, false, .no, false, .none⟩
  | .cwd b => ⟨b, false, 0x99, none, .none, false, .no, false, .none⟩
  | .callAp b off sel => ⟨b, false, 0x9A, none, .ap off sel, false, .no, false, .none⟩
  | .wait b => ⟨b, false, 0x9B, none, .none, false, .no, false, .none⟩
  | .pushf b => ⟨b, false, 0x9C, none, .none, false, .no, false, .none⟩
  | .popf b => ⟨b, false, 0x9D, none, .none, false, .no, false, .none⟩
  | .sahf b => ⟨b, false, 0x9E, none, .none, false, .no, false, .none⟩
  | .lahf b => ⟨b, false, 0x9F, none, .none, false, .no, false, .none⟩
  | .movAlOb b moffs => ⟨b, false, 0xA0, none, .moffs moffs, false, .no, false, .none⟩
  | .movEaxOv b moffs => ⟨b, false, 0xA1, none, .moffs moffs, false, .no, false, .none⟩
  | .movObAl b moffs => ⟨b, false, 0xA2, none, .moffs moffs, false, .no, false, .none⟩
  | .movOvEax b moffs => ⟨b, false, 0xA3, none, .moffs moffs, false, .no, false, .none⟩
  | .movsb b => ⟨b, false, 0xA4, none, .none, false, .string, false, .none⟩
  | .movsv b => ⟨b, false, 0xA5, none, .none, false, .string, false, .none⟩
  | .cmpsb b => ⟨b, false, 0xA6, none, .none, false, .string, false, .none⟩
  | .cmpsv b => ⟨b, false, 0xA7, none, .none, false, .string, false, .none⟩
  | .testAlIb b imm => ⟨b, false, 0xA8, none, .ib imm, false, .no, false, .none⟩
  | .testEaxIz b imm => ⟨b, false, 0xA9, none, .iz imm, false, .no, false, .none⟩
  | .stosb b => ⟨b, false, 0xAA, none, .none, false, .string, false, .none⟩
  | .stosv b => ⟨b, false, 0xAB, none, .none, false, .string, false, .none⟩
  | .lodsb b => ⟨b, false, 0xAC, none, .none, false, .string, false, .none⟩
  | .lodsv b => ⟨b, false, 0xAD, none, .none, false, .string, false, .none⟩
  | .scasb b => ⟨b, false, 0xAE, none, .none, false, .string, false, .none⟩
  | .scasv b => ⟨b, false, 0xAF, none, .none, false, .string, false, .none⟩
  | .movZbIb b r imm => ⟨b, false, 0xB0 ||| r.setWidth 8, none, .ib imm, false, .no, false, .none⟩
  | .movZvIz b r imm => ⟨b, false, 0xB8 ||| r.setWidth 8, none, .iz imm, false, .no, false, .none⟩
  | .rolEbIb b e imm => ⟨b, false, 0xC0, some (0, e), .ib imm, false, .no, false, .none⟩
  | .rorEbIb b e imm => ⟨b, false, 0xC0, some (1, e), .ib imm, false, .no, false, .none⟩
  | .rclEbIb b e imm => ⟨b, false, 0xC0, some (2, e), .ib imm, false, .no, false, .none⟩
  | .rcrEbIb b e imm => ⟨b, false, 0xC0, some (3, e), .ib imm, false, .no, false, .none⟩
  | .shlEbIb b e imm => ⟨b, false, 0xC0, some (4, e), .ib imm, false, .no, false, .none⟩
  | .shrEbIb b e imm => ⟨b, false, 0xC0, some (5, e), .ib imm, false, .no, false, .none⟩
  | .sarEbIb b e imm => ⟨b, false, 0xC0, some (7, e), .ib imm, false, .no, false, .none⟩
  | .rolEvIb b e imm => ⟨b, false, 0xC1, some (0, e), .ib imm, false, .no, false, .none⟩
  | .rorEvIb b e imm => ⟨b, false, 0xC1, some (1, e), .ib imm, false, .no, false, .none⟩
  | .rclEvIb b e imm => ⟨b, false, 0xC1, some (2, e), .ib imm, false, .no, false, .none⟩
  | .rcrEvIb b e imm => ⟨b, false, 0xC1, some (3, e), .ib imm, false, .no, false, .none⟩
  | .shlEvIb b e imm => ⟨b, false, 0xC1, some (4, e), .ib imm, false, .no, false, .none⟩
  | .shrEvIb b e imm => ⟨b, false, 0xC1, some (5, e), .ib imm, false, .no, false, .none⟩
  | .sarEvIb b e imm => ⟨b, false, 0xC1, some (7, e), .ib imm, false, .no, false, .none⟩
  | .rolEb1 b e => ⟨b, false, 0xD0, some (0, e), .none, false, .no, false, .none⟩
  | .rorEb1 b e => ⟨b, false, 0xD0, some (1, e), .none, false, .no, false, .none⟩
  | .rclEb1 b e => ⟨b, false, 0xD0, some (2, e), .none, false, .no, false, .none⟩
  | .rcrEb1 b e => ⟨b, false, 0xD0, some (3, e), .none, false, .no, false, .none⟩
  | .shlEb1 b e => ⟨b, false, 0xD0, some (4, e), .none, false, .no, false, .none⟩
  | .shrEb1 b e => ⟨b, false, 0xD0, some (5, e), .none, false, .no, false, .none⟩
  | .sarEb1 b e => ⟨b, false, 0xD0, some (7, e), .none, false, .no, false, .none⟩
  | .rolEv1 b e => ⟨b, false, 0xD1, some (0, e), .none, false, .no, false, .none⟩
  | .rorEv1 b e => ⟨b, false, 0xD1, some (1, e), .none, false, .no, false, .none⟩
  | .rclEv1 b e => ⟨b, false, 0xD1, some (2, e), .none, false, .no, false, .none⟩
  | .rcrEv1 b e => ⟨b, false, 0xD1, some (3, e), .none, false, .no, false, .none⟩
  | .shlEv1 b e => ⟨b, false, 0xD1, some (4, e), .none, false, .no, false, .none⟩
  | .shrEv1 b e => ⟨b, false, 0xD1, some (5, e), .none, false, .no, false, .none⟩
  | .sarEv1 b e => ⟨b, false, 0xD1, some (7, e), .none, false, .no, false, .none⟩
  | .rolEbCl b e => ⟨b, false, 0xD2, some (0, e), .none, false, .no, false, .none⟩
  | .rorEbCl b e => ⟨b, false, 0xD2, some (1, e), .none, false, .no, false, .none⟩
  | .rclEbCl b e => ⟨b, false, 0xD2, some (2, e), .none, false, .no, false, .none⟩
  | .rcrEbCl b e => ⟨b, false, 0xD2, some (3, e), .none, false, .no, false, .none⟩
  | .shlEbCl b e => ⟨b, false, 0xD2, some (4, e), .none, false, .no, false, .none⟩
  | .shrEbCl b e => ⟨b, false, 0xD2, some (5, e), .none, false, .no, false, .none⟩
  | .sarEbCl b e => ⟨b, false, 0xD2, some (7, e), .none, false, .no, false, .none⟩
  | .rolEvCl b e => ⟨b, false, 0xD3, some (0, e), .none, false, .no, false, .none⟩
  | .rorEvCl b e => ⟨b, false, 0xD3, some (1, e), .none, false, .no, false, .none⟩
  | .rclEvCl b e => ⟨b, false, 0xD3, some (2, e), .none, false, .no, false, .none⟩
  | .rcrEvCl b e => ⟨b, false, 0xD3, some (3, e), .none, false, .no, false, .none⟩
  | .shlEvCl b e => ⟨b, false, 0xD3, some (4, e), .none, false, .no, false, .none⟩
  | .shrEvCl b e => ⟨b, false, 0xD3, some (5, e), .none, false, .no, false, .none⟩
  | .sarEvCl b e => ⟨b, false, 0xD3, some (7, e), .none, false, .no, false, .none⟩
  | .retIw b imm => ⟨b, false, 0xC2, none, .iw imm, false, .no, false, .none⟩
  | .ret b => ⟨b, false, 0xC3, none, .none, false, .no, false, .none⟩
  | .lesGvMp b g m => ⟨b, false, 0xC4, some (g, .mem m), .none, false, .no, false, .none⟩
  | .ldsGvMp b g m => ⟨b, false, 0xC5, some (g, .mem m), .none, false, .no, false, .none⟩
  | .movEbIb b e imm => ⟨b, false, 0xC6, some (0, e), .ib imm, false, .no, false, .none⟩
  | .movEvIz b e imm => ⟨b, false, 0xC7, some (0, e), .iz imm, false, .no, false, .none⟩
  | .enterIwIb b size level => ⟨b, false, 0xC8, none, .iwib size level, false, .no, false, .none⟩
  | .leave b => ⟨b, false, 0xC9, none, .none, false, .no, false, .none⟩
  | .retfIw b imm => ⟨b, false, 0xCA, none, .iw imm, false, .no, false, .none⟩
  | .retf b => ⟨b, false, 0xCB, none, .none, false, .no, false, .none⟩
  | .int3 b => ⟨b, false, 0xCC, none, .none, false, .no, false, .none⟩
  | .intIb b imm => ⟨b, false, 0xCD, none, .ib imm, false, .no, false, .none⟩
  | .into b => ⟨b, false, 0xCE, none, .none, false, .no, false, .none⟩
  | .iret b => ⟨b, false, 0xCF, none, .none, false, .no, false, .none⟩
  | .aamIb b imm => ⟨b, false, 0xD4, none, .ib imm, false, .no, false, .none⟩
  | .aadIb b imm => ⟨b, false, 0xD5, none, .ib imm, false, .no, false, .none⟩
  | .xlat b => ⟨b, false, 0xD7, none, .none, false, .no, false, .none⟩
  | .esc b op g e => ⟨b, false, 0xD8 ||| op.setWidth 8, some (g, e), .none, false, .no, false, .none⟩
  | .loopneJb b disp => ⟨b, false, 0xE0, none, .ib disp, false, .no, false, .none⟩
  | .loopeJb b disp => ⟨b, false, 0xE1, none, .ib disp, false, .no, false, .none⟩
  | .loopJb b disp => ⟨b, false, 0xE2, none, .ib disp, false, .no, false, .none⟩
  | .jcxzJb b disp => ⟨b, false, 0xE3, none, .ib disp, false, .no, false, .none⟩
  | .inAlIb b imm => ⟨b, false, 0xE4, none, .ib imm, false, .no, false, .none⟩
  | .inEaxIb b imm => ⟨b, false, 0xE5, none, .ib imm, false, .no, false, .none⟩
  | .outIbAl b imm => ⟨b, false, 0xE6, none, .ib imm, false, .no, false, .none⟩
  | .outIbEax b imm => ⟨b, false, 0xE7, none, .ib imm, false, .no, false, .none⟩
  | .callJz b disp => ⟨b, false, 0xE8, none, .iz disp, false, .no, false, .none⟩
  | .jmpJz b disp => ⟨b, false, 0xE9, none, .iz disp, false, .no, false, .none⟩
  | .jmpAp b off sel => ⟨b, false, 0xEA, none, .ap off sel, false, .no, false, .none⟩
  | .jmpJb b disp => ⟨b, false, 0xEB, none, .ib disp, false, .no, false, .none⟩
  | .inAlDx b => ⟨b, false, 0xEC, none, .none, false, .no, false, .none⟩
  | .inEaxDx b => ⟨b, false, 0xED, none, .none, false, .no, false, .none⟩
  | .outDxAl b => ⟨b, false, 0xEE, none, .none, false, .no, false, .none⟩
  | .outDxEax b => ⟨b, false, 0xEF, none, .none, false, .no, false, .none⟩
  | .hlt b => ⟨b, false, 0xF4, none, .none, false, .no, false, .none⟩
  | .cmc b => ⟨b, false, 0xF5, none, .none, false, .no, false, .none⟩
  | .testEbIb b e imm => ⟨b, false, 0xF6, some (0, e), .ib imm, false, .no, false, .none⟩
  | .notEb b e => ⟨b, false, 0xF6, some (2, e), .none, true, .no, false, .none⟩
  | .negEb b e => ⟨b, false, 0xF6, some (3, e), .none, true, .no, false, .none⟩
  | .mulEb b e => ⟨b, false, 0xF6, some (4, e), .none, false, .no, false, .none⟩
  | .imulEb b e => ⟨b, false, 0xF6, some (5, e), .none, false, .no, false, .none⟩
  | .divEb b e => ⟨b, false, 0xF6, some (6, e), .none, false, .no, false, .none⟩
  | .idivEb b e => ⟨b, false, 0xF6, some (7, e), .none, false, .no, false, .none⟩
  | .testEvIz b e imm => ⟨b, false, 0xF7, some (0, e), .iz imm, false, .no, false, .none⟩
  | .notEv b e => ⟨b, false, 0xF7, some (2, e), .none, true, .no, false, .none⟩
  | .negEv b e => ⟨b, false, 0xF7, some (3, e), .none, true, .no, false, .none⟩
  | .mulEv b e => ⟨b, false, 0xF7, some (4, e), .none, false, .no, false, .none⟩
  | .imulEv b e => ⟨b, false, 0xF7, some (5, e), .none, false, .no, false, .none⟩
  | .divEv b e => ⟨b, false, 0xF7, some (6, e), .none, false, .no, false, .none⟩
  | .idivEv b e => ⟨b, false, 0xF7, some (7, e), .none, false, .no, false, .none⟩
  | .clc b => ⟨b, false, 0xF8, none, .none, false, .no, false, .none⟩
  | .stc b => ⟨b, false, 0xF9, none, .none, false, .no, false, .none⟩
  | .cli b => ⟨b, false, 0xFA, none, .none, false, .no, false, .none⟩
  | .sti b => ⟨b, false, 0xFB, none, .none, false, .no, false, .none⟩
  | .cld b => ⟨b, false, 0xFC, none, .none, false, .no, false, .none⟩
  | .std b => ⟨b, false, 0xFD, none, .none, false, .no, false, .none⟩
  | .incEb b e => ⟨b, false, 0xFE, some (0, e), .none, true, .no, false, .none⟩
  | .decEb b e => ⟨b, false, 0xFE, some (1, e), .none, true, .no, false, .none⟩
  | .incEv b e => ⟨b, false, 0xFF, some (0, e), .none, true, .no, false, .none⟩
  | .decEv b e => ⟨b, false, 0xFF, some (1, e), .none, true, .no, false, .none⟩
  | .callEv b e => ⟨b, false, 0xFF, some (2, e), .none, false, .no, false, .none⟩
  | .callMp b m => ⟨b, false, 0xFF, some (3, .mem m), .none, false, .no, false, .none⟩
  | .jmpEv b e => ⟨b, false, 0xFF, some (4, e), .none, false, .no, false, .none⟩
  | .jmpMp b m => ⟨b, false, 0xFF, some (5, .mem m), .none, false, .no, false, .none⟩
  | .pushEv b e => ⟨b, false, 0xFF, some (6, e), .none, false, .no, false, .none⟩
  | .sldtEw b e => ⟨b, true, 0x00, some (0, e), .none, false, .no, true, .none⟩
  | .strEw b e => ⟨b, true, 0x00, some (1, e), .none, false, .no, true, .none⟩
  | .lldtEw b e => ⟨b, true, 0x00, some (2, e), .none, false, .no, true, .none⟩
  | .ltrEw b e => ⟨b, true, 0x00, some (3, e), .none, false, .no, true, .none⟩
  | .verrEw b e => ⟨b, true, 0x00, some (4, e), .none, false, .no, true, .none⟩
  | .verwEw b e => ⟨b, true, 0x00, some (5, e), .none, false, .no, true, .none⟩
  | .sgdtMs b m => ⟨b, true, 0x01, some (0, .mem m), .none, false, .no, false, .none⟩
  | .sidtMs b m => ⟨b, true, 0x01, some (1, .mem m), .none, false, .no, false, .none⟩
  | .lgdtMs b m => ⟨b, true, 0x01, some (2, .mem m), .none, false, .no, false, .none⟩
  | .lidtMs b m => ⟨b, true, 0x01, some (3, .mem m), .none, false, .no, false, .none⟩
  | .smswEw b e => ⟨b, true, 0x01, some (4, e), .none, false, .no, false, .none⟩
  | .lmswEw b e => ⟨b, true, 0x01, some (6, e), .none, false, .no, false, .none⟩
  | .invlpgM b m => ⟨b, true, 0x01, some (7, .mem m), .none, false, .no, false, .none⟩
  | .larGvEw b g e => ⟨b, true, 0x02, some (g, e), .none, false, .no, true, .none⟩
  | .lslGvEw b g e => ⟨b, true, 0x03, some (g, e), .none, false, .no, true, .none⟩
  | .clts b => ⟨b, true, 0x06, none, .none, false, .no, false, .none⟩
  | .invd b => ⟨b, true, 0x08, none, .none, false, .no, false, .none⟩
  | .wbinvd b => ⟨b, true, 0x09, none, .none, false, .no, false, .none⟩
  | .ud2 b => ⟨b, true, 0x0B, none, .none, false, .no, false, .none⟩
  | .movRdCd b r c => ⟨b, true, 0x20, some (c.num, .reg r), .none, false, .no, false, .none⟩
  | .movRdDd b r d => ⟨b, true, 0x21, some (d, .reg r), .none, false, .no, false, .debug d⟩
  | .movCdRd b c r => ⟨b, true, 0x22, some (c.num, .reg r), .none, false, .no, false, .none⟩
  | .movDdRd b d r => ⟨b, true, 0x23, some (d, .reg r), .none, false, .no, false, .debug d⟩
  | .wrmsr b => ⟨b, true, 0x30, none, .none, false, .no, false, .none⟩
  | .rdtsc b => ⟨b, true, 0x31, none, .none, false, .no, false, .none⟩
  | .rdmsr b => ⟨b, true, 0x32, none, .none, false, .no, false, .none⟩
  | .cmovccGvEv b cc g e => ⟨b, true, 0x40 ||| cc.setWidth 8, some (g, e), .none, false, .no, false, .none⟩
  | .jccJz b cc disp => ⟨b, true, 0x80 ||| cc.setWidth 8, none, .iz disp, false, .no, false, .none⟩
  | .setccEb b cc e => ⟨b, true, 0x90 ||| cc.setWidth 8, some (0, e), .none, false, .no, false, .none⟩
  | .pushFs b => ⟨b, true, 0xA0, none, .none, false, .no, false, .none⟩
  | .popFs b => ⟨b, true, 0xA1, none, .none, false, .no, false, .none⟩
  | .cpuid b => ⟨b, true, 0xA2, none, .none, false, .no, false, .none⟩
  | .btEvGv b e g => ⟨b, true, 0xA3, some (g, e), .none, false, .no, false, .none⟩
  | .shldEvGvIb b e g imm => ⟨b, true, 0xA4, some (g, e), .ib imm, false, .no, false, .none⟩
  | .shldEvGvCl b e g => ⟨b, true, 0xA5, some (g, e), .none, false, .no, false, .none⟩
  | .pushGs b => ⟨b, true, 0xA8, none, .none, false, .no, false, .none⟩
  | .popGs b => ⟨b, true, 0xA9, none, .none, false, .no, false, .none⟩
  | .rsm b => ⟨b, true, 0xAA, none, .none, false, .no, false, .none⟩
  | .btsEvGv b e g => ⟨b, true, 0xAB, some (g, e), .none, true, .no, false, .none⟩
  | .shrdEvGvIb b e g imm => ⟨b, true, 0xAC, some (g, e), .ib imm, false, .no, false, .none⟩
  | .shrdEvGvCl b e g => ⟨b, true, 0xAD, some (g, e), .none, false, .no, false, .none⟩
  | .imulGvEv b g e => ⟨b, true, 0xAF, some (g, e), .none, false, .no, false, .none⟩
  | .cmpxchgEbGb b e g => ⟨b, true, 0xB0, some (g, e), .none, true, .no, false, .none⟩
  | .cmpxchgEvGv b e g => ⟨b, true, 0xB1, some (g, e), .none, true, .no, false, .none⟩
  | .lssGvMp b g m => ⟨b, true, 0xB2, some (g, .mem m), .none, false, .no, false, .none⟩
  | .btrEvGv b e g => ⟨b, true, 0xB3, some (g, e), .none, true, .no, false, .none⟩
  | .lfsGvMp b g m => ⟨b, true, 0xB4, some (g, .mem m), .none, false, .no, false, .none⟩
  | .lgsGvMp b g m => ⟨b, true, 0xB5, some (g, .mem m), .none, false, .no, false, .none⟩
  | .movzxGvEb b g e => ⟨b, true, 0xB6, some (g, e), .none, false, .no, false, .none⟩
  | .movzxGvEw b g e => ⟨b, true, 0xB7, some (g, e), .none, false, .no, false, .none⟩
  | .btEvIb b e imm => ⟨b, true, 0xBA, some (4, e), .ib imm, false, .no, false, .none⟩
  | .btsEvIb b e imm => ⟨b, true, 0xBA, some (5, e), .ib imm, true, .no, false, .none⟩
  | .btrEvIb b e imm => ⟨b, true, 0xBA, some (6, e), .ib imm, true, .no, false, .none⟩
  | .btcEvIb b e imm => ⟨b, true, 0xBA, some (7, e), .ib imm, true, .no, false, .none⟩
  | .btcEvGv b e g => ⟨b, true, 0xBB, some (g, e), .none, true, .no, false, .none⟩
  | .bsfGvEv b g e => ⟨b, true, 0xBC, some (g, e), .none, false, .no, false, .none⟩
  | .bsrGvEv b g e => ⟨b, true, 0xBD, some (g, e), .none, false, .no, false, .none⟩
  | .movsxGvEb b g e => ⟨b, true, 0xBE, some (g, e), .none, false, .no, false, .none⟩
  | .movsxGvEw b g e => ⟨b, true, 0xBF, some (g, e), .none, false, .no, false, .none⟩
  | .xaddEbGb b e g => ⟨b, true, 0xC0, some (g, e), .none, true, .no, false, .none⟩
  | .xaddEvGv b e g => ⟨b, true, 0xC1, some (g, e), .none, true, .no, false, .none⟩
  | .cmpxchg8bMq b m => ⟨b, true, 0xC7, some (1, .mem m), .none, true, .no, false, .none⟩
  | .bswapZd b r => ⟨b, true, 0xC8 ||| r.setWidth 8, none, .none, false, .no, false, .none⟩

/-- The attributes of an instruction. -/
def Instr.bound (i : Instr) : Bound := i.parts.bound

end Sys2Proof
end

