-- ==== Sys2Proof/WellFormed.lean ====
section
/-! DEFINITION. Which terms of Instr an encoding can give: every field in the range its encoding has, and the
illegal encodings of spec/30_encoding.md R302 to R304, R307, R351 and R352 shut out. -/
namespace Sys2Proof

/-- What decoding reads of the machine: CS.db (R305), CR0.PE (R352), CR4.DE (R351). -/
structure DecodeMode where
  db : Bool
  pe : Bool
  de : Bool
deriving DecidableEq, Repr, Inhabited

/-- The default size of the code (R305). -/
def DecodeMode.size (m : DecodeMode) : Size := if m.db then .s32 else .s16

/-- The form is one of its address size (R320, R322, R323): a bare offset has its own form, and rm 4 of 32-bit
addressing is the SIB. -/
def Addr.wf (asz : Size) : Addr → Bool
  | .a16 rm d => asz == .s16 && (rm != 6#3 || d != .none)
  | .abs16 _ => asz == .s16
  | .a32 rm d => asz == .s32 && rm != 4#3 && (rm != 5#3 || d != .none)
  | .abs32 _ => asz == .s32
  | .sib _ _ base d => asz == .s32 && (base != 5#3 || d != .none)
  | .sibAbs _ _ _ => asz == .s32

def Rm.wf (asz : Size) : Rm → Bool
  | .reg _ => true
  | .mem a => a.wf asz

def Rm.isMem : Rm → Bool
  | .reg _ => false
  | .mem _ => true

/-- A value of a size stands in 32 bits with nothing above the size. -/
def Size.fits (z : Size) (v : Word) : Bool := v &&& ~~~z.mask == 0#32

/-- Immediates of operand or address size fit it (R330). -/
def Imm.wf (osz asz : Size) : Imm → Bool
  | .iz v => osz.fits v
  | .moffs v => asz.fits v
  | .ap off _ => osz.fits off
  | _ => true

/-- LOCK only on the rows of R303 with a memory destination, and never with a repeat prefix (R302). -/
def Parts.lockOk (p : Parts) : Bool :=
  !p.bound.lock || (p.lockable && p.bound.rep == .none &&
    match p.modrm with
    | some (_, e) => e.isMem
    | none => false)

/-- F2 and F3 only on string instructions; F3 also on NOP, as PAUSE (R304). -/
def RepUse.allows : RepUse → Rep → Bool
  | _, .none => true
  | .string, _ => true
  | .pause, .rep => true
  | .pause, .repne => false
  | .no, _ => false

/-- CS is not loaded by MOV (R351), and DR4 and DR5 do not exist with CR4.DE (R351). -/
def Special.ok (m : DecodeMode) : Special → Bool
  | .none => true
  | .loadSeg r => r != .cs
  | .debug d => !(m.de && (d == 4#3 || d == 5#3))

/-- The number of different prefix bytes the attributes need (R301, R305). -/
def Bound.prefixCount (m : DecodeMode) (b : Bound) : Nat :=
  (if b.lock then 1 else 0) + (if b.rep == .none then 0 else 1) + (if b.seg.isSome then 1 else 0)
    + (if b.osz == m.size then 0 else 1) + (if b.asz == m.size then 0 else 1)

def Disp16.length : Disp16 → Nat
  | .none => 0
  | .d8 _ => 1
  | .d16 _ => 2

def Disp32.length : Disp32 → Nat
  | .none => 0
  | .d8 _ => 1
  | .d32 _ => 4

/-- Bytes of the r/m operand after the ModRM byte: SIB and displacement (R360). -/
def Rm.tailLength : Rm → Nat
  | .reg _ => 0
  | .mem (.a16 _ d) => d.length
  | .mem (.abs16 _) => 2
  | .mem (.a32 _ d) => d.length
  | .mem (.abs32 _) => 4
  | .mem (.sib _ _ _ d) => 1 + d.length
  | .mem (.sibAbs _ _ _) => 5

/-- Bytes of the immediate (R330). -/
def Imm.length (osz asz : Size) : Imm → Nat
  | .none => 0
  | .ib _ => 1
  | .iw _ => 2
  | .iz _ => osz.bytes
  | .moffs _ => asz.bytes
  | .ap _ _ => osz.bytes + 2
  | .iwib _ _ => 3

/-- Bytes from the escape or opcode to the end (R300). -/
def Parts.bodyLength (p : Parts) : Nat :=
  (if p.esc then 2 else 1)
    + (match p.modrm with
       | some (_, e) => 1 + e.tailLength
       | none => 0)
    + p.imm.length p.bound.osz p.bound.asz

/-- The length is the body with one byte for every prefix, or more when a prefix is repeated (R302), and at most 15
(R307). -/
def Parts.lenOk (m : DecodeMode) (p : Parts) : Bool :=
  let c := p.bound.prefixCount m
  (p.bound.len == c + p.bodyLength || (decide (c + p.bodyLength < p.bound.len) && c != 0)) && decide (p.bound.len ≤ 15)

def Parts.wf (m : DecodeMode) (p : Parts) : Bool :=
  (match p.modrm with
   | some (_, e) => e.wf p.bound.asz
   | none => true)
    && p.imm.wf p.bound.osz p.bound.asz
    && p.lockOk
    && p.rep.allows p.bound.rep
    && (!p.pmOnly || m.pe)
    && p.special.ok m
    && p.lenOk m

/-- An instruction some bytes encode in this mode. -/
def Instr.wf (m : DecodeMode) (i : Instr) : Bool := i.parts.wf m

end Sys2Proof
end

