-- ==== Sys2Proof/Decode.lean ====
section
/-! DEFINITION. Decode (spec/30_encoding.md R300 to R362): a total function from a byte port to an instruction or a
named stop, table-driven from spec/opcode_table.json; after it the encoder and decodeTableWord. Definitions that build
an Instr are noncomputable only because Lean's run-time code has no constructor tags above 244; the kernel evaluates
them. -/
namespace Sys2Proof

/-- Why decoding stops; `ε` is what a byte of the port can fail with (R354). -/
inductive DecodeStop (ε : Type) where
  /-- #UD: R303, R350, R351, R352. -/
  | ud
  /-- #GP(0): a 16th byte would be fetched (R307). -/
  | tooLong
  /-- refuse(PrefixConflict) (R302). -/
  | prefixConflict
  /-- refuse(RepOnNonString) (R304). -/
  | repOnNonString
  /-- The byte could not be fetched. -/
  | port (e : ε)
deriving DecidableEq, Repr

/-- The instruction-stream port (R10): byte k of the instruction. -/
abbrev Port (ε : Type) := Nat → Except ε Byte

/-- Byte k, never past the 15th (R307). -/
def readByte {ε : Type} (p : Port ε) (k : Nat) : Except (DecodeStop ε) Byte :=
  if 15 ≤ k then .error .tooLong
  else match p k with
    | .ok b => .ok b
    | .error e => .error (.port e)

def readHalf {ε : Type} (p : Port ε) (k : Nat) : Except (DecodeStop ε) (Half × Nat) := do
  let b0 ← readByte p k
  let b1 ← readByte p (k + 1)
  return (b1 ++ b0, k + 2)

def readWord {ε : Type} (p : Port ε) (k : Nat) : Except (DecodeStop ε) (Word × Nat) := do
  let (h0, k1) ← readHalf p k
  let (h1, k2) ← readHalf p k1
  return (h1 ++ h0, k2)

/-- A little-endian value of a size, zero-extended. -/
def readSized {ε : Type} (p : Port ε) (z : Size) (k : Nat) : Except (DecodeStop ε) (Word × Nat) :=
  match z with
  | .s16 => do
    let (h, k1) ← readHalf p k
    return (h.setWidth 32, k1)
  | .s32 => readWord p k

/-- What one prefix byte says (R301). -/
inductive PrefixByte where
  | lock | repne | rep | seg (r : SegReg) | osz | asz
deriving DecidableEq, Repr

/-- The prefix bytes (R301). -/
def PrefixByte.ofByte (b : Byte) : Option PrefixByte :=
  match b.toNat with
  | 0xF0 => some .lock
  | 0xF2 => some .repne
  | 0xF3 => some .rep
  | 0x26 => some (.seg .es)
  | 0x2E => some (.seg .cs)
  | 0x36 => some (.seg .ss)
  | 0x3E => some (.seg .ds)
  | 0x64 => some (.seg .fs)
  | 0x65 => some (.seg .gs)
  | 0x66 => some .osz
  | 0x67 => some .asz
  | _ => none

/-- The prefix state (R11, R301). -/
structure Prefixes where
  lock : Bool
  rep : Rep
  seg : Option SegReg
  osz : Bool
  asz : Bool
deriving DecidableEq, Repr

def Prefixes.empty : Prefixes := ⟨false, .none, none, false, false⟩

/-- One more prefix byte; none is a conflict (R302). A repeated byte changes nothing. -/
def Prefixes.add (x : Prefixes) : PrefixByte → Option Prefixes
  | .lock => if x.rep == .none then some { x with lock := true } else none
  | .repne => if x.lock || x.rep == .rep then none else some { x with rep := .repne }
  | .rep => if x.lock || x.rep == .repne then none else some { x with rep := .rep }
  | .seg r => if x.seg == none || x.seg == some r then some { x with seg := some r } else none
  | .osz => some { x with osz := true }
  | .asz => some { x with asz := true }

/-- The prefix stage (R301, R360): the prefix state, the first byte that is no prefix, the index after it. A conflict
is refused when its byte is read (log 6). -/
def readPrefixes {ε : Type} (p : Port ε) : Nat → Nat → Prefixes → Except (DecodeStop ε) (Prefixes × Byte × Nat)
  | 0, _, _ => .error .tooLong
  | fuel + 1, k, x => do
    let b ← readByte p k
    match PrefixByte.ofByte b with
    | none => return (x, b, k + 1)
    | some q =>
      match x.add q with
      | none => .error .prefixConflict
      | some y => readPrefixes p fuel (k + 1) y

/-- Operand size and address size (R305). -/
def DecodeMode.sized (m : DecodeMode) (overridden : Bool) : Size := if m.db != overridden then .s32 else .s16

/-- Which part of ModRM a row reads: no ModRM, an r/m operand, memory only (R351), or a register whatever mod says
(R342). -/
inductive ModrmUse where
  | absent | rm | mem | regOnly
deriving DecidableEq, Repr

inductive ImmUse where
  | none | ib | iw | iz | moffs | ap | iwib
deriving DecidableEq, Repr

/-- What the reg field names. -/
inductive RegUse where
  | gpr | seg | segLoad | creg | dreg
deriving DecidableEq, Repr

/-- The fields a row binds. -/
structure Fields where
  op : Byte
  reg : BitVec 3
  e : Rm
  imm : Imm
deriving DecidableEq, Repr

def Fields.r (f : Fields) : BitVec 3 := f.op.setWidth 3
def Fields.cc (f : Fields) : BitVec 4 := f.op.setWidth 4
def Fields.m (f : Fields) : Addr :=
  match f.e with
  | .mem a => a
  | .reg _ => .abs16 0#16
def Fields.er (f : Fields) : BitVec 3 :=
  match f.e with
  | .reg r => r
  | .mem _ => 0#3
def Fields.sreg (f : Fields) : SegReg := (SegReg.ofNum f.reg).getD .es
def Fields.creg (f : Fields) : ControlReg := (ControlReg.ofNum f.reg).getD .cr0
def Fields.byte (f : Fields) : Byte :=
  match f.imm with
  | .ib b => b
  | .iwib _ b => b
  | _ => 0#8
def Fields.half (f : Fields) : Half :=
  match f.imm with
  | .iw h => h
  | .iwib h _ => h
  | .ap _ s => s
  | _ => 0#16
def Fields.word (f : Fields) : Word :=
  match f.imm with
  | .iz v => v
  | .moffs v => v
  | .ap v _ => v
  | _ => 0#32

/-- A row of the opcode table: the bytes match when the escape agrees and (opcode and mask) = op, and, for a group
member, the ModRM reg field is ext. -/
structure Row where
  esc : Bool
  op : Byte
  mask : Byte
  ext : Option (BitVec 3)
  modrm : ModrmUse
  imm : ImmUse
  reg : RegUse
  lockable : Bool
  rep : RepUse
  pmOnly : Bool
  bind : Bound → Fields → Instr

/-- Rows of spec/opcode_table.json, part 1. -/
def opTable1 : List Row := [
  ⟨false, 0x00, 0xFF, none, .rm, .none, .gpr, true, .no, false, fun b f => .addEbGb b f.e f.reg⟩,
  ⟨false, 0x01, 0xFF, none, .rm, .none, .gpr, true, .no, false, fun b f => .addEvGv b f.e f.reg⟩,
  ⟨false, 0x02, 0xFF, none, .rm, .none, .gpr, false, .no, false, fun b f => .addGbEb b f.reg f.e⟩,
  ⟨false, 0x03, 0xFF, none, .rm, .none, .gpr, false, .no, false, fun b f => .addGvEv b f.reg f.e⟩,
  ⟨false, 0x04, 0xFF, none, .absent, .ib, .gpr, false, .no, false, fun b f => .addAlIb b f.byte⟩,
  ⟨false, 0x05, 0xFF, none, .absent, .iz, .gpr, false, .no, false, fun b f => .addEaxIz b f.word⟩,
  ⟨false, 0x06, 0xFF, none, .absent, .none, .gpr, false, .no, false, fun b _ => .pushEs b⟩,
  ⟨false, 0x07, 0xFF, none, .absent, .none, .gpr, false, .no, false, fun b _ => .popEs b⟩,
  ⟨false, 0x08, 0xFF, none, .rm, .none, .gpr, true, .no, false, fun b f => .orEbGb b f.e f.reg⟩,
  ⟨false, 0x09, 0xFF, none, .rm, .none, .gpr, true, .no, false, fun b f => .orEvGv b f.e f.reg⟩,
  ⟨false, 0x0A, 0xFF, none, .rm, .none, .gpr, false, .no, false, fun b f => .orGbEb b f.reg f.e⟩,
  ⟨false, 0x0B, 0xFF, none, .rm, .none, .gpr, false, .no, false, fun b f => .orGvEv b f.reg f.e⟩,
  ⟨false, 0x0C, 0xFF, none, .absent, .ib, .gpr, false, .no, false, fun b f => .orAlIb b f.byte⟩,
  ⟨false, 0x0D, 0xFF, none, .absent, .iz, .gpr, false, .no, false, fun b f => .orEaxIz b f.word⟩,
  ⟨false, 0x0E, 0xFF, none, .absent, .none, .gpr, false, .no, false, fun b _ => .pushCs b⟩,
  ⟨false, 0x10, 0xFF, none, .rm, .none, .gpr, true, .no, false, fun b f => .adcEbGb b f.e f.reg⟩,
  ⟨false, 0x11, 0xFF, none, .rm, .none, .gpr, true, .no, false, fun b f => .adcEvGv b f.e f.reg⟩,
  ⟨false, 0x12, 0xFF, none, .rm, .none, .gpr, false, .no, false, fun b f => .adcGbEb b f.reg f.e⟩,
  ⟨false, 0x13, 0xFF, none, .rm, .none, .gpr, false, .no, false, fun b f => .adcGvEv b f.reg f.e⟩,
  ⟨false, 0x14, 0xFF, none, .absent, .ib, .gpr, false, .no, false, fun b f => .adcAlIb b f.byte⟩,
  ⟨false, 0x15, 0xFF, none, .absent, .iz, .gpr, false, .no, false, fun b f => .adcEaxIz b f.word⟩,
  ⟨false, 0x16, 0xFF, none, .absent, .none, .gpr, false, .no, false, fun b _ => .pushSs b⟩,
  ⟨false, 0x17, 0xFF, none, .absent, .none, .gpr, false, .no, false, fun b _ => .popSs b⟩,
  ⟨false, 0x18, 0xFF, none, .rm, .none, .gpr, true, .no, false, fun b f => .sbbEbGb b f.e f.reg⟩]

/-- Rows of spec/opcode_table.json, part 2. -/
def opTable2 : List Row := [
  ⟨false, 0x19, 0xFF, none, .rm, .none, .gpr, true, .no, false, fun b f => .sbbEvGv b f.e f.reg⟩,
  ⟨false, 0x1A, 0xFF, none, .rm, .none, .gpr, false, .no, false, fun b f => .sbbGbEb b f.reg f.e⟩,
  ⟨false, 0x1B, 0xFF, none, .rm, .none, .gpr, false, .no, false, fun b f => .sbbGvEv b f.reg f.e⟩,
  ⟨false, 0x1C, 0xFF, none, .absent, .ib, .gpr, false, .no, false, fun b f => .sbbAlIb b f.byte⟩,
  ⟨false, 0x1D, 0xFF, none, .absent, .iz, .gpr, false, .no, false, fun b f => .sbbEaxIz b f.word⟩,
  ⟨false, 0x1E, 0xFF, none, .absent, .none, .gpr, false, .no, false, fun b _ => .pushDs b⟩,
  ⟨false, 0x1F, 0xFF, none, .absent, .none, .gpr, false, .no, false, fun b _ => .popDs b⟩,
  ⟨false, 0x20, 0xFF, none, .rm, .none, .gpr, true, .no, false, fun b f => .andEbGb b f.e f.reg⟩,
  ⟨false, 0x21, 0xFF, none, .rm, .none, .gpr, true, .no, false, fun b f => .andEvGv b f.e f.reg⟩,
  ⟨false, 0x22, 0xFF, none, .rm, .none, .gpr, false, .no, false, fun b f => .andGbEb b f.reg f.e⟩,
  ⟨false, 0x23, 0xFF, none, .rm, .none, .gpr, false, .no, false, fun b f => .andGvEv b f.reg f.e⟩,
  ⟨false, 0x24, 0xFF, none, .absent, .ib, .gpr, false, .no, false, fun b f => .andAlIb b f.byte⟩,
  ⟨false, 0x25, 0xFF, none, .absent, .iz, .gpr, false, .no, false, fun b f => .andEaxIz b f.word⟩,
  ⟨false, 0x27, 0xFF, none, .absent, .none, .gpr, false, .no, false, fun b _ => .daa b⟩,
  ⟨false, 0x28, 0xFF, none, .rm, .none, .gpr, true, .no, false, fun b f => .subEbGb b f.e f.reg⟩,
  ⟨false, 0x29, 0xFF, none, .rm, .none, .gpr, true, .no, false, fun b f => .subEvGv b f.e f.reg⟩,
  ⟨false, 0x2A, 0xFF, none, .rm, .none, .gpr, false, .no, false, fun b f => .subGbEb b f.reg f.e⟩,
  ⟨false, 0x2B, 0xFF, none, .rm, .none, .gpr, false, .no, false, fun b f => .subGvEv b f.reg f.e⟩,
  ⟨false, 0x2C, 0xFF, none, .absent, .ib, .gpr, false, .no, false, fun b f => .subAlIb b f.byte⟩,
  ⟨false, 0x2D, 0xFF, none, .absent, .iz, .gpr, false, .no, false, fun b f => .subEaxIz b f.word⟩,
  ⟨false, 0x2F, 0xFF, none, .absent, .none, .gpr, false, .no, false, fun b _ => .das b⟩,
  ⟨false, 0x30, 0xFF, none, .rm, .none, .gpr, true, .no, false, fun b f => .xorEbGb b f.e f.reg⟩,
  ⟨false, 0x31, 0xFF, none, .rm, .none, .gpr, true, .no, false, fun b f => .xorEvGv b f.e f.reg⟩,
  ⟨false, 0x32, 0xFF, none, .rm, .none, .gpr, false, .no, false, fun b f => .xorGbEb b f.reg f.e⟩]

/-- Rows of spec/opcode_table.json, part 3. -/
def opTable3 : List Row := [
  ⟨false, 0x33, 0xFF, none, .rm, .none, .gpr, false, .no, false, fun b f => .xorGvEv b f.reg f.e⟩,
  ⟨false, 0x34, 0xFF, none, .absent, .ib, .gpr, false, .no, false, fun b f => .xorAlIb b f.byte⟩,
  ⟨false, 0x35, 0xFF, none, .absent, .iz, .gpr, false, .no, false, fun b f => .xorEaxIz b f.word⟩,
  ⟨false, 0x37, 0xFF, none, .absent, .none, .gpr, false, .no, false, fun b _ => .aaa b⟩,
  ⟨false, 0x38, 0xFF, none, .rm, .none, .gpr, false, .no, false, fun b f => .cmpEbGb b f.e f.reg⟩,
  ⟨false, 0x39, 0xFF, none, .rm, .none, .gpr, false, .no, false, fun b f => .cmpEvGv b f.e f.reg⟩,
  ⟨false, 0x3A, 0xFF, none, .rm, .none, .gpr, false, .no, false, fun b f => .cmpGbEb b f.reg f.e⟩,
  ⟨false, 0x3B, 0xFF, none, .rm, .none, .gpr, false, .no, false, fun b f => .cmpGvEv b f.reg f.e⟩,
  ⟨false, 0x3C, 0xFF, none, .absent, .ib, .gpr, false, .no, false, fun b f => .cmpAlIb b f.byte⟩,
  ⟨false, 0x3D, 0xFF, none, .absent, .iz, .gpr, false, .no, false, fun b f => .cmpEaxIz b f.word⟩,
  ⟨false, 0x3F, 0xFF, none, .absent, .none, .gpr, false, .no, false, fun b _ => .aas b⟩,
  ⟨false, 0x40, 0xF8, none, .absent, .none, .gpr, false, .no, false, fun b f => .incZv b f.r⟩,
  ⟨false, 0x48, 0xF8, none, .absent, .none, .gpr, false, .no, false, fun b f => .decZv b f.r⟩,
  ⟨false, 0x50, 0xF8, none, .absent, .none, .gpr, false, .no, false, fun b f => .pushZv b f.r⟩,
  ⟨false, 0x58, 0xF8, none, .absent, .none, .gpr, false, .no, false, fun b f => .popZv b f.r⟩,
  ⟨false, 0x60, 0xFF, none, .absent, .none, .gpr, false, .no, false, fun b _ => .pusha b⟩,
  ⟨false, 0x61, 0xFF, none, .absent, .none, .gpr, false, .no, false, fun b _ => .popa b⟩,
  ⟨false, 0x62, 0xFF, none, .mem, .none, .gpr, false, .no, false, fun b f => .boundGvMa b f.reg f.m⟩,
  ⟨false, 0x63, 0xFF, none, .rm, .none, .gpr, false, .no, true, fun b f => .arplEwGw b f.e f.reg⟩,
  ⟨false, 0x68, 0xFF, none, .absent, .iz, .gpr, false, .no, false, fun b f => .pushIz b f.word⟩,
  ⟨false, 0x69, 0xFF, none, .rm, .iz, .gpr, false, .no, false, fun b f => .imulGvEvIz b f.reg f.e f.word⟩,
  ⟨false, 0x6A, 0xFF, none, .absent, .ib, .gpr, false, .no, false, fun b f => .pushIbs b f.byte⟩,
  ⟨false, 0x6B, 0xFF, none, .rm, .ib, .gpr, false, .no, false, fun b f => .imulGvEvIbs b f.reg f.e f.byte⟩,
  ⟨false, 0x6C, 0xFF, none, .absent, .none, .gpr, false, .string, false, fun b _ => .insb b⟩]

/-- Rows of spec/opcode_table.json, part 4. -/
def opTable4 : List Row := [
  ⟨false, 0x6D, 0xFF, none, .absent, .none, .gpr, false, .string, false, fun b _ => .insv b⟩,
  ⟨false, 0x6E, 0xFF, none, .absent, .none, .gpr, false, .string, false, fun b _ => .outsb b⟩,
  ⟨false, 0x6F, 0xFF, none, .absent, .none, .gpr, false, .string, false, fun b _ => .outsv b⟩,
  ⟨false, 0x70, 0xF0, none, .absent, .ib, .gpr, false, .no, false, fun b f => .jccJb b f.cc f.byte⟩,
  ⟨false, 0x80, 0xFF, some 0, .rm, .ib, .gpr, true, .no, false, fun b f => .addEbIb b f.e f.byte⟩,
  ⟨false, 0x80, 0xFF, some 1, .rm, .ib, .gpr, true, .no, false, fun b f => .orEbIb b f.e f.byte⟩,
  ⟨false, 0x80, 0xFF, some 2, .rm, .ib, .gpr, true, .no, false, fun b f => .adcEbIb b f.e f.byte⟩,
  ⟨false, 0x80, 0xFF, some 3, .rm, .ib, .gpr, true, .no, false, fun b f => .sbbEbIb b f.e f.byte⟩,
  ⟨false, 0x80, 0xFF, some 4, .rm, .ib, .gpr, true, .no, false, fun b f => .andEbIb b f.e f.byte⟩,
  ⟨false, 0x80, 0xFF, some 5, .rm, .ib, .gpr, true, .no, false, fun b f => .subEbIb b f.e f.byte⟩,
  ⟨false, 0x80, 0xFF, some 6, .rm, .ib, .gpr, true, .no, false, fun b f => .xorEbIb b f.e f.byte⟩,
  ⟨false, 0x80, 0xFF, some 7, .rm, .ib, .gpr, false, .no, false, fun b f => .cmpEbIb b f.e f.byte⟩,
  ⟨false, 0x81, 0xFF, some 0, .rm, .iz, .gpr, true, .no, false, fun b f => .addEvIz b f.e f.word⟩,
  ⟨false, 0x81, 0xFF, some 1, .rm, .iz, .gpr, true, .no, false, fun b f => .orEvIz b f.e f.word⟩,
  ⟨false, 0x81, 0xFF, some 2, .rm, .iz, .gpr, true, .no, false, fun b f => .adcEvIz b f.e f.word⟩,
  ⟨false, 0x81, 0xFF, some 3, .rm, .iz, .gpr, true, .no, false, fun b f => .sbbEvIz b f.e f.word⟩,
  ⟨false, 0x81, 0xFF, some 4, .rm, .iz, .gpr, true, .no, false, fun b f => .andEvIz b f.e f.word⟩,
  ⟨false, 0x81, 0xFF, some 5, .rm, .iz, .gpr, true, .no, false, fun b f => .subEvIz b f.e f.word⟩,
  ⟨false, 0x81, 0xFF, some 6, .rm, .iz, .gpr, true, .no, false, fun b f => .xorEvIz b f.e f.word⟩,
  ⟨false, 0x81, 0xFF, some 7, .rm, .iz, .gpr, false, .no, false, fun b f => .cmpEvIz b f.e f.word⟩,
  ⟨false, 0x82, 0xFF, some 0, .rm, .ib, .gpr, true, .no, false, fun b f => .addEbIb82 b f.e f.byte⟩,
  ⟨false, 0x82, 0xFF, some 1, .rm, .ib, .gpr, true, .no, false, fun b f => .orEbIb82 b f.e f.byte⟩,
  ⟨false, 0x82, 0xFF, some 2, .rm, .ib, .gpr, true, .no, false, fun b f => .adcEbIb82 b f.e f.byte⟩,
  ⟨false, 0x82, 0xFF, some 3, .rm, .ib, .gpr, true, .no, false, fun b f => .sbbEbIb82 b f.e f.byte⟩]

/-- Rows of spec/opcode_table.json, part 5. -/
def opTable5 : List Row := [
  ⟨false, 0x82, 0xFF, some 4, .rm, .ib, .gpr, true, .no, false, fun b f => .andEbIb82 b f.e f.byte⟩,
  ⟨false, 0x82, 0xFF, some 5, .rm, .ib, .gpr, true, .no, false, fun b f => .subEbIb82 b f.e f.byte⟩,
  ⟨false, 0x82, 0xFF, some 6, .rm, .ib, .gpr, true, .no, false, fun b f => .xorEbIb82 b f.e f.byte⟩,
  ⟨false, 0x82, 0xFF, some 7, .rm, .ib, .gpr, false, .no, false, fun b f => .cmpEbIb82 b f.e f.byte⟩,
  ⟨false, 0x83, 0xFF, some 0, .rm, .ib, .gpr, true, .no, false, fun b f => .addEvIbs b f.e f.byte⟩,
  ⟨false, 0x83, 0xFF, some 1, .rm, .ib, .gpr, true, .no, false, fun b f => .orEvIbs b f.e f.byte⟩,
  ⟨false, 0x83, 0xFF, some 2, .rm, .ib, .gpr, true, .no, false, fun b f => .adcEvIbs b f.e f.byte⟩,
  ⟨false, 0x83, 0xFF, some 3, .rm, .ib, .gpr, true, .no, false, fun b f => .sbbEvIbs b f.e f.byte⟩,
  ⟨false, 0x83, 0xFF, some 4, .rm, .ib, .gpr, true, .no, false, fun b f => .andEvIbs b f.e f.byte⟩,
  ⟨false, 0x83, 0xFF, some 5, .rm, .ib, .gpr, true, .no, false, fun b f => .subEvIbs b f.e f.byte⟩,
  ⟨false, 0x83, 0xFF, some 6, .rm, .ib, .gpr, true, .no, false, fun b f => .xorEvIbs b f.e f.byte⟩,
  ⟨false, 0x83, 0xFF, some 7, .rm, .ib, .gpr, false, .no, false, fun b f => .cmpEvIbs b f.e f.byte⟩,
  ⟨false, 0x84, 0xFF, none, .rm, .none, .gpr, false, .no, false, fun b f => .testEbGb b f.e f.reg⟩,
  ⟨false, 0x85, 0xFF, none, .rm, .none, .gpr, false, .no, false, fun b f => .testEvGv b f.e f.reg⟩,
  ⟨false, 0x86, 0xFF, none, .rm, .none, .gpr, true, .no, false, fun b f => .xchgEbGb b f.e f.reg⟩,
  ⟨false, 0x87, 0xFF, none, .rm, .none, .gpr, true, .no, false, fun b f => .xchgEvGv b f.e f.reg⟩,
  ⟨false, 0x88, 0xFF, none, .rm, .none, .gpr, false, .no, false, fun b f => .movEbGb b f.e f.reg⟩,
  ⟨false, 0x89, 0xFF, none, .rm, .none, .gpr, false, .no, false, fun b f => .movEvGv b f.e f.reg⟩,
  ⟨false, 0x8A, 0xFF, none, .rm, .none, .gpr, false, .no, false, fun b f => .movGbEb b f.reg f.e⟩,
  ⟨false, 0x8B, 0xFF, none, .rm, .none, .gpr, false, .no, false, fun b f => .movGvEv b f.reg f.e⟩,
  ⟨false, 0x8C, 0xFF, none, .rm, .none, .seg, false, .no, false, fun b f => .movEwSw b f.e f.sreg⟩,
  ⟨false, 0x8D, 0xFF, none, .mem, .none, .gpr, false, .no, false, fun b f => .leaGvM b f.reg f.m⟩,
  ⟨false, 0x8E, 0xFF, none, .rm, .none, .segLoad, false, .no, false, fun b f => .movSwEw b f.sreg f.e⟩,
  ⟨false, 0x8F, 0xFF, some 0, .rm, .none, .gpr, false, .no, false, fun b f => .popEv b f.e⟩]

/-- Rows of spec/opcode_table.json, part 6. -/
def opTable6 : List Row := [
  ⟨false, 0x90, 0xFF, none, .absent, .none, .gpr, false, .pause, false, fun b _ => .nop b⟩,
  ⟨false, 0x91, 0xFF, none, .absent, .none, .gpr, false, .no, false, fun b _ => .xchgEaxR1 b⟩,
  ⟨false, 0x92, 0xFF, none, .absent, .none, .gpr, false, .no, false, fun b _ => .xchgEaxR2 b⟩,
  ⟨false, 0x93, 0xFF, none, .absent, .none, .gpr, false, .no, false, fun b _ => .xchgEaxR3 b⟩,
  ⟨false, 0x94, 0xFF, none, .absent, .none, .gpr, false, .no, false, fun b _ => .xchgEaxR4 b⟩,
  ⟨false, 0x95, 0xFF, none, .absent, .none, .gpr, false, .no, false, fun b _ => .xchgEaxR5 b⟩,
  ⟨false, 0x96, 0xFF, none, .absent, .none, .gpr, false, .no, false, fun b _ => .xchgEaxR6 b⟩,
  ⟨false, 0x97, 0xFF, none, .absent, .none, .gpr, false, .no, false, fun b _ => .xchgEaxR7 b⟩,
  ⟨false, 0x98, 0xFF, none, .absent, .none, .gpr, false, .no, false, fun b _ => .cbw b⟩,
  ⟨false, 0x99, 0xFF, none, .absent, .none, .gpr, false, .no, false, fun b _ => .cwd b⟩,
  ⟨false, 0x9A, 0xFF, none, .absent, .ap, .gpr, false, .no, false, fun b f => .callAp b f.word f.half⟩,
  ⟨false, 0x9B, 0xFF, none, .absent, .none, .gpr, false, .no, false, fun b _ => .wait b⟩,
  ⟨false, 0x9C, 0xFF, none, .absent, .none, .gpr, false, .no, false, fun b _ => .pushf b⟩,
  ⟨false, 0x9D, 0xFF, none, .absent, .none, .gpr, false, .no, false, fun b _ => .popf b⟩,
  ⟨false, 0x9E, 0xFF, none, .absent, .none, .gpr, false, .no, false, fun b _ => .sahf b⟩,
  ⟨false, 0x9F, 0xFF, none, .absent, .none, .gpr, false, .no, false, fun b _ => .lahf b⟩,
  ⟨false, 0xA0, 0xFF, none, .absent, .moffs, .gpr, false, .no, false, fun b f => .movAlOb b f.word⟩,
  ⟨false, 0xA1, 0xFF, none, .absent, .moffs, .gpr, false, .no, false, fun b f => .movEaxOv b f.word⟩,
  ⟨false, 0xA2, 0xFF, none, .absent, .moffs, .gpr, false, .no, false, fun b f => .movObAl b f.word⟩,
  ⟨false, 0xA3, 0xFF, none, .absent, .moffs, .gpr, false, .no, false, fun b f => .movOvEax b f.word⟩,
  ⟨false, 0xA4, 0xFF, none, .absent, .none, .gpr, false, .string, false, fun b _ => .movsb b⟩,
  ⟨false, 0xA5, 0xFF, none, .absent, .none, .gpr, false, .string, false, fun b _ => .movsv b⟩,
  ⟨false, 0xA6, 0xFF, none, .absent, .none, .gpr, false, .string, false, fun b _ => .cmpsb b⟩,
  ⟨false, 0xA7, 0xFF, none, .absent, .none, .gpr, false, .string, false, fun b _ => .cmpsv b⟩]

/-- Rows of spec/opcode_table.json, part 7. -/
def opTable7 : List Row := [
  ⟨false, 0xA8, 0xFF, none, .absent, .ib, .gpr, false, .no, false, fun b f => .testAlIb b f.byte⟩,
  ⟨false, 0xA9, 0xFF, none, .absent, .iz, .gpr, false, .no, false, fun b f => .testEaxIz b f.word⟩,
  ⟨false, 0xAA, 0xFF, none, .absent, .none, .gpr, false, .string, false, fun b _ => .stosb b⟩,
  ⟨false, 0xAB, 0xFF, none, .absent, .none, .gpr, false, .string, false, fun b _ => .stosv b⟩,
  ⟨false, 0xAC, 0xFF, none, .absent, .none, .gpr, false, .string, false, fun b _ => .lodsb b⟩,
  ⟨false, 0xAD, 0xFF, none, .absent, .none, .gpr, false, .string, false, fun b _ => .lodsv b⟩,
  ⟨false, 0xAE, 0xFF, none, .absent, .none, .gpr, false, .string, false, fun b _ => .scasb b⟩,
  ⟨false, 0xAF, 0xFF, none, .absent, .none, .gpr, false, .string, false, fun b _ => .scasv b⟩,
  ⟨false, 0xB0, 0xF8, none, .absent, .ib, .gpr, false, .no, false, fun b f => .movZbIb b f.r f.byte⟩,
  ⟨false, 0xB8, 0xF8, none, .absent, .iz, .gpr, false, .no, false, fun b f => .movZvIz b f.r f.word⟩,
  ⟨false, 0xC0, 0xFF, some 0, .rm, .ib, .gpr, false, .no, false, fun b f => .rolEbIb b f.e f.byte⟩,
  ⟨false, 0xC0, 0xFF, some 1, .rm, .ib, .gpr, false, .no, false, fun b f => .rorEbIb b f.e f.byte⟩,
  ⟨false, 0xC0, 0xFF, some 2, .rm, .ib, .gpr, false, .no, false, fun b f => .rclEbIb b f.e f.byte⟩,
  ⟨false, 0xC0, 0xFF, some 3, .rm, .ib, .gpr, false, .no, false, fun b f => .rcrEbIb b f.e f.byte⟩,
  ⟨false, 0xC0, 0xFF, some 4, .rm, .ib, .gpr, false, .no, false, fun b f => .shlEbIb b f.e f.byte⟩,
  ⟨false, 0xC0, 0xFF, some 5, .rm, .ib, .gpr, false, .no, false, fun b f => .shrEbIb b f.e f.byte⟩,
  ⟨false, 0xC0, 0xFF, some 7, .rm, .ib, .gpr, false, .no, false, fun b f => .sarEbIb b f.e f.byte⟩,
  ⟨false, 0xC1, 0xFF, some 0, .rm, .ib, .gpr, false, .no, false, fun b f => .rolEvIb b f.e f.byte⟩,
  ⟨false, 0xC1, 0xFF, some 1, .rm, .ib, .gpr, false, .no, false, fun b f => .rorEvIb b f.e f.byte⟩,
  ⟨false, 0xC1, 0xFF, some 2, .rm, .ib, .gpr, false, .no, false, fun b f => .rclEvIb b f.e f.byte⟩,
  ⟨false, 0xC1, 0xFF, some 3, .rm, .ib, .gpr, false, .no, false, fun b f => .rcrEvIb b f.e f.byte⟩,
  ⟨false, 0xC1, 0xFF, some 4, .rm, .ib, .gpr, false, .no, false, fun b f => .shlEvIb b f.e f.byte⟩,
  ⟨false, 0xC1, 0xFF, some 5, .rm, .ib, .gpr, false, .no, false, fun b f => .shrEvIb b f.e f.byte⟩,
  ⟨false, 0xC1, 0xFF, some 7, .rm, .ib, .gpr, false, .no, false, fun b f => .sarEvIb b f.e f.byte⟩]

/-- Rows of spec/opcode_table.json, part 8. -/
def opTable8 : List Row := [
  ⟨false, 0xD0, 0xFF, some 0, .rm, .none, .gpr, false, .no, false, fun b f => .rolEb1 b f.e⟩,
  ⟨false, 0xD0, 0xFF, some 1, .rm, .none, .gpr, false, .no, false, fun b f => .rorEb1 b f.e⟩,
  ⟨false, 0xD0, 0xFF, some 2, .rm, .none, .gpr, false, .no, false, fun b f => .rclEb1 b f.e⟩,
  ⟨false, 0xD0, 0xFF, some 3, .rm, .none, .gpr, false, .no, false, fun b f => .rcrEb1 b f.e⟩,
  ⟨false, 0xD0, 0xFF, some 4, .rm, .none, .gpr, false, .no, false, fun b f => .shlEb1 b f.e⟩,
  ⟨false, 0xD0, 0xFF, some 5, .rm, .none, .gpr, false, .no, false, fun b f => .shrEb1 b f.e⟩,
  ⟨false, 0xD0, 0xFF, some 7, .rm, .none, .gpr, false, .no, false, fun b f => .sarEb1 b f.e⟩,
  ⟨false, 0xD1, 0xFF, some 0, .rm, .none, .gpr, false, .no, false, fun b f => .rolEv1 b f.e⟩,
  ⟨false, 0xD1, 0xFF, some 1, .rm, .none, .gpr, false, .no, false, fun b f => .rorEv1 b f.e⟩,
  ⟨false, 0xD1, 0xFF, some 2, .rm, .none, .gpr, false, .no, false, fun b f => .rclEv1 b f.e⟩,
  ⟨false, 0xD1, 0xFF, some 3, .rm, .none, .gpr, false, .no, false, fun b f => .rcrEv1 b f.e⟩,
  ⟨false, 0xD1, 0xFF, some 4, .rm, .none, .gpr, false, .no, false, fun b f => .shlEv1 b f.e⟩,
  ⟨false, 0xD1, 0xFF, some 5, .rm, .none, .gpr, false, .no, false, fun b f => .shrEv1 b f.e⟩,
  ⟨false, 0xD1, 0xFF, some 7, .rm, .none, .gpr, false, .no, false, fun b f => .sarEv1 b f.e⟩,
  ⟨false, 0xD2, 0xFF, some 0, .rm, .none, .gpr, false, .no, false, fun b f => .rolEbCl b f.e⟩,
  ⟨false, 0xD2, 0xFF, some 1, .rm, .none, .gpr, false, .no, false, fun b f => .rorEbCl b f.e⟩,
  ⟨false, 0xD2, 0xFF, some 2, .rm, .none, .gpr, false, .no, false, fun b f => .rclEbCl b f.e⟩,
  ⟨false, 0xD2, 0xFF, some 3, .rm, .none, .gpr, false, .no, false, fun b f => .rcrEbCl b f.e⟩,
  ⟨false, 0xD2, 0xFF, some 4, .rm, .none, .gpr, false, .no, false, fun b f => .shlEbCl b f.e⟩,
  ⟨false, 0xD2, 0xFF, some 5, .rm, .none, .gpr, false, .no, false, fun b f => .shrEbCl b f.e⟩,
  ⟨false, 0xD2, 0xFF, some 7, .rm, .none, .gpr, false, .no, false, fun b f => .sarEbCl b f.e⟩,
  ⟨false, 0xD3, 0xFF, some 0, .rm, .none, .gpr, false, .no, false, fun b f => .rolEvCl b f.e⟩,
  ⟨false, 0xD3, 0xFF, some 1, .rm, .none, .gpr, false, .no, false, fun b f => .rorEvCl b f.e⟩,
  ⟨false, 0xD3, 0xFF, some 2, .rm, .none, .gpr, false, .no, false, fun b f => .rclEvCl b f.e⟩]

/-- Rows of spec/opcode_table.json, part 9. -/
def opTable9 : List Row := [
  ⟨false, 0xD3, 0xFF, some 3, .rm, .none, .gpr, false, .no, false, fun b f => .rcrEvCl b f.e⟩,
  ⟨false, 0xD3, 0xFF, some 4, .rm, .none, .gpr, false, .no, false, fun b f => .shlEvCl b f.e⟩,
  ⟨false, 0xD3, 0xFF, some 5, .rm, .none, .gpr, false, .no, false, fun b f => .shrEvCl b f.e⟩,
  ⟨false, 0xD3, 0xFF, some 7, .rm, .none, .gpr, false, .no, false, fun b f => .sarEvCl b f.e⟩,
  ⟨false, 0xC2, 0xFF, none, .absent, .iw, .gpr, false, .no, false, fun b f => .retIw b f.half⟩,
  ⟨false, 0xC3, 0xFF, none, .absent, .none, .gpr, false, .no, false, fun b _ => .ret b⟩,
  ⟨false, 0xC4, 0xFF, none, .mem, .none, .gpr, false, .no, false, fun b f => .lesGvMp b f.reg f.m⟩,
  ⟨false, 0xC5, 0xFF, none, .mem, .none, .gpr, false, .no, false, fun b f => .ldsGvMp b f.reg f.m⟩,
  ⟨false, 0xC6, 0xFF, some 0, .rm, .ib, .gpr, false, .no, false, fun b f => .movEbIb b f.e f.byte⟩,
  ⟨false, 0xC7, 0xFF, some 0, .rm, .iz, .gpr, false, .no, false, fun b f => .movEvIz b f.e f.word⟩,
  ⟨false, 0xC8, 0xFF, none, .absent, .iwib, .gpr, false, .no, false, fun b f => .enterIwIb b f.half f.byte⟩,
  ⟨false, 0xC9, 0xFF, none, .absent, .none, .gpr, false, .no, false, fun b _ => .leave b⟩,
  ⟨false, 0xCA, 0xFF, none, .absent, .iw, .gpr, false, .no, false, fun b f => .retfIw b f.half⟩,
  ⟨false, 0xCB, 0xFF, none, .absent, .none, .gpr, false, .no, false, fun b _ => .retf b⟩,
  ⟨false, 0xCC, 0xFF, none, .absent, .none, .gpr, false, .no, false, fun b _ => .int3 b⟩,
  ⟨false, 0xCD, 0xFF, none, .absent, .ib, .gpr, false, .no, false, fun b f => .intIb b f.byte⟩,
  ⟨false, 0xCE, 0xFF, none, .absent, .none, .gpr, false, .no, false, fun b _ => .into b⟩,
  ⟨false, 0xCF, 0xFF, none, .absent, .none, .gpr, false, .no, false, fun b _ => .iret b⟩,
  ⟨false, 0xD4, 0xFF, none, .absent, .ib, .gpr, false, .no, false, fun b f => .aamIb b f.byte⟩,
  ⟨false, 0xD5, 0xFF, none, .absent, .ib, .gpr, false, .no, false, fun b f => .aadIb b f.byte⟩,
  ⟨false, 0xD7, 0xFF, none, .absent, .none, .gpr, false, .no, false, fun b _ => .xlat b⟩,
  ⟨false, 0xD8, 0xF8, none, .rm, .none, .gpr, false, .no, false, fun b f => .esc b f.r f.reg f.e⟩,
  ⟨false, 0xE0, 0xFF, none, .absent, .ib, .gpr, false, .no, false, fun b f => .loopneJb b f.byte⟩,
  ⟨false, 0xE1, 0xFF, none, .absent, .ib, .gpr, false, .no, false, fun b f => .loopeJb b f.byte⟩]

/-- Rows of spec/opcode_table.json, part 10. -/
def opTable10 : List Row := [
  ⟨false, 0xE2, 0xFF, none, .absent, .ib, .gpr, false, .no, false, fun b f => .loopJb b f.byte⟩,
  ⟨false, 0xE3, 0xFF, none, .absent, .ib, .gpr, false, .no, false, fun b f => .jcxzJb b f.byte⟩,
  ⟨false, 0xE4, 0xFF, none, .absent, .ib, .gpr, false, .no, false, fun b f => .inAlIb b f.byte⟩,
  ⟨false, 0xE5, 0xFF, none, .absent, .ib, .gpr, false, .no, false, fun b f => .inEaxIb b f.byte⟩,
  ⟨false, 0xE6, 0xFF, none, .absent, .ib, .gpr, false, .no, false, fun b f => .outIbAl b f.byte⟩,
  ⟨false, 0xE7, 0xFF, none, .absent, .ib, .gpr, false, .no, false, fun b f => .outIbEax b f.byte⟩,
  ⟨false, 0xE8, 0xFF, none, .absent, .iz, .gpr, false, .no, false, fun b f => .callJz b f.word⟩,
  ⟨false, 0xE9, 0xFF, none, .absent, .iz, .gpr, false, .no, false, fun b f => .jmpJz b f.word⟩,
  ⟨false, 0xEA, 0xFF, none, .absent, .ap, .gpr, false, .no, false, fun b f => .jmpAp b f.word f.half⟩,
  ⟨false, 0xEB, 0xFF, none, .absent, .ib, .gpr, false, .no, false, fun b f => .jmpJb b f.byte⟩,
  ⟨false, 0xEC, 0xFF, none, .absent, .none, .gpr, false, .no, false, fun b _ => .inAlDx b⟩,
  ⟨false, 0xED, 0xFF, none, .absent, .none, .gpr, false, .no, false, fun b _ => .inEaxDx b⟩,
  ⟨false, 0xEE, 0xFF, none, .absent, .none, .gpr, false, .no, false, fun b _ => .outDxAl b⟩,
  ⟨false, 0xEF, 0xFF, none, .absent, .none, .gpr, false, .no, false, fun b _ => .outDxEax b⟩,
  ⟨false, 0xF4, 0xFF, none, .absent, .none, .gpr, false, .no, false, fun b _ => .hlt b⟩,
  ⟨false, 0xF5, 0xFF, none, .absent, .none, .gpr, false, .no, false, fun b _ => .cmc b⟩,
  ⟨false, 0xF6, 0xFF, some 0, .rm, .ib, .gpr, false, .no, false, fun b f => .testEbIb b f.e f.byte⟩,
  ⟨false, 0xF6, 0xFF, some 2, .rm, .none, .gpr, true, .no, false, fun b f => .notEb b f.e⟩,
  ⟨false, 0xF6, 0xFF, some 3, .rm, .none, .gpr, true, .no, false, fun b f => .negEb b f.e⟩,
  ⟨false, 0xF6, 0xFF, some 4, .rm, .none, .gpr, false, .no, false, fun b f => .mulEb b f.e⟩,
  ⟨false, 0xF6, 0xFF, some 5, .rm, .none, .gpr, false, .no, false, fun b f => .imulEb b f.e⟩,
  ⟨false, 0xF6, 0xFF, some 6, .rm, .none, .gpr, false, .no, false, fun b f => .divEb b f.e⟩,
  ⟨false, 0xF6, 0xFF, some 7, .rm, .none, .gpr, false, .no, false, fun b f => .idivEb b f.e⟩,
  ⟨false, 0xF7, 0xFF, some 0, .rm, .iz, .gpr, false, .no, false, fun b f => .testEvIz b f.e f.word⟩]

/-- Rows of spec/opcode_table.json, part 11. -/
noncomputable def opTable11 : List Row := [
  ⟨false, 0xF7, 0xFF, some 2, .rm, .none, .gpr, true, .no, false, fun b f => .notEv b f.e⟩,
  ⟨false, 0xF7, 0xFF, some 3, .rm, .none, .gpr, true, .no, false, fun b f => .negEv b f.e⟩,
  ⟨false, 0xF7, 0xFF, some 4, .rm, .none, .gpr, false, .no, false, fun b f => .mulEv b f.e⟩,
  ⟨false, 0xF7, 0xFF, some 5, .rm, .none, .gpr, false, .no, false, fun b f => .imulEv b f.e⟩,
  ⟨false, 0xF7, 0xFF, some 6, .rm, .none, .gpr, false, .no, false, fun b f => .divEv b f.e⟩,
  ⟨false, 0xF7, 0xFF, some 7, .rm, .none, .gpr, false, .no, false, fun b f => .idivEv b f.e⟩,
  ⟨false, 0xF8, 0xFF, none, .absent, .none, .gpr, false, .no, false, fun b _ => .clc b⟩,
  ⟨false, 0xF9, 0xFF, none, .absent, .none, .gpr, false, .no, false, fun b _ => .stc b⟩,
  ⟨false, 0xFA, 0xFF, none, .absent, .none, .gpr, false, .no, false, fun b _ => .cli b⟩,
  ⟨false, 0xFB, 0xFF, none, .absent, .none, .gpr, false, .no, false, fun b _ => .sti b⟩,
  ⟨false, 0xFC, 0xFF, none, .absent, .none, .gpr, false, .no, false, fun b _ => .cld b⟩,
  ⟨false, 0xFD, 0xFF, none, .absent, .none, .gpr, false, .no, false, fun b _ => .std b⟩,
  ⟨false, 0xFE, 0xFF, some 0, .rm, .none, .gpr, true, .no, false, fun b f => .incEb b f.e⟩,
  ⟨false, 0xFE, 0xFF, some 1, .rm, .none, .gpr, true, .no, false, fun b f => .decEb b f.e⟩,
  ⟨false, 0xFF, 0xFF, some 0, .rm, .none, .gpr, true, .no, false, fun b f => .incEv b f.e⟩,
  ⟨false, 0xFF, 0xFF, some 1, .rm, .none, .gpr, true, .no, false, fun b f => .decEv b f.e⟩,
  ⟨false, 0xFF, 0xFF, some 2, .rm, .none, .gpr, false, .no, false, fun b f => .callEv b f.e⟩,
  ⟨false, 0xFF, 0xFF, some 3, .mem, .none, .gpr, false, .no, false, fun b f => .callMp b f.m⟩,
  ⟨false, 0xFF, 0xFF, some 4, .rm, .none, .gpr, false, .no, false, fun b f => .jmpEv b f.e⟩,
  ⟨false, 0xFF, 0xFF, some 5, .mem, .none, .gpr, false, .no, false, fun b f => .jmpMp b f.m⟩,
  ⟨false, 0xFF, 0xFF, some 6, .rm, .none, .gpr, false, .no, false, fun b f => .pushEv b f.e⟩,
  ⟨true, 0x00, 0xFF, some 0, .rm, .none, .gpr, false, .no, true, fun b f => .sldtEw b f.e⟩,
  ⟨true, 0x00, 0xFF, some 1, .rm, .none, .gpr, false, .no, true, fun b f => .strEw b f.e⟩,
  ⟨true, 0x00, 0xFF, some 2, .rm, .none, .gpr, false, .no, true, fun b f => .lldtEw b f.e⟩]

/-- Rows of spec/opcode_table.json, part 12. -/
noncomputable def opTable12 : List Row := [
  ⟨true, 0x00, 0xFF, some 3, .rm, .none, .gpr, false, .no, true, fun b f => .ltrEw b f.e⟩,
  ⟨true, 0x00, 0xFF, some 4, .rm, .none, .gpr, false, .no, true, fun b f => .verrEw b f.e⟩,
  ⟨true, 0x00, 0xFF, some 5, .rm, .none, .gpr, false, .no, true, fun b f => .verwEw b f.e⟩,
  ⟨true, 0x01, 0xFF, some 0, .mem, .none, .gpr, false, .no, false, fun b f => .sgdtMs b f.m⟩,
  ⟨true, 0x01, 0xFF, some 1, .mem, .none, .gpr, false, .no, false, fun b f => .sidtMs b f.m⟩,
  ⟨true, 0x01, 0xFF, some 2, .mem, .none, .gpr, false, .no, false, fun b f => .lgdtMs b f.m⟩,
  ⟨true, 0x01, 0xFF, some 3, .mem, .none, .gpr, false, .no, false, fun b f => .lidtMs b f.m⟩,
  ⟨true, 0x01, 0xFF, some 4, .rm, .none, .gpr, false, .no, false, fun b f => .smswEw b f.e⟩,
  ⟨true, 0x01, 0xFF, some 6, .rm, .none, .gpr, false, .no, false, fun b f => .lmswEw b f.e⟩,
  ⟨true, 0x01, 0xFF, some 7, .mem, .none, .gpr, false, .no, false, fun b f => .invlpgM b f.m⟩,
  ⟨true, 0x02, 0xFF, none, .rm, .none, .gpr, false, .no, true, fun b f => .larGvEw b f.reg f.e⟩,
  ⟨true, 0x03, 0xFF, none, .rm, .none, .gpr, false, .no, true, fun b f => .lslGvEw b f.reg f.e⟩,
  ⟨true, 0x06, 0xFF, none, .absent, .none, .gpr, false, .no, false, fun b _ => .clts b⟩,
  ⟨true, 0x08, 0xFF, none, .absent, .none, .gpr, false, .no, false, fun b _ => .invd b⟩,
  ⟨true, 0x09, 0xFF, none, .absent, .none, .gpr, false, .no, false, fun b _ => .wbinvd b⟩,
  ⟨true, 0x0B, 0xFF, none, .absent, .none, .gpr, false, .no, false, fun b _ => .ud2 b⟩,
  ⟨true, 0x20, 0xFF, none, .regOnly, .none, .creg, false, .no, false, fun b f => .movRdCd b f.er f.creg⟩,
  ⟨true, 0x21, 0xFF, none, .regOnly, .none, .dreg, false, .no, false, fun b f => .movRdDd b f.er f.reg⟩,
  ⟨true, 0x22, 0xFF, none, .regOnly, .none, .creg, false, .no, false, fun b f => .movCdRd b f.creg f.er⟩,
  ⟨true, 0x23, 0xFF, none, .regOnly, .none, .dreg, false, .no, false, fun b f => .movDdRd b f.reg f.er⟩,
  ⟨true, 0x30, 0xFF, none, .absent, .none, .gpr, false, .no, false, fun b _ => .wrmsr b⟩,
  ⟨true, 0x31, 0xFF, none, .absent, .none, .gpr, false, .no, false, fun b _ => .rdtsc b⟩,
  ⟨true, 0x32, 0xFF, none, .absent, .none, .gpr, false, .no, false, fun b _ => .rdmsr b⟩,
  ⟨true, 0x40, 0xF0, none, .rm, .none, .gpr, false, .no, false, fun b f => .cmovccGvEv b f.cc f.reg f.e⟩]

/-- Rows of spec/opcode_table.json, part 13. -/
noncomputable def opTable13 : List Row := [
  ⟨true, 0x80, 0xF0, none, .absent, .iz, .gpr, false, .no, false, fun b f => .jccJz b f.cc f.word⟩,
  ⟨true, 0x90, 0xF0, none, .rm, .none, .gpr, false, .no, false, fun b f => .setccEb b f.cc f.e⟩,
  ⟨true, 0xA0, 0xFF, none, .absent, .none, .gpr, false, .no, false, fun b _ => .pushFs b⟩,
  ⟨true, 0xA1, 0xFF, none, .absent, .none, .gpr, false, .no, false, fun b _ => .popFs b⟩,
  ⟨true, 0xA2, 0xFF, none, .absent, .none, .gpr, false, .no, false, fun b _ => .cpuid b⟩,
  ⟨true, 0xA3, 0xFF, none, .rm, .none, .gpr, false, .no, false, fun b f => .btEvGv b f.e f.reg⟩,
  ⟨true, 0xA4, 0xFF, none, .rm, .ib, .gpr, false, .no, false, fun b f => .shldEvGvIb b f.e f.reg f.byte⟩,
  ⟨true, 0xA5, 0xFF, none, .rm, .none, .gpr, false, .no, false, fun b f => .shldEvGvCl b f.e f.reg⟩,
  ⟨true, 0xA8, 0xFF, none, .absent, .none, .gpr, false, .no, false, fun b _ => .pushGs b⟩,
  ⟨true, 0xA9, 0xFF, none, .absent, .none, .gpr, false, .no, false, fun b _ => .popGs b⟩,
  ⟨true, 0xAA, 0xFF, none, .absent, .none, .gpr, false, .no, false, fun b _ => .rsm b⟩,
  ⟨true, 0xAB, 0xFF, none, .rm, .none, .gpr, true, .no, false, fun b f => .btsEvGv b f.e f.reg⟩,
  ⟨true, 0xAC, 0xFF, none, .rm, .ib, .gpr, false, .no, false, fun b f => .shrdEvGvIb b f.e f.reg f.byte⟩,
  ⟨true, 0xAD, 0xFF, none, .rm, .none, .gpr, false, .no, false, fun b f => .shrdEvGvCl b f.e f.reg⟩,
  ⟨true, 0xAF, 0xFF, none, .rm, .none, .gpr, false, .no, false, fun b f => .imulGvEv b f.reg f.e⟩,
  ⟨true, 0xB0, 0xFF, none, .rm, .none, .gpr, true, .no, false, fun b f => .cmpxchgEbGb b f.e f.reg⟩,
  ⟨true, 0xB1, 0xFF, none, .rm, .none, .gpr, true, .no, false, fun b f => .cmpxchgEvGv b f.e f.reg⟩,
  ⟨true, 0xB2, 0xFF, none, .mem, .none, .gpr, false, .no, false, fun b f => .lssGvMp b f.reg f.m⟩,
  ⟨true, 0xB3, 0xFF, none, .rm, .none, .gpr, true, .no, false, fun b f => .btrEvGv b f.e f.reg⟩,
  ⟨true, 0xB4, 0xFF, none, .mem, .none, .gpr, false, .no, false, fun b f => .lfsGvMp b f.reg f.m⟩,
  ⟨true, 0xB5, 0xFF, none, .mem, .none, .gpr, false, .no, false, fun b f => .lgsGvMp b f.reg f.m⟩,
  ⟨true, 0xB6, 0xFF, none, .rm, .none, .gpr, false, .no, false, fun b f => .movzxGvEb b f.reg f.e⟩,
  ⟨true, 0xB7, 0xFF, none, .rm, .none, .gpr, false, .no, false, fun b f => .movzxGvEw b f.reg f.e⟩,
  ⟨true, 0xBA, 0xFF, some 4, .rm, .ib, .gpr, false, .no, false, fun b f => .btEvIb b f.e f.byte⟩]

/-- Rows of spec/opcode_table.json, part 14. -/
noncomputable def opTable14 : List Row := [
  ⟨true, 0xBA, 0xFF, some 5, .rm, .ib, .gpr, true, .no, false, fun b f => .btsEvIb b f.e f.byte⟩,
  ⟨true, 0xBA, 0xFF, some 6, .rm, .ib, .gpr, true, .no, false, fun b f => .btrEvIb b f.e f.byte⟩,
  ⟨true, 0xBA, 0xFF, some 7, .rm, .ib, .gpr, true, .no, false, fun b f => .btcEvIb b f.e f.byte⟩,
  ⟨true, 0xBB, 0xFF, none, .rm, .none, .gpr, true, .no, false, fun b f => .btcEvGv b f.e f.reg⟩,
  ⟨true, 0xBC, 0xFF, none, .rm, .none, .gpr, false, .no, false, fun b f => .bsfGvEv b f.reg f.e⟩,
  ⟨true, 0xBD, 0xFF, none, .rm, .none, .gpr, false, .no, false, fun b f => .bsrGvEv b f.reg f.e⟩,
  ⟨true, 0xBE, 0xFF, none, .rm, .none, .gpr, false, .no, false, fun b f => .movsxGvEb b f.reg f.e⟩,
  ⟨true, 0xBF, 0xFF, none, .rm, .none, .gpr, false, .no, false, fun b f => .movsxGvEw b f.reg f.e⟩,
  ⟨true, 0xC0, 0xFF, none, .rm, .none, .gpr, true, .no, false, fun b f => .xaddEbGb b f.e f.reg⟩,
  ⟨true, 0xC1, 0xFF, none, .rm, .none, .gpr, true, .no, false, fun b f => .xaddEvGv b f.e f.reg⟩,
  ⟨true, 0xC7, 0xFF, some 1, .mem, .none, .gpr, true, .no, false, fun b f => .cmpxchg8bMq b f.m⟩,
  ⟨true, 0xC8, 0xF8, none, .absent, .none, .gpr, false, .no, false, fun b f => .bswapZd b f.r⟩]

/-- The opcode table. -/
noncomputable def opTable : List Row :=
  opTable1 ++ opTable2 ++ opTable3 ++ opTable4 ++ opTable5 ++ opTable6 ++ opTable7 ++ opTable8 ++ opTable9 ++ opTable10 ++ opTable11 ++ opTable12 ++ opTable13 ++ opTable14

/-- The rows an escape and an opcode byte select (R340, R342); more than one only for a group (R341). -/
noncomputable def rowsFor (esc : Bool) (op : Byte) : List Row :=
  opTable.filter (fun r => r.esc == esc && (op &&& r.mask) == r.op)

/-- The row of a group member (R341). -/
def Row.takes (r : Row) (reg : BitVec 3) : Bool :=
  match r.ext with
  | none => true
  | some x => x == reg

/-- The reg field names a register that exists (R351). -/
def RegUse.ok (u : RegUse) (m : DecodeMode) (reg : BitVec 3) : Bool :=
  match u with
  | .gpr => true
  | .seg => (SegReg.ofNum reg).isSome
  | .segLoad => (SegReg.ofNum reg).isSome && reg != 1#3
  | .creg => (ControlReg.ofNum reg).isSome
  | .dreg => !(m.de && (reg == 4#3 || reg == 5#3))

/-- The displacement of 16-bit addressing (R320). -/
def readDisp16 {ε : Type} (p : Port ε) (mod : BitVec 2) (k : Nat) : Except (DecodeStop ε) (Disp16 × Nat) :=
  match mod.toNat with
  | 0 => .ok (.none, k)
  | 1 => do
    let b ← readByte p k
    return (.d8 b, k + 1)
  | _ => do
    let (h, k1) ← readHalf p k
    return (.d16 h, k1)

/-- The displacement of 32-bit addressing (R322). -/
def readDisp32 {ε : Type} (p : Port ε) (mod : BitVec 2) (k : Nat) : Except (DecodeStop ε) (Disp32 × Nat) :=
  match mod.toNat with
  | 0 => .ok (.none, k)
  | 1 => do
    let b ← readByte p k
    return (.d8 b, k + 1)
  | _ => do
    let (w, k1) ← readWord p k
    return (.d32 w, k1)

/-- SIB and displacement of a memory operand (R320, R322, R323, R360). -/
def readAddr {ε : Type} (p : Port ε) (asz : Size) (mod : BitVec 2) (rm : BitVec 3) (k : Nat) :
    Except (DecodeStop ε) (Addr × Nat) :=
  match asz with
  | .s16 =>
    if mod == 0#2 && rm == 6#3 then do
      let (h, k1) ← readHalf p k
      return (.abs16 h, k1)
    else do
      let (d, k1) ← readDisp16 p mod k
      return (.a16 rm d, k1)
  | .s32 =>
    if rm == 4#3 then do
      let sib ← readByte p k
      let ss := sib.extractLsb' 6 2
      let index := sib.extractLsb' 3 3
      let base := sib.setWidth 3
      if mod == 0#2 && base == 5#3 then do
        let (w, k1) ← readWord p (k + 1)
        return (.sibAbs ss index w, k1)
      else do
        let (d, k1) ← readDisp32 p mod (k + 1)
        return (.sib ss index base d, k1)
    else if mod == 0#2 && rm == 5#3 then do
      let (w, k1) ← readWord p k
      return (.abs32 w, k1)
    else do
      let (d, k1) ← readDisp32 p mod k
      return (.a32 rm d, k1)

/-- The r/m operand of a row whose ModRM byte is mb (R310); 0F 20 to 0F 23 ignore mod (R342). -/
def readRm {ε : Type} (p : Port ε) (use : ModrmUse) (asz : Size) (mb : Byte) (k : Nat) :
    Except (DecodeStop ε) (Rm × Nat) :=
  if use == .regOnly || mb.extractLsb' 6 2 == 3#2 then .ok (.reg (mb.setWidth 3), k)
  else do
    let (a, k1) ← readAddr p asz (mb.extractLsb' 6 2) (mb.setWidth 3) k
    return (.mem a, k1)

/-- The immediate bytes (R330). -/
def readImm {ε : Type} (p : Port ε) (use : ImmUse) (osz asz : Size) (k : Nat) : Except (DecodeStop ε) (Imm × Nat) :=
  match use with
  | .none => .ok (.none, k)
  | .ib => do
    let b ← readByte p k
    return (.ib b, k + 1)
  | .iw => do
    let (h, k1) ← readHalf p k
    return (.iw h, k1)
  | .iz => do
    let (v, k1) ← readSized p osz k
    return (.iz v, k1)
  | .moffs => do
    let (v, k1) ← readSized p asz k
    return (.moffs v, k1)
  | .ap => do
    let (v, k1) ← readSized p osz k
    let (s, k2) ← readHalf p k1
    return (.ap v s, k2)
  | .iwib => do
    let (h, k1) ← readHalf p k
    let b ← readByte p k1
    return (.iwib h b, k1 + 1)

/-- The ModRM byte of an opcode that has one (R360). -/
def readModrm {ε : Type} (p : Port ε) (use : ModrmUse) (k : Nat) : Except (DecodeStop ε) (Byte × Nat) :=
  if use == .absent then .ok (0xC0#8, k)
  else do
    let b ← readByte p k
    return (b, k + 1)

/-- The checks made when opcode and ModRM byte are known, before another byte is fetched (R303, R304, R351, R352,
R354): none says the row stands. -/
def Row.check {ε : Type} (r : Row) (m : DecodeMode) (x : Prefixes) (mb : Byte) : Option (DecodeStop ε) :=
  let mod3 := mb.extractLsb' 6 2 == 3#2
  if r.pmOnly && !m.pe then some .ud
  else if r.modrm == .mem && mod3 then some .ud
  else if !r.reg.ok m (mb.extractLsb' 3 3) then some .ud
  else if x.lock && !(r.lockable && !mod3) then some .ud
  else if !r.rep.allows x.rep then some .repOnNonString
  else none

/-- The rest of an instruction whose row and ModRM byte are known: SIB, displacement, immediate (R360). -/
def Row.finish {ε : Type} (r : Row) (m : DecodeMode) (p : Port ε) (x : Prefixes) (op mb : Byte) (k : Nat) :
    Except (DecodeStop ε) Instr := do
  let osz := m.sized x.osz
  let asz := m.sized x.asz
  let (e, k1) ← readRm p r.modrm asz mb k
  let (imm, k2) ← readImm p r.imm osz asz k1
  return r.bind ⟨osz, asz, x.seg, x.rep, x.lock, k2⟩ ⟨op, mb.extractLsb' 3 3, e, imm⟩

/-- The opcode: an escape byte and a second byte, or one byte (R360). -/
def readOpcode {ε : Type} (p : Port ε) (b : Byte) (k : Nat) : Except (DecodeStop ε) (Bool × Byte × Nat) :=
  if b == 0x0F#8 then do
    let b2 ← readByte p k
    return (true, b2, k + 1)
  else .ok (false, b, k)

/-- `Decode` (R360). -/
noncomputable def decode {ε : Type} (m : DecodeMode) (p : Port ε) : Except (DecodeStop ε) Instr := do
  let (x, b, k) ← readPrefixes p 16 0 .empty
  let (esc, op, k1) ← readOpcode p b k
  match rowsFor esc op with
  | [] => .error .ud
  | r0 :: rs =>
    if (r0 :: rs).all (·.pmOnly) && !m.pe then .error .ud
    else do
      let (mb, k2) ← readModrm p r0.modrm k1
      match (r0 :: rs).find? (·.takes (mb.extractLsb' 3 3)) with
      | none => .error .ud
      | some r =>
        match r.check m x mb with
        | some stop => .error stop
        | none => r.finish m p x op mb k2

/-- A list of bytes as a port. -/
def listPort (bs : List Byte) : Port Unit := fun k =>
  match bs[k]? with
  | some b => .ok b
  | none => .error ()

/-- Decoding a list of bytes. -/
noncomputable def decodeBytes (m : DecodeMode) (bs : List Byte) : Except (DecodeStop Unit) Instr := decode m (listPort bs)

/-! ## The encoder -/

def leHalf (h : Half) : List Byte := [h.setWidth 8, h.extractLsb' 8 8]

def leWord (w : Word) : List Byte := [w.setWidth 8, w.extractLsb' 8 8, w.extractLsb' 16 8, w.extractLsb' 24 8]

def leSized : Size → Word → List Byte
  | .s16, v => leHalf (v.setWidth 16)
  | .s32, v => leWord v

def Disp16.bytes : Disp16 → List Byte
  | .none => []
  | .d8 d => [d]
  | .d16 d => leHalf d

def Disp32.bytes : Disp32 → List Byte
  | .none => []
  | .d8 d => [d]
  | .d32 d => leWord d

/-- The mod field of a displacement (R320). -/
def Disp16.mod : Disp16 → BitVec 2
  | .none => 0
  | .d8 _ => 1
  | .d16 _ => 2

/-- The mod field of a displacement (R322). -/
def Disp32.mod : Disp32 → BitVec 2
  | .none => 0
  | .d8 _ => 1
  | .d32 _ => 2

/-- ModRM: mod, reg, rm from the top (R310). -/
def modrmByte (mod : BitVec 2) (reg rm : BitVec 3) : Byte := mod ++ reg ++ rm

/-- SIB: scale, index, base from the top (R323). -/
def sibByte (ss : BitVec 2) (index base : BitVec 3) : Byte := ss ++ index ++ base

/-- ModRM, SIB and displacement of a memory operand (R320, R322, R323). -/
def Addr.encode (reg : BitVec 3) : Addr → List Byte
  | .a16 rm d => modrmByte d.mod reg rm :: d.bytes
  | .abs16 d => modrmByte 0 reg 6 :: leHalf d
  | .a32 rm d => modrmByte d.mod reg rm :: d.bytes
  | .abs32 d => modrmByte 0 reg 5 :: leWord d
  | .sib ss index base d => modrmByte d.mod reg 4 :: sibByte ss index base :: d.bytes
  | .sibAbs ss index d => modrmByte 0 reg 4 :: sibByte ss index 5 :: leWord d

def Rm.encode (reg : BitVec 3) : Rm → List Byte
  | .reg r => [modrmByte 3 reg r]
  | .mem a => a.encode reg

/-- Immediate bytes (R330). -/
def Imm.encode (osz asz : Size) : Imm → List Byte
  | .none => []
  | .ib b => [b]
  | .iw h => leHalf h
  | .iz v => leSized osz v
  | .moffs v => leSized asz v
  | .ap off sel => leSized osz off ++ leHalf sel
  | .iwib h b => leHalf h ++ [b]

/-- The segment-override bytes (R301). -/
def SegReg.override : SegReg → Byte
  | .es => 0x26
  | .cs => 0x2E
  | .ss => 0x36
  | .ds => 0x3E
  | .fs => 0x64
  | .gs => 0x65

def Rep.bytes : Rep → List Byte
  | .none => []
  | .rep => [0xF3]
  | .repne => [0xF2]

def overrideBytes : Option SegReg → List Byte
  | none => []
  | some r => [r.override]

/-- One byte when a condition holds. -/
def byteIf (c : Bool) (b : Byte) : List Byte := if c then [b] else []

/-- One byte for every prefix the attributes need (R301, R305). -/
def Bound.prefixes (m : DecodeMode) (b : Bound) : List Byte :=
  byteIf b.lock 0xF0 ++ (b.rep.bytes ++ (overrideBytes b.seg
    ++ (byteIf (b.osz != m.size) 0x66 ++ byteIf (b.asz != m.size) 0x67)))

def modrmBytes : Option (BitVec 3 × Rm) → List Byte
  | none => []
  | some (reg, e) => e.encode reg

/-- Escape, opcode, ModRM, immediate (R300). -/
def Parts.body (p : Parts) : List Byte :=
  byteIf p.esc 0x0F ++ (p.op :: (modrmBytes p.modrm ++ p.imm.encode p.bound.osz p.bound.asz))

/-- An encoding of the parts: the prefixes, the first of them repeated to reach the length (R302), and the body. -/
def Parts.encode (m : DecodeMode) (p : Parts) : List Byte :=
  let pre : List Byte := p.bound.prefixes m
  List.replicate (p.bound.len - (pre.length + p.body.length)) (pre.headD 0x90#8) ++ (pre ++ p.body)

/-- The bytes of a well-formed instruction in a mode. -/
def encode (m : DecodeMode) (i : Instr) : List Byte := i.parts.encode m

/-! ## The host's decoder -/

/-- Byte k of a number, the first byte its least significant. -/
def byteOf (w k : Nat) : Byte := BitVec.ofNat 8 (w / 2 ^ (8 * k))

/-- The 15 bytes of an instruction whose first nbits bits are w and whose further bits are 0. -/
def fetchBytes (nbits w : Nat) : List Byte := (List.range 15).map (byteOf (w % 2 ^ nbits))

/-- The mode the host's table words are read in: 16-bit code as after reset, and protected mode, so that the rows of
R352 are read too (log 19). -/
def tableMode : DecodeMode := ⟨false, true, false⟩

/-- The instruction the decoder reads from table bits. -/
noncomputable def decodeTableWord (nbits w : Nat) : Option Instr :=
  match decodeBytes tableMode (fetchBytes nbits w) with
  | .ok i => some i
  | .error _ => none

end Sys2Proof
end

