-- ==== Sys2Proof/Config.lean ====
section
/-! DEFINITION. What the spec leaves to a parameter or a draw (spec/00_scope.md R9, R26): constants with no body, so no
proof sees a value of them. -/
namespace Sys2Proof

/-- Access kinds of the paging interface (R17). -/
inductive AccessKind where
  | read | write | fetch
deriving DecidableEq, Repr, Inhabited

/-- An answer of the external paging unit (R9, R17). -/
inductive Translation where
  | ok (phys : Word)
  | pageFault (err : Word)
  | refuse
deriving DecidableEq, Repr, Inhabited

/-- What the block passes to the paging unit with every address (R17), and the model's step counter, so that the
unit may answer differently at every step (its tables and its TLB are outside the block; log 5). -/
structure PagingView where
  tick : Nat
  cr3 : Word
  wp : Bool
  pse : Bool
  pae : Bool
  pge : Bool
deriving DecidableEq, Repr, Inhabited

/-- `draw_N()` of R26: step number ↦ 64 free bits; every use inside one step takes other bits of them (log 3). -/
opaque Config.draw : Nat → BitVec 64

/-- `Translate` of R9, consulted only with CR0.PG = 1. -/
opaque Config.translate : PagingView → Word → AccessKind → Bool → Translation

/-- `CPUID_TABLE` of R9: leaf ↦ (EAX, EBX, ECX, EDX). -/
opaque Config.cpuidTable : Word → Word × Word × Word × Word

/-- `RESET_EDX` of R9. -/
opaque Config.resetEdx : Word

/-- `BOUND_UPPER_INCLUSIVE` of R9. -/
opaque Config.boundUpperInclusive : Bool

end Sys2Proof
end

