-- ==== Sys2Proof/Machine/State.lean ====
section
/-! DEFINITION. The state of the block as plain data (spec/10_state.md), its reset value (R195), and the reasons a
step can stop. -/
namespace Sys2Proof.Machine
open Sys2Proof

/-- The eight general registers (R100, R101). -/
structure Gpr where
  eax : Word
  ecx : Word
  edx : Word
  ebx : Word
  esp : Word
  ebp : Word
  esi : Word
  edi : Word
deriving DecidableEq, Repr

/-- A segment register: the visible selector and the hidden descriptor cache (R120). -/
structure SegCache where
  selector : Half
  base : Word
  limit : Word
  type : BitVec 4
  s : Bool
  dpl : BitVec 2
  p : Bool
  db : Bool
  g : Bool
  avl : Bool
  valid : Bool
deriving DecidableEq, Repr

/-- GDTR and IDTR (R150). -/
structure TableReg where
  base : Word
  limit : Half
deriving DecidableEq, Repr

/-- LDTR and TR (R151). -/
structure SysSeg where
  selector : Half
  base : Word
  limit : Word
  type : BitVec 4
  p : Bool
  valid : Bool
deriving DecidableEq, Repr

/-- EFLAGS decomposed into its named bits (R130); the reserved bits are fixed (R132) and stand in the image only. -/
structure Flags where
  cf : Bool
  pf : Bool
  af : Bool
  zf : Bool
  sf : Bool
  tf : Bool
  ifl : Bool
  df : Bool
  of : Bool
  iopl : BitVec 2
  nt : Bool
  rf : Bool
  vm : Bool
  ac : Bool
  vif : Bool
  vip : Bool
  id : Bool
deriving DecidableEq, Repr

/-- The classification output (spec/00_scope.md R15, spec/40_flags.md R470). -/
inductive FlowClass where
  | none | taken | notTaken | unknownTarget | call | ret | fault
deriving DecidableEq, Repr

/-- Vector classes of double-fault detection (spec/60_exceptions.md R1331). -/
inductive EventClass where
  | benign | contributory | pageFault | double
deriving DecidableEq, Repr

/-- The boundary inputs of one step (spec/00_scope.md R16, R19): RESET, NMI, and INTR with its vector. -/
structure BoundaryInput where
  reset : Bool
  nmi : Bool
  intr : Option Byte
deriving DecidableEq, Repr

/-- No request. -/
def BoundaryInput.quiet : BoundaryInput := ⟨false, false, none⟩

/-- One recorded port write (spec/00_scope.md R14). -/
structure IoWrite where
  port : Half
  size : Nat
  value : Word
deriving DecidableEq, Repr

/-- What the block tells the paging unit (spec/00_scope.md R17, spec/20_memory.md R281; log 21). -/
inductive PagingSignal where
  | invlpg (lin : Word)
  | cr3Write (v : Word)
  /-- A write to CR0.PG, with the value written. -/
  | pgWrite (pg : Bool)
  /-- CR0.PG, CR0.WP, CR4.PSE, CR4.PAE or CR4.PGE changed. -/
  | controlChange
deriving DecidableEq, Repr

/-- Memory: the bytes that differ from what an unlisted address reads as, by rising address. -/
abbrev Memory := List Host.Cell

structure State where
  gpr : Gpr
  eip : Word
  es : SegCache
  cs : SegCache
  ss : SegCache
  ds : SegCache
  fs : SegCache
  gs : SegCache
  flags : Flags
  cr0 : Word
  cr2 : Word
  cr3 : Word
  cr4 : Word
  gdtr : TableReg
  idtr : TableReg
  ldtr : SysSeg
  tr : SysSeg
  cpl : BitVec 2
  dr0 : Word
  dr1 : Word
  dr2 : Word
  dr3 : Word
  dr6 : Word
  dr7 : Word
  /-- The time-stamp counter (R171): no instruction observes it (log 16). -/
  tsc : Quad
  intShadow : Bool
  pendingTrapDB : Bool
  /-- A single-step trap of MOV SS or POP SS waits for the following instruction (R1340; log 29). -/
  trapPostponed : Bool
  halted : Bool
  shutdown : Bool
  nmiBlocked : Bool
  delivering : Option EventClass
  /-- Linear addresses stored to since the last serialising event, rising (R185, R270). -/
  smcDirty : List Nat
  mem : Memory
  /-- Output: the port writes, in program order (R263). -/
  ioWrites : List IoWrite
  /-- Output: the signals to the paging unit, in program order (R17, R281). -/
  pagingSignals : List PagingSignal
  /-- Output: the classification of the last step, none where no instruction ran (log 17). -/
  classOut : Option FlowClass
  /-- The model's own: the number of steps begun; the draws of a step are taken at it (log 3). -/
  tick : Nat
  /-- The model's own: the boundary inputs still to come, one for each step (log 4). -/
  inputs : List BoundaryInput
deriving DecidableEq, Repr

/-- How the machine stops by a fault of the model. Every exception of the spec is a next state, not one of these. -/
inductive Fault where
  /-- Raised by event delivery when the faults of a delivery lead to one another for ever, each of them benign for the
  next (R1331 then never ends the step; log 14). Safe: the machine makes no further step. -/
  | endlessDelivery
deriving DecidableEq, Repr

/-- The refusals of spec/92_eei_decisions.md: the spec gives these cases no meaning (R30). All are safe. -/
inductive Refusal where
  /-- An instruction without a meaning, by its mnemonic. Safe. -/
  | notModelled (mnemonic : String)
  /-- RealModeLimit (D4): raised by a real-mode access, fetch or branch past a limit. Safe. -/
  | realModeLimit
  /-- StaleTranslation (D5): raised when the paging unit answers Refuse. Safe. -/
  | staleTranslation
  /-- SmcHazard (D11): raised by the fetch of a byte in smcDirty. Safe. -/
  | smcHazard
  /-- PrefixConflict (D14): raised by decoding. Safe. -/
  | prefixConflict
  /-- RepOnNonString (D14): raised by decoding. Safe. -/
  | repOnNonString
  /-- TaskSwitch (D15): raised by far transfers, IRET and event delivery. Safe. -/
  | taskSwitch
  /-- HwBreakpoint (D16): raised by MOV DR7. Safe. -/
  | hwBreakpoint
  /-- Vm86 (D2): raised by IRET. Safe. -/
  | vm86
  /-- FpuUnsupported (D29): raised by ESC with EM = TS = 0. Safe. -/
  | fpuUnsupported
  /-- Cr0Reserved (D30): raised by MOV CR0. Safe. -/
  | cr0Reserved
  /-- VmeUnsupported (D30): raised by MOV CR4. Safe. -/
  | vmeUnsupported
  /-- IoWrap (D40): raised by a port access past 0xFFFF. Safe. -/
  | ioWrap
  /-- InvdDataLoss (D40): raised by INVD. Safe. -/
  | invdDataLoss
deriving DecidableEq, Repr

/-- CS after reset (R124). -/
def SegCache.resetCode : SegCache :=
  ⟨0xF000#16, 0xFFFF0000#32, 0xFFFF#32, 0xB#4, true, 0#2, true, false, false, false, true⟩

/-- SS, DS, ES, FS, GS after reset (R124). -/
def SegCache.resetData : SegCache :=
  ⟨0#16, 0#32, 0xFFFF#32, 0x3#4, true, 0#2, true, false, false, false, true⟩

/-- EFLAGS after reset, 0x00000002 (R130, R195). -/
def Flags.reset : Flags :=
  ⟨false, false, false, false, false, false, false, false, false, 0#2, false, false, false, false, false, false,
    false⟩

/-- The general registers after reset (R195): EDX is the parameter RESET_EDX (log 2). -/
def Gpr.reset : Gpr := ⟨0#32, 0#32, Config.resetEdx, 0#32, 0#32, 0#32, 0#32, 0#32⟩

/-- The state after RESET (R195), with memory listing nothing (log 1) and the model's own fields empty (log 3,
log 4, log 17, log 21). -/
def State.reset : State where
  gpr := Gpr.reset
  eip := 0xFFF0#32
  es := SegCache.resetData
  cs := SegCache.resetCode
  ss := SegCache.resetData
  ds := SegCache.resetData
  fs := SegCache.resetData
  gs := SegCache.resetData
  flags := Flags.reset
  cr0 := 0x60000010#32
  cr2 := 0#32
  cr3 := 0#32
  cr4 := 0#32
  gdtr := ⟨0#32, 0xFFFF#16⟩
  idtr := ⟨0#32, 0xFFFF#16⟩
  ldtr := ⟨0#16, 0#32, 0xFFFF#32, 0x2#4, true, true⟩
  tr := ⟨0#16, 0#32, 0xFFFF#32, 0x3#4, true, true⟩
  cpl := 0#2
  dr0 := 0#32
  dr1 := 0#32
  dr2 := 0#32
  dr3 := 0#32
  dr6 := 0xFFFF0FF0#32
  dr7 := 0x400#32
  tsc := 0#64
  intShadow := false
  pendingTrapDB := false
  trapPostponed := false
  halted := false
  shutdown := false
  nmiBlocked := false
  delivering := none
  smcDirty := []
  mem := []
  ioWrites := []
  pagingSignals := []
  classOut := none
  tick := 0
  inputs := []

end Sys2Proof.Machine
end

