-- ==== Sys2Proof/Machine/Flags.lean ====
section
/-! DEFINITION. The flags image, whole-image writes, flag formulas and condition codes (spec/40_flags.md). -/
namespace Sys2Proof.Machine
open Sys2Proof

/-- `FlagsImage()` (spec/10_state.md R130, R132, R133): bit 0 first, bit 1 reads 1, the other reserved bits 0. -/
def Flags.image (f : Flags) : Word :=
  (BitVec.ofBoolListLE [f.cf, true, f.pf, false, f.af, false, f.zf, f.sf, f.tf, f.ifl, f.df, f.of,
    f.iopl.getLsbD 0, f.iopl.getLsbD 1, f.nt, false, f.rf, f.vm, f.ac, f.vif, f.vip, f.id]).setWidth 32

/-- `SetFlagsImage(v, m)` (R431): the bits of the mask from v, the others kept. -/
def Flags.setImage (f : Flags) (v m : Word) : Flags :=
  let pick (i : Nat) (old : Bool) : Bool := if m.getLsbD i then v.getLsbD i else old
  { cf := pick 0 f.cf, pf := pick 2 f.pf, af := pick 4 f.af, zf := pick 6 f.zf, sf := pick 7 f.sf
    tf := pick 8 f.tf, ifl := pick 9 f.ifl, df := pick 10 f.df, of := pick 11 f.of
    iopl := BitVec.ofBool (pick 13 (f.iopl.getLsbD 1)) ++ BitVec.ofBool (pick 12 (f.iopl.getLsbD 0))
    nt := pick 14 f.nt, rf := pick 16 f.rf, vm := pick 17 f.vm, ac := pick 18 f.ac, vif := pick 19 f.vif
    vip := pick 20 f.vip, id := pick 21 f.id }

/-- Even parity of a byte (R410). -/
def parity (b : Byte) : Bool :=
  !(b.getLsbD 0 ^^ b.getLsbD 1 ^^ b.getLsbD 2 ^^ b.getLsbD 3 ^^ b.getLsbD 4 ^^ b.getLsbD 5 ^^ b.getLsbD 6 ^^ b.getLsbD 7)

/-- `SZP(r, w)` (R410). -/
def Flags.szp (f : Flags) {n : Nat} (r : BitVec n) : Flags :=
  { f with zf := r == 0#n, sf := r.msb, pf := parity (r.setWidth 8) }

/-- A carry-in as a value. -/
def carry (n : Nat) (c : Bool) : BitVec n := (BitVec.ofBool c).setWidth n

/-- Flags of a + b + cin (R411 with cin = 0, R412). -/
def Flags.add (f : Flags) {n : Nat} (a b : BitVec n) (cin : Bool) : Flags :=
  let r := a + b + carry n cin
  { f.szp r with
    cf := decide (2 ^ n ≤ a.toNat + b.toNat + cin.toNat)
    of := ((a ^^^ r) &&& (b ^^^ r)).msb
    af := (a ^^^ b ^^^ r).getLsbD 4 }

/-- Flags of a - b - cin (R413 with cin = 0, R414). -/
def Flags.sub (f : Flags) {n : Nat} (a b : BitVec n) (cin : Bool) : Flags :=
  let r := a - b - carry n cin
  { f.szp r with
    cf := decide (a.toNat < b.toNat + cin.toNat)
    of := ((a ^^^ b) &&& (a ^^^ r)).msb
    af := (a ^^^ b ^^^ r).getLsbD 4 }

/-- Flags of INC, r = a + 1: CF kept (R415). -/
def Flags.inc (f : Flags) {n : Nat} (r : BitVec n) : Flags :=
  { f.szp r with of := r == BitVec.intMin n, af := r.setWidth 4 == 0#4 }

/-- Flags of DEC, r = a - 1: CF kept (R415). -/
def Flags.dec (f : Flags) {n : Nat} (r : BitVec n) : Flags :=
  { f.szp r with of := r == BitVec.intMin n - 1#n, af := r.setWidth 4 == 0xF#4 }

/-- Flags of AND, OR, XOR, TEST: OF, CF and AF are 0 (R417). -/
def Flags.logic (f : Flags) {n : Nat} (r : BitVec n) : Flags :=
  { f.szp r with of := false, cf := false, af := false }

/-- The undefined flags of one instruction, one draw bit each (R404). -/
structure FlagDraws where
  cf : Bool
  pf : Bool
  af : Bool
  zf : Bool
  sf : Bool
  of : Bool
deriving DecidableEq, Repr

/-- All six status flags undefined. -/
def Flags.undefined (f : Flags) (d : FlagDraws) : Flags :=
  { f with cf := d.cf, pf := d.pf, af := d.af, zf := d.zf, sf := d.sf, of := d.of }

/-- MUL and IMUL: CF = OF, the other status flags undefined (R418). -/
def Flags.mul (f : Flags) (d : FlagDraws) (big : Bool) : Flags :=
  { f with cf := big, of := big, sf := d.sf, zf := d.zf, af := d.af, pf := d.pf }

/-- `Cond(cc)` (R460). -/
def Flags.cond (f : Flags) (cc : BitVec 4) : Bool :=
  match cc.toNat with
  | 0 => f.of
  | 1 => !f.of
  | 2 => f.cf
  | 3 => !f.cf
  | 4 => f.zf
  | 5 => !f.zf
  | 6 => f.cf || f.zf
  | 7 => !f.cf && !f.zf
  | 8 => f.sf
  | 9 => !f.sf
  | 10 => f.pf
  | 11 => !f.pf
  | 12 => f.sf != f.of
  | 13 => f.sf == f.of
  | 14 => f.zf || f.sf != f.of
  | _ => !f.zf && f.sf == f.of

end Sys2Proof.Machine
end

