-- ==== Sys2Proof/Machine/Memory.lean ====
section
/-! DEFINITION. Memory as a list in canonical form, byte order, and the set of stored addresses
(spec/20_memory.md R200, R203, R205, R270). -/
namespace Sys2Proof.Machine
open Sys2Proof

/-- What an address that memory does not list reads as (log 1). -/
def Memory.unlisted : Byte := 0#8

/-- The byte at a physical address (R203). -/
def Memory.read : Memory → Nat → Byte
  | [], _ => Memory.unlisted
  | (k, v) :: t, a => if k = a then v else Memory.read t a

/-- Memory with one byte written, in canonical form. -/
def Memory.write : Memory → Nat → Byte → Memory
  | [], a, v => if v = Memory.unlisted then [] else [(a, v)]
  | (k, x) :: t, a, v =>
    if a < k then if v = Memory.unlisted then (k, x) :: t else (a, v) :: (k, x) :: t
    else if a = k then if v = Memory.unlisted then t else (a, v) :: t
    else (k, x) :: Memory.write t a v

/-- Canonical from an address on: rising, below 2^32, no entry equal to what is unlisted. -/
def Memory.wfFrom : Nat → Memory → Bool
  | _, [] => true
  | lo, (k, v) :: t => decide (lo ≤ k) && decide (k < 2 ^ 32) && v != Memory.unlisted && Memory.wfFrom (k + 1) t

/-- The canonical form: equal memories are equal lists. -/
def Memory.wf (m : Memory) : Bool := Memory.wfFrom 0 m

/-- Bytes at physical addresses, read in order. -/
def Memory.readAll (m : Memory) (ps : List Nat) : List Byte := ps.map m.read

/-- Bytes written to physical addresses, in order. -/
def Memory.writeAll : Memory → List Nat → List Byte → Memory
  | m, p :: ps, b :: bs => Memory.writeAll (m.write p b) ps bs
  | m, _, _ => m

/-- The value of bytes, the first the least significant (R205). -/
def leNat : List Byte → Nat
  | [] => 0
  | b :: t => b.toNat + 256 * leNat t

/-- The n bytes of a value, the first the least significant (R205). -/
def leBytes : Nat → Nat → List Byte
  | 0, _ => []
  | n + 1, v => BitVec.ofNat 8 v :: leBytes n (v / 256)

/-- One address put into a rising list. -/
def insertAddr (a : Nat) : List Nat → List Nat
  | [] => [a]
  | k :: t => if a < k then a :: k :: t else if a = k then k :: t else k :: insertAddr a t

/-- The n linear addresses from lin put into the set (R211). -/
def addDirty (lin : Word) : Nat → List Nat → List Nat
  | 0, d => d
  | n + 1, d => insertAddr lin.toNat (addDirty (lin + 1#32) n d)

end Sys2Proof.Machine
end

