-- ==== Sys2Proof/Machine/Ops.lean ====
section
/-! DEFINITION. The operations every meaning shares: registers, draws, linear and segmented memory, the stack,
descriptors and segment loads, finishing an instruction, taking an exception, returning from one. -/
namespace Sys2Proof

/-- Bytes of a size as a stack distance. -/
def Size.delta (z : Size) : Word := BitVec.ofNat 32 z.bytes

/-- A value cut to a size: offsets at operand or address size (R220, R900). -/
def Size.cut (z : Size) (v : Word) : Word := v &&& z.mask

end Sys2Proof

namespace Sys2Proof.Machine
open Sys2Proof

abbrev Result := Host.Outcome State Fault Refusal

/-! ## Exceptions and stops -/

/-- What an instruction or a delivery raises (spec/60_exceptions.md R1300), with its error code. -/
inductive Exc where
  | de
  | br
  | ud
  | nm
  | ts (code : Word)
  | np (code : Word)
  | ss (code : Word)
  | gp (code : Word)
  /-- #PF with the linear address for CR2 (R1303). -/
  | pf (lin err : Word)
  | ac
  /-- #GP of a software interrupt whose gate's DPL is below CPL: the saved EIP is the instruction itself (R1320). -/
  | gateDpl (code : Word)
deriving DecidableEq, Repr

/-- Why an execute ends before its writes (spec/00_scope.md R24, R30). -/
inductive Stop where
  | raise (e : Exc)
  | refuse (r : Refusal)
deriving DecidableEq, Repr

/-- A check that raises. -/
def raiseIf (bad : Bool) (e : Exc) : Except Stop Unit := if bad then .error (.raise e) else .ok ()

/-- A check that refuses. -/
def refuseIf (bad : Bool) (r : Refusal) : Except Stop Unit := if bad then .error (.refuse r) else .ok ()

/-! ## General registers -/

/-- `R32[i]` (R100, R101). -/
def Gpr.get (g : Gpr) (r : BitVec 3) : Word :=
  match r.toNat with
  | 0 => g.eax
  | 1 => g.ecx
  | 2 => g.edx
  | 3 => g.ebx
  | 4 => g.esp
  | 5 => g.ebp
  | 6 => g.esi
  | _ => g.edi

/-- `R32[i] <- v`. -/
def Gpr.set (g : Gpr) (r : BitVec 3) (v : Word) : Gpr :=
  match r.toNat with
  | 0 => { g with eax := v }
  | 1 => { g with ecx := v }
  | 2 => { g with edx := v }
  | 3 => { g with ebx := v }
  | 4 => { g with esp := v }
  | 5 => { g with ebp := v }
  | 6 => { g with esi := v }
  | _ => { g with edi := v }

/-- The 32-bit register that an 8-bit register number names a lane of (R103). -/
def laneOwner (r : BitVec 3) : BitVec 3 := r &&& 3#3

/-- `Reg_w(i)`: the 32-, 16- or 8-bit view (R101 to R103). -/
def Gpr.read (g : Gpr) (w : Width) (r : BitVec 3) : BitVec w.bits :=
  match w with
  | .w8 => if r.getLsbD 2 then (g.get (laneOwner r)).extractLsb' 8 8 else (g.get (laneOwner r)).setWidth 8
  | .w16 => (g.get r).setWidth 16
  | .w32 => g.get r

/-- `Reg_w(i) <- v`: the other bits of the owning register stay (R102 to R104). -/
def Gpr.write (g : Gpr) (w : Width) (r : BitVec 3) (v : BitVec w.bits) : Gpr :=
  match w, v with
  | .w8, v =>
    let o := laneOwner r
    if r.getLsbD 2 then g.set o ((g.get o).extractLsb' 16 16 ++ v ++ (g.get o).setWidth 8)
    else g.set o ((g.get o).extractLsb' 8 24 ++ v)
  | .w16, v => g.set r ((g.get r).extractLsb' 16 16 ++ v)
  | .w32, v => g.set r v

def State.reg (s : State) (w : Width) (r : BitVec 3) : BitVec w.bits := s.gpr.read w r

def State.setReg (s : State) (w : Width) (r : BitVec 3) (v : BitVec w.bits) : State :=
  { s with gpr := s.gpr.write w r v }

/-! ## Control bits and draws -/

/-- CR0.PE (R140). -/
def State.pe (s : State) : Bool := s.cr0.getLsbD 0

/-- CR0.PG. -/
def State.pg (s : State) : Bool := s.cr0.getLsbD 31

/-- CPL of a user access (R210). -/
def isUser (cpl : BitVec 2) : Bool := cpl == 3#2

/-- The free bits of this step (R26; log 3). -/
def State.drawBits (s : State) : BitVec 64 := Config.draw s.tick

/-- `draw_1()` number i of this step. -/
def State.drawBit (s : State) (i : Nat) : Bool := s.drawBits.getLsbD i

/-- `draw_32()`: bits no flag draw uses. -/
def State.drawWord (s : State) : Word := s.drawBits.extractLsb' 32 32

/-- `draw_16()`, the one of two that the first frame slot, or a result, takes. -/
def State.drawHalf (s : State) : Half := s.drawBits.extractLsb' 32 16

/-- `draw_16()`, the one that the second frame slot takes. -/
def State.drawHalf2 (s : State) : Half := s.drawBits.extractLsb' 48 16

/-- The undefined flags of an instruction (R404). -/
def State.flagDraws (s : State) : FlagDraws :=
  ⟨s.drawBit 0, s.drawBit 1, s.drawBit 2, s.drawBit 3, s.drawBit 4, s.drawBit 5⟩

/-- The draw between the two AH adjustments of AAA and AAS (R517, R518). -/
def State.drawAdjust (s : State) : Bool := s.drawBit 6

/-! ## Linear memory (spec/20_memory.md R210 to R212) -/

/-- What the block passes to the paging unit (R17). -/
def State.pagingView (s : State) : PagingView :=
  ⟨s.tick, s.cr3, s.cr0.getLsbD 16, s.cr4.getLsbD 4, s.cr4.getLsbD 5, s.cr4.getLsbD 7⟩

/-- The physical address of one byte (R201, R210): the linear one without paging. -/
def State.phys (s : State) (kind : AccessKind) (user : Bool) (lin : Word) : Except Stop Nat :=
  if s.pg then
    match Config.translate s.pagingView lin kind user with
    | .ok p => .ok p.toNat
    | .pageFault err => .error (.raise (.pf lin err))
    | .refuse => .error (.refuse .staleTranslation)
  else .ok lin.toNat

/-- The physical addresses of the n bytes from lin, in increasing order, wrapping (R206, R210). -/
def State.physAll (s : State) (kind : AccessKind) (user : Bool) : Word → Nat → Except Stop (List Nat)
  | _, 0 => .ok []
  | lin, n + 1 => do
    let p ← s.phys kind user lin
    let ps ← s.physAll kind user (lin + 1#32) n
    return p :: ps

/-- `MemRead(lin, n)` (R210), as a number. -/
def State.memRead (s : State) (kind : AccessKind) (user : Bool) (lin : Word) (n : Nat) : Except Stop Nat := do
  let ps ← s.physAll kind user lin n
  return leNat (s.mem.readAll ps)

/-- `MemWrite(lin, n, v)` (R211): no byte is written unless every translation succeeds. -/
def State.memWrite (s : State) (user : Bool) (lin : Word) (n v : Nat) : Except Stop State := do
  let ps ← s.physAll .write user lin n
  return { s with mem := s.mem.writeAll ps (leBytes n v), smcDirty := addDirty lin n s.smcDirty }

/-! ## Segmented access (R222 to R224) -/

def State.seg (s : State) : SegReg → SegCache
  | .es => s.es
  | .cs => s.cs
  | .ss => s.ss
  | .ds => s.ds
  | .fs => s.fs
  | .gs => s.gs

def State.setSeg (s : State) (r : SegReg) (c : SegCache) : State :=
  match r with
  | .es => { s with es := c }
  | .cs => { s with cs := c }
  | .ss => { s with ss := c }
  | .ds => { s with ds := c }
  | .fs => { s with fs := c }
  | .gs => { s with gs := c }

/-- `SF` of R222. -/
def segFault : SegReg → Exc
  | .ss => .ss 0#32
  | _ => .gp 0#32

/-- The bytes off to last lie outside the segment (R222, R243). -/
def SegCache.outside (c : SegCache) (off last : Nat) : Bool :=
  if !c.type.getLsbD 3 && c.type.getLsbD 2 then
    decide (off ≤ c.limit.toNat) || decide ((if c.db then 0xFFFFFFFF else 0xFFFF) < last)
  else decide (c.limit.toNat < last)

/-- The type shuts the access out (R222). -/
def SegCache.typeBad (c : SegCache) (write : Bool) : Bool :=
  if write then c.type.getLsbD 3 || !c.type.getLsbD 1
  else c.type.getLsbD 3 && !c.type.getLsbD 1

/-- The access is checked for alignment and misaligned (R214). -/
def State.misaligned (s : State) (cpl : BitVec 2) (off : Word) (n : Nat) : Bool :=
  s.cr0.getLsbD 18 && s.flags.ac && cpl == 3#2 && decide (off.toNat % n ≠ 0)

/-- `SegCheck` (R222) on a cache that may not be a segment register yet, with the exception its limit and type
violations raise and the privilege level of the access. -/
def State.segCheckAt (s : State) (c : SegCache) (sf : Exc) (cpl : BitVec 2) (write : Bool) (off : Word) (n : Nat) :
    Except Stop Unit :=
  let last := off.toNat + n - 1
  if !s.pe then refuseIf (decide (c.limit.toNat < last)) .realModeLimit
  else if !c.valid then .error (.raise (.gp 0#32))
  else if c.typeBad write || c.outside off.toNat last then .error (.raise sf)
  else raiseIf (s.misaligned cpl off n) .ac

/-- `SegCheck(s, off, n, kind)` (R222). -/
def State.segCheck (s : State) (seg : SegReg) (write : Bool) (off : Word) (n : Nat) : Except Stop Unit :=
  s.segCheckAt (s.seg seg) (segFault seg) s.cpl write off n

/-- The linear address of an offset (R220). -/
def State.linear (s : State) (seg : SegReg) (off : Word) : Word := (s.seg seg).base + off

/-- `SegRead(s, off, n)` (R222), as a number. -/
def State.segRead (s : State) (seg : SegReg) (off : Word) (n : Nat) : Except Stop Nat := do
  s.segCheck seg false off n
  s.memRead .read (isUser s.cpl) (s.linear seg off) n

/-- The read of a read-modify-write operand: checked and translated as a write (R224). -/
def State.segReadRmw (s : State) (seg : SegReg) (off : Word) (n : Nat) : Except Stop Nat := do
  s.segCheck seg true off n
  s.memRead .write (isUser s.cpl) (s.linear seg off) n

/-- `SegWrite(s, off, n, v)` (R223). -/
def State.segWrite (s : State) (seg : SegReg) (off : Word) (n v : Nat) : Except Stop State := do
  s.segCheck seg true off n
  s.memWrite (isUser s.cpl) (s.linear seg off) n v

/-! ## The stack (spec/44_data_move.md R840, R841) -/

/-- A stack address moved by d at the width of SS.db (R122, R840). -/
def stackStep (db : Bool) (sp d : Word) : Word := if db then sp + d else (sp + d) &&& 0xFFFF#32

/-- The stack pointer, ESP or zero-extended SP by SS.db (R841). -/
def State.sp (s : State) : Word := stackStep s.ss.db s.gpr.esp 0#32

/-- A stack pointer write at the width of SS.db (R840). -/
def State.setSp (s : State) (v : Word) : State :=
  if s.ss.db then s.setReg .w32 4#3 v else s.setReg .w16 4#3 (v.setWidth 16)

/-- `Push_n(v)` (R840); a 16-bit push takes the low half of v. -/
def State.push (s : State) (z : Size) (v : Word) : Except Stop State := do
  let sp := stackStep s.ss.db s.sp (0#32 - z.delta)
  let t ← s.segWrite .ss sp z.bytes v.toNat
  return t.setSp sp

/-- Several pushes, the first value first. -/
def State.pushAll (s : State) (z : Size) : List Word → Except Stop State
  | [] => .ok s
  | v :: vs => do
    let t ← s.push z v
    t.pushAll z vs

/-- The checks of k pushes of size z from sp down, on a stack segment that may not be loaded yet (R21, R840). -/
def State.checkPushes (s : State) (c : SegCache) (sf : Exc) (cpl : BitVec 2) (z : Size) : Word → Nat → Except Stop Unit
  | _, 0 => .ok ()
  | sp, k + 1 => do
    let sp' := stackStep c.db sp (0#32 - z.delta)
    s.segCheckAt c sf cpl true sp' z.bytes
    let _ ← s.physAll .write (isUser cpl) (c.base + sp') z.bytes
    s.checkPushes c sf cpl z sp' k

/-- The checks of k pushes on the current stack. -/
def State.checkStack (s : State) (sf : Exc) (z : Size) (k : Nat) : Except Stop Unit :=
  s.checkPushes s.ss sf s.cpl z s.sp k

/-- The value of size z at a distance above the stack pointer (R841, R950). -/
def State.stackRead (s : State) (z : Size) (d : Word) : Except Stop Word := do
  let v ← s.segRead .ss (stackStep s.ss.db s.sp d) z.bytes
  return BitVec.ofNat 32 v

/-! ## Descriptors (R240 to R247) -/

/-- The 8 bytes of a descriptor (R241, R245). -/
structure Desc where
  raw : Quad
deriving DecidableEq, Repr

def Desc.type (d : Desc) : BitVec 4 := d.raw.extractLsb' 40 4
def Desc.s (d : Desc) : Bool := d.raw.getLsbD 44
def Desc.dpl (d : Desc) : BitVec 2 := d.raw.extractLsb' 45 2
def Desc.p (d : Desc) : Bool := d.raw.getLsbD 47
def Desc.avl (d : Desc) : Bool := d.raw.getLsbD 52
def Desc.db (d : Desc) : Bool := d.raw.getLsbD 54
def Desc.g (d : Desc) : Bool := d.raw.getLsbD 55
/-- Base: bytes 2 to 4 and byte 7 (R241). -/
def Desc.base (d : Desc) : Word := d.raw.extractLsb' 56 8 ++ d.raw.extractLsb' 16 24
/-- The 20-bit limit field (R241). -/
def Desc.rawLimit (d : Desc) : BitVec 20 := d.raw.extractLsb' 48 4 ++ d.raw.extractLsb' 0 16
/-- The effective limit (R242). -/
def Desc.limit (d : Desc) : Word := if d.g then d.rawLimit ++ 0xFFF#12 else d.rawLimit.setWidth 32
/-- The access-rights byte, byte 5 (R241). -/
def Desc.rights (d : Desc) : Byte := d.raw.extractLsb' 40 8
def Desc.isCode (d : Desc) : Bool := d.s && d.type.getLsbD 3
def Desc.conforming (d : Desc) : Bool := d.type.getLsbD 2
/-- A writable data segment (R243). -/
def Desc.isWritableData (d : Desc) : Bool := d.s && !d.type.getLsbD 3 && d.type.getLsbD 1

/-- Gate fields (R245). -/
def Desc.gateSelector (d : Desc) : Half := d.raw.extractLsb' 16 16
def Desc.gateCount (d : Desc) : Nat := (d.raw.extractLsb' 32 5).toNat
/-- A 16-bit gate has type bit 3 clear (R244). -/
def Desc.gateSize (d : Desc) : Size := if d.type.getLsbD 3 then .s32 else .s16
/-- The gate's offset; a 16-bit gate's is zero-extended (R245). -/
def Desc.gateOffset (d : Desc) : Word :=
  if d.type.getLsbD 3 then d.raw.extractLsb' 48 16 ++ d.raw.extractLsb' 0 16 else (d.raw.extractLsb' 0 16).setWidth 32

/-- A null selector: bits 15 to 2 are zero (R121). -/
def isNull (sel : Half) : Bool := sel &&& 0xFFFC#16 == 0#16

/-- RPL (R121). -/
def rpl (sel : Half) : BitVec 2 := sel.setWidth 2

/-- `E(sel)` (R1305). -/
def selCode (sel : Half) : Word := (sel &&& 0xFFFC#16).setWidth 32

/-- `DescAddr(sel)` (R240). -/
def State.descAddr (s : State) (sel : Half) : Option Word :=
  let off : Half := sel &&& 0xFFF8#16
  if sel.getLsbD 2 then
    if !s.ldtr.valid || isNull s.ldtr.selector then none
    else if s.ldtr.limit.toNat < off.toNat + 7 then none
    else some (s.ldtr.base + off.setWidth 32)
  else if s.gdtr.limit.toNat < off.toNat + 7 then none
  else some (s.gdtr.base + off.setWidth 32)

/-- A supervisor read of 8 descriptor bytes (R212, R240). -/
def State.readDesc (s : State) (addr : Word) : Except Stop Desc := do
  let v ← s.memRead .read false addr 8
  return ⟨BitVec.ofNat 64 v⟩

/-- The descriptor of a selector and its address, or the exception the caller states (R240). -/
def State.lookup (s : State) (sel : Half) (e : Exc) : Except Stop (Word × Desc) :=
  match s.descAddr sel with
  | none => .error (.raise e)
  | some addr => do
    let d ← s.readDesc addr
    return (addr, d)

/-- The accessed bit of a loaded descriptor (R247). -/
def State.setAccessed (s : State) (addr : Word) (d : Desc) : Except Stop State :=
  if d.type.getLsbD 0 then .ok s else s.memWrite false (addr + 5#32) 1 (d.rights ||| 1#8).toNat

/-- The cache a code or data descriptor gives (R250). -/
def SegCache.ofDesc (sel : Half) (d : Desc) : SegCache :=
  ⟨sel, d.base, d.limit, d.type ||| 1#4, d.s, d.dpl, d.p, d.db, d.g, d.avl, true⟩

/-! ## Segment loads (R123, R250 to R253) -/

/-- The real-mode load (spec/10_state.md R123). -/
def SegCache.realLoad (c : SegCache) (sel : Half) : SegCache :=
  { c with selector := sel, base := sel.setWidth 32 <<< 4, valid := true }

/-- `LoadDataSeg(r, sel)` (R250). -/
def State.loadDataSeg (s : State) (r : SegReg) (sel : Half) : Except Stop State :=
  if isNull sel then .ok (s.setSeg r { s.seg r with selector := sel, valid := false })
  else do
    let (addr, d) ← s.lookup sel (.gp (selCode sel))
    raiseIf (!d.s) (.gp (selCode sel))
    raiseIf (d.type.getLsbD 3 && !d.type.getLsbD 1) (.gp (selCode sel))
    raiseIf ((!d.type.getLsbD 3 || !d.type.getLsbD 2) && (decide (d.dpl < rpl sel) || decide (d.dpl < s.cpl)))
      (.gp (selCode sel))
    raiseIf (!d.p) (.np (selCode sel))
    let t ← s.setAccessed addr d
    return t.setSeg r (.ofDesc sel d)

/-- `LoadSS(sel)` (R251). -/
def State.loadSS (s : State) (sel : Half) : Except Stop State := do
  raiseIf (isNull sel) (.gp 0#32)
  raiseIf (s.descAddr sel).isNone (.gp (selCode sel))
  raiseIf (rpl sel != s.cpl) (.gp (selCode sel))
  let (addr, d) ← s.lookup sel (.gp (selCode sel))
  raiseIf (!d.isWritableData) (.gp (selCode sel))
  raiseIf (d.dpl != s.cpl) (.gp (selCode sel))
  raiseIf (!d.p) (.ss (selCode sel))
  let t ← s.setAccessed addr d
  return t.setSeg .ss (.ofDesc sel d)

/-- `LoadSegReg(r, sel)` (R813). -/
def State.loadSegReg (s : State) (r : SegReg) (sel : Half) : Except Stop State :=
  if !s.pe then .ok (s.setSeg r ((s.seg r).realLoad sel))
  else if r == .ss then s.loadSS sel
  else s.loadDataSeg r sel

/-- `LoadCS(sel, d, newCPL)` (spec/45_control.md R929), d at addr. -/
def State.loadCS (s : State) (sel : Half) (addr : Word) (d : Desc) (newCPL : BitVec 2) : Except Stop State := do
  let t ← s.setAccessed addr d
  return { t with cs := .ofDesc ((sel &&& 0xFFFC#16) ||| newCPL.setWidth 16) d, cpl := newCPL }

/-- `RealLoadCS(sel)` (R929). -/
def State.realLoadCS (s : State) (sel : Half) : State := { s with cs := s.cs.realLoad sel }

/-- A stack segment loaded by a far transfer, with the accessed bit (R942, R950, R1315). -/
def State.loadStack (s : State) (sel : Half) (addr : Word) (d : Desc) : Except Stop State := do
  let t ← s.setAccessed addr d
  return { t with ss := .ofDesc sel d }

/-- A data-segment cache after privilege was lowered (R253). -/
def SegCache.nulled (c : SegCache) (cpl : BitVec 2) : SegCache :=
  if c.valid && (!c.type.getLsbD 3 || !c.type.getLsbD 2) && decide (c.dpl < cpl) then
    { c with selector := 0#16, valid := false }
  else c

/-- R253 for ES, DS, FS and GS. -/
def State.nullOuter (s : State) : State :=
  { s with es := s.es.nulled s.cpl, ds := s.ds.nulled s.cpl, fs := s.fs.nulled s.cpl, gs := s.gs.nulled s.cpl }

/-- The descriptor cannot be the stack segment of privilege level n under this selector (R942, R950, R1315). -/
def Desc.badStack (d : Desc) (sel : Half) (n : BitVec 2) : Bool :=
  rpl sel != n || d.dpl != n || !d.isWritableData

/-- `StackFromTSS(n)` (R246), `x` the EXT bit of its error code: both fields are checked against TR.limit, then the stack
pointer is read, then the selector; the spec gives no order (log 30). -/
def State.stackFromTSS (s : State) (n : BitVec 2) (x : Word) : Except Stop (Half × Word) := do
  let big := s.tr.type.getLsbD 3
  let k : Nat := n.toNat
  let spOff : Nat := if big then 4 + 8 * k else 2 + 4 * k
  let size : Nat := if big then 4 else 2
  raiseIf (decide (s.tr.limit.toNat < spOff + size + 1)) (.ts (selCode s.tr.selector + x))
  let sp ← s.memRead .read false (s.tr.base + BitVec.ofNat 32 spOff) size
  let ss ← s.memRead .read false (s.tr.base + BitVec.ofNat 32 (spOff + size)) 2
  return (BitVec.ofNat 16 ss, BitVec.ofNat 32 sp)

/-- The stack switch of R942 and R1315: the new stack's selector, descriptor and pointer, its checks made; `x` is the
EXT bit. -/
def State.innerStack (s : State) (n : BitVec 2) (x : Word) : Except Stop (Half × Word × Desc × Word) := do
  let (ss1, esp1) ← s.stackFromTSS n x
  raiseIf (isNull ss1) (.ts x)
  let (addr, d) ← s.lookup ss1 (.ts (selCode ss1 + x))
  raiseIf (d.badStack ss1 n) (.ts (selCode ss1 + x))
  raiseIf (!d.p) (.ss (selCode ss1 + x))
  return (ss1, addr, d, esp1)

/-- A selector as a frame slot of a size: the upper half is a draw in a 32-bit slot, and a 16-bit one has none (R931,
R1315). -/
def slot (z : Size) (hi sel : Half) : Word :=
  match z with
  | .s16 => sel.setWidth 32
  | .s32 => hi ++ sel

/-! ## Finishing an instruction (spec/00_scope.md R19) -/

/-- Classes after which a fetch sees every store (spec/20_memory.md R270). -/
def FlowClass.serialises : FlowClass → Bool
  | .none => false
  | .notTaken => false
  | .taken => true
  | .unknownTarget => true
  | .call => true
  | .ret => true
  | .fault => true

/-- The effect of a serialising instruction on the set of stored bytes (R261, R270). -/
def State.serialise (s : State) : State := { s with smcDirty := [] }

/-- An instruction that left s completed in t with class c (R19): RF cleared, the single-step trap set if TF was 1 at
its start and the instruction allows it (R1340), the class output, the stored bytes settled by a serialising class. -/
def retire (s : State) (trap : Bool) (t : State) (c : FlowClass) : State :=
  { t with
    flags := { t.flags with rf := false }
    pendingTrapDB := t.pendingTrapDB || (s.flags.tf && trap)
    classOut := some c
    smcDirty := if c.serialises then [] else t.smcDirty }

/-- `EIP <- EIP_next` (spec/10_state.md R111). -/
def State.next (s : State) (b : Bound) : Word := s.eip + BitVec.ofNat 32 b.len

def State.advance (s : State) (b : Bound) : State := { s with eip := s.next b }

/-! ## Taking an exception or interrupt (spec/60_exceptions.md R1310 to R1331) -/

inductive EventKind where
  | fault | trap | soft | intr | nmi
deriving DecidableEq, Repr

/-- `Deliver(v, kind, err)`. -/
structure Event where
  vector : Byte
  kind : EventKind
  err : Option Word
deriving DecidableEq, Repr

/-- Vector and error code of an exception (R1300). -/
def Exc.event : Exc → Event
  | .de => ⟨0, .fault, none⟩
  | .br => ⟨5, .fault, none⟩
  | .ud => ⟨6, .fault, none⟩
  | .nm => ⟨7, .fault, none⟩
  | .ts c => ⟨10, .fault, some c⟩
  | .np c => ⟨11, .fault, some c⟩
  | .ss c => ⟨12, .fault, some c⟩
  | .gp c => ⟨13, .fault, some c⟩
  | .pf _ c => ⟨14, .fault, some c⟩
  | .ac => ⟨17, .fault, some 0⟩
  | .gateDpl c => ⟨13, .fault, some c⟩

/-- #DF (R1331). -/
def Event.doubleFault : Event := ⟨8, .fault, some 0⟩

/-- The class of a vector raised as an exception (R1331). -/
def vectorClass (v : Byte) : EventClass :=
  match v.toNat with
  | 0 => .contributory
  | 10 => .contributory
  | 11 => .contributory
  | 12 => .contributory
  | 13 => .contributory
  | 14 => .pageFault
  | 8 => .double
  | _ => .benign

/-- The class of an event: INT n, INTR and NMI are benign whatever their vector (R1331). -/
def Event.cls (e : Event) : EventClass :=
  match e.kind with
  | .fault => vectorClass e.vector
  | .trap => vectorClass e.vector
  | .soft => .benign
  | .intr => .benign
  | .nmi => .benign

/-- The EXT bit of error codes raised inside this delivery (R1306). -/
def Event.ext (e : Event) : Word := if e.kind == .soft then 0#32 else 1#32

def Event.index (e : Event) : Word := e.vector.setWidth 32

/-- `RealDeliver(v)` (R1312), the saved EIP given: IF, TF, AC and RF are cleared by R1312, NT by R130 (log 28). -/
def State.realDeliver (s : State) (e : Event) (eip : Word) : Except Stop State := do
  let entry := s.idtr.base + e.index * 4#32
  raiseIf (decide (s.idtr.limit.toNat < 4 * e.vector.toNat + 3)) (.gp 0#32)
  let ip ← s.memRead .read false entry 2
  let cs ← s.memRead .read false (entry + 2#32) 2
  s.checkStack (.ss 0#32) .s16 3
  let t ← s.pushAll .s16 [s.flags.image, s.cs.selector.setWidth 32, eip]
  return { t.realLoadCS (BitVec.ofNat 16 cs) with
    eip := BitVec.ofNat 32 ip
    flags := { t.flags with ifl := false, tf := false, nt := false, ac := false, rf := false } }

/-- The flags after protected-mode delivery; an interrupt gate (type bit 0 clear) also clears IF (R1317). -/
def Flags.delivered (f : Flags) (g : Desc) : Flags :=
  { f with tf := false, nt := false, rf := false, vm := false, ifl := f.ifl && g.type.getLsbD 0 }

/-- Whether a gate type may stand in the IDT (R1313). -/
def isIdtGate (t : BitVec 4) : Bool := t == 0x5#4 || t == 0x6#4 || t == 0x7#4 || t == 0xE#4 || t == 0xF#4

/-- The gate of an event (R1313). -/
def State.idtGate (s : State) (e : Event) : Except Stop Desc := do
  let code := e.index * 8#32 + 2#32
  raiseIf (decide (s.idtr.limit.toNat < 8 * e.vector.toNat + 7)) (.gp (code + e.ext))
  let g ← s.readDesc (s.idtr.base + e.index * 8#32)
  raiseIf (g.s || !isIdtGate g.type) (.gp (code + e.ext))
  raiseIf (e.kind == .soft && decide (g.dpl < s.cpl)) (.gateDpl code)
  raiseIf (!g.p) (.np (code + e.ext))
  refuseIf (g.type == 0x5#4) .taskSwitch
  return g

/-- The target code segment of an interrupt or trap gate (R1314). -/
def State.gateTarget (s : State) (g : Desc) (x : Word) : Except Stop (Word × Desc) := do
  let tsel := g.gateSelector
  raiseIf (isNull tsel) (.gp x)
  let (addr, t) ← s.lookup tsel (.gp (selCode tsel + x))
  raiseIf (!t.isCode || decide (s.cpl < t.dpl)) (.gp (selCode tsel + x))
  raiseIf (!t.p) (.np (selCode tsel + x))
  return (addr, t)

/-- The pushes of an error code, if there is one (R1311). -/
def Event.errSlots (e : Event) : List Word := e.err.toList

/-- The checks of R1315 before its commit: the new stack's selector, descriptor address, descriptor and pointer. -/
def State.innerTarget (s : State) (e : Event) (g t : Desc) : Except Stop (Half × Word × Desc × Word) := do
  let x := e.ext
  let (ss1, saddr, d, esp1) ← s.innerStack t.dpl x
  s.checkPushes (.ofDesc ss1 d) (.ss (selCode ss1 + x)) t.dpl g.gateSize (stackStep d.db esp1 0#32)
    (5 + e.errSlots.length)
  raiseIf (decide (t.limit < g.gateOffset)) (.gp x)
  return (ss1, saddr, d, esp1)

/-- Delivery to a more privileged level (R1315). -/
def State.deliverInner (s : State) (e : Event) (eip : Word) (g : Desc) (addr : Word) (t : Desc) : Except Stop State := do
  let z := g.gateSize
  let (ss1, saddr, d, esp1) ← s.innerTarget e g t
  let s1 ← s.loadStack ss1 saddr d
  let s2 := ({ s1 with cpl := t.dpl } : State).setSp esp1
  let s3 ← s2.pushAll z ([slot z s.drawHalf s.ss.selector, s.gpr.esp, s.flags.image, slot z s.drawHalf2 s.cs.selector, eip]
    ++ e.errSlots)
  let s4 ← s3.loadCS g.gateSelector addr t t.dpl
  return { s4 with eip := g.gateOffset, flags := s4.flags.delivered g }

/-- Delivery at the same level (R1316). -/
def State.deliverSame (s : State) (e : Event) (eip : Word) (g : Desc) (addr : Word) (t : Desc) : Except Stop State := do
  let x := e.ext
  let z := g.gateSize
  s.checkStack (.ss x) z (3 + e.errSlots.length)
  raiseIf (decide (t.limit < g.gateOffset)) (.gp x)
  let s1 ← s.pushAll z ([s.flags.image, slot z s.drawHalf2 s.cs.selector, eip] ++ e.errSlots)
  let s2 ← s1.loadCS g.gateSelector addr t s.cpl
  return { s2 with eip := g.gateOffset, flags := s2.flags.delivered g }

/-- The handler's code segment t makes the delivery switch stacks (R1314). -/
def State.entersInner (s : State) (t : Desc) : Bool := !t.conforming && decide (t.dpl < s.cpl)

/-- `ProtDeliver(v, kind, err)` (R1313, R1314). -/
def State.protDeliver (s : State) (e : Event) (eip : Word) : Except Stop State := do
  let g ← s.idtGate e
  let (addr, t) ← s.gateTarget g e.ext
  if s.entersInner t then s.deliverInner e eip g addr t
  else s.deliverSame e eip g addr t

/-- The state a delivery starts from: the event's class noted, halted and the stored bytes cleared (R1310). -/
def State.beginDelivery (s : State) (e : Event) : State :=
  { s with delivering := some e.cls, halted := false, smcDirty := [] }

/-- One attempt to deliver. -/
def State.tryDeliver (s : State) (e : Event) (eip : Word) : Except Stop State :=
  if !s.pe then s.realDeliver e eip else s.protDeliver e eip

/-- What a delivery that faults leaves written of its own (R1310): the accessed bit of the new stack's descriptor, if the
delivery came as far as setting it (R247, R1315; log 23). -/
def State.keepAccessed (s : State) (e : Event) : State :=
  let marked : Except Stop State := do
    let g ← s.idtGate e
    let (_, t) ← s.gateTarget g e.ext
    if s.entersInner t then do
      let (_, saddr, d, _) ← s.innerTarget e g t
      s.setAccessed saddr d
    else return s
  match s.pe, marked with
  | true, .ok u => u
  | true, .error _ => s
  | false, _ => s

/-- The state after a shutdown (R1330; log 15). -/
def State.shutDown (s : State) : State := { s with shutdown := true, delivering := none }

/-- CR2 is written by a page fault, whatever becomes of it (R1303). -/
def State.noteFault (s : State) : Exc → State
  | .pf lin _ => { s with cr2 := lin }
  | _ => s

/-- The saved EIP of a fault raised inside a delivery: the one the first event would have saved (R1331), but the
instruction itself for the gate check of a software interrupt (R1320; log 13). -/
def nestedEip (s : State) (eip : Word) : Exc → Word
  | .gateDpl _ => s.eip
  | _ => eip

/-- A fault of class c2 inside the delivery of an event of class c1 is a double fault (R1331). -/
def doubleFaults (c1 c2 : EventClass) : Bool :=
  (c1 == .contributory && c2 == .contributory)
    || (c1 == .pageFault && (c2 == .contributory || c2 == .pageFault))

/-- `Deliver` with the saved EIP, and what R1331 makes of a fault inside it. The fuel bounds the chain of nested
deliveries; only benign faults that lead to one another for ever use it up (log 14). -/
def deliverN : Nat → State → Event → Word → Result
  | 0, _, _, _ => .fault .endlessDelivery
  | n + 1, s, e, eip =>
    let s1 := s.beginDelivery e
    match s1.tryDeliver e eip with
    | .ok t => .next { t with delivering := none }
    | .error (.refuse r) => .refused r
    | .error (.raise x) =>
      let s2 := (s1.keepAccessed e).noteFault x
      if e.cls == .double then .next s2.shutDown
      else if doubleFaults e.cls x.event.cls then deliverN n s2 .doubleFault (nestedEip s eip x)
      else deliverN n s2 x.event (nestedEip s eip x)

/-- `Deliver` (R1310, R1331). -/
def deliver (s : State) (e : Event) (eip : Word) : Result := deliverN 16 s e eip

/-- A fault of the instruction at EIP: delivered with EIP at its first byte, class fault (R1301, R1310). -/
def deliverFault (s : State) (x : Exc) : Result :=
  deliver { s.noteFault x with classOut := some .fault } x.event s.eip

/-- `raise SoftInt(v)`: a software interrupt, saved EIP after the instruction, class fault (R970, R1320). -/
def softInt (b : Bound) (v : Byte) (s : State) : Result :=
  deliver { s with classOut := some .fault } ⟨v, .soft, none⟩ (s.next b)

/-- The end of an execute: retire, deliver, or refuse. -/
def finish (s : State) (trap : Bool) : Except Stop (State × FlowClass) → Result
  | .ok (t, c) => .next (retire s trap t c)
  | .error (.raise x) => deliverFault s x
  | .error (.refuse r) => .refused r

/-- The end of an instruction of class none that goes on to the next one. -/
def complete (b : Bound) (s : State) (r : Except Stop State) : Result :=
  finish s true (r.map fun t => (t.advance b, .none))

/-- The single-step trap of an instruction that began with this TF put off until after the following instruction (R1340). -/
def State.postponeTrap (s : State) (tf : Bool) : State := { s with trapPostponed := tf }

/-- The same for MOV SS and POP SS, whose single-step trap is taken after the following instruction (R1340; log 29). -/
def completeShadowed (b : Bound) (s : State) (r : Except Stop State) : Result :=
  finish s false (r.map fun t => ((t.postponeTrap s.flags.tf).advance b, .none))

/-! ## Returning from an exception (spec/45_control.md R950, R960, R961) -/

/-- The checks of a returning CS selector (R950): its descriptor's address and descriptor. -/
def State.returnTarget (s : State) (sel : Half) : Except Stop (Word × Desc) := do
  raiseIf (isNull sel) (.gp 0#32)
  let (addr, d) ← s.lookup sel (.gp (selCode sel))
  raiseIf (!d.isCode) (.gp (selCode sel))
  raiseIf (decide (rpl sel < s.cpl)) (.gp (selCode sel))
  raiseIf (d.conforming && decide (rpl sel < d.dpl)) (.gp (selCode sel))
  raiseIf (!d.conforming && d.dpl != rpl sel) (.gp (selCode sel))
  raiseIf (!d.p) (.np (selCode sel))
  return (addr, d)

/-- The checks of the SS selector of a return to an outer level r (R950). -/
def State.returnStack (s : State) (sel : Half) (r : BitVec 2) : Except Stop (Word × Desc) := do
  raiseIf (isNull sel) (.gp 0#32)
  let (addr, d) ← s.lookup sel (.gp (selCode sel))
  raiseIf (d.badStack sel r) (.gp (selCode sel))
  raiseIf (!d.p) (.ss (selCode sel))
  return (addr, d)

/-- IRET in real mode (R960). -/
def State.iretReal (s : State) (z : Size) : Except Stop State := do
  let ip ← s.stackRead z 0#32
  let cs ← s.stackRead z z.delta
  let fl ← s.stackRead z (z.delta * 2#32)
  refuseIf (decide (s.cs.limit < z.cut ip)) .realModeLimit
  let mask : Word := if z == .s32 then 0x00257FD5#32 else 0x00007FD5#32
  let t := s.realLoadCS (cs.setWidth 16)
  let sp := stackStep s.ss.db s.sp (z.delta * 3#32)
  return ({ t with eip := z.cut ip, flags := s.flags.setImage fl mask, nmiBlocked := false } : State).setSp sp

/-- The flags IRET may write in protected mode (R961). -/
def State.iretMask (s : State) (z : Size) : Word :=
  (0x4DD5#32)
    ||| (if z == .s32 then 0x00250000#32 else 0#32)
    ||| (if decide (s.cpl ≤ s.flags.iopl) then 0x200#32 else 0#32)
    ||| (if s.cpl == 0#2 then 0x3000#32 ||| (if z == .s32 then 0x00180000#32 else 0#32) else 0#32)

/-- IRET in protected mode (R961). -/
def State.iretProt (s : State) (z : Size) : Except Stop State := do
  refuseIf s.flags.nt .taskSwitch
  let ip0 ← s.stackRead z 0#32
  let cs0 ← s.stackRead z z.delta
  let fl ← s.stackRead z (z.delta * 2#32)
  refuseIf (z == .s32 && fl.getLsbD 17 && s.cpl == 0#2) .vm86
  let ip := z.cut ip0
  let cs : Half := cs0.setWidth 16
  let (addr, d) ← s.returnTarget cs
  let flags := s.flags.setImage fl (s.iretMask z)
  let r := rpl cs
  if r == s.cpl then do
    raiseIf (decide (d.limit < ip)) (.gp 0#32)
    let t ← s.loadCS cs addr d s.cpl
    let sp := stackStep s.ss.db s.sp (z.delta * 3#32)
    return ({ t with eip := ip, flags := flags, nmiBlocked := false } : State).setSp sp
  else do
    let esp2 ← s.stackRead z (z.delta * 3#32)
    let ss0 ← s.stackRead z (z.delta * 4#32)
    let ss2 : Half := ss0.setWidth 16
    let (saddr, sd) ← s.returnStack ss2 r
    raiseIf (decide (d.limit < ip)) (.gp 0#32)
    let t ← s.loadCS cs addr d r
    let u ← t.loadStack ss2 saddr sd
    return (({ u with eip := ip, flags := flags, nmiBlocked := false } : State).setSp esp2).nullOuter

end Sys2Proof.Machine
end

