-- ==== Sys2Proof/Machine/Operands.lean ====
section
/-! DEFINITION. Operand forms: offsets and default segments (spec/30_encoding.md R320 to R324), operand reads and writes
(R326), immediates (R330), multi-part memory operands. -/
namespace Sys2Proof
open Sys2Proof.Machine (Gpr)

/-- A 16-bit displacement, the 8-bit one sign-extended (R320). -/
def Disp16.value : Disp16 → Half
  | .none => 0#16
  | .d8 d => d.signExtend 16
  | .d16 d => d

/-- A 32-bit displacement, the 8-bit one sign-extended (R322). -/
def Disp32.value : Disp32 → Word
  | .none => 0#32
  | .d8 d => d.signExtend 32
  | .d32 d => d

/-- Base and index of 16-bit addressing (R320). -/
def base16 (g : Gpr) (rm : BitVec 3) : Half :=
  let bx := g.read .w16 3#3
  let bp := g.read .w16 5#3
  let si := g.read .w16 6#3
  let di := g.read .w16 7#3
  match rm.toNat with
  | 0 => bx + si
  | 1 => bx + di
  | 2 => bp + si
  | 3 => bp + di
  | 4 => si
  | 5 => di
  | 6 => bp
  | _ => bx

/-- The scaled index of a SIB; index 4 means none (R323). -/
def sibIndex (g : Gpr) (ss : BitVec 2) (index : BitVec 3) : Word :=
  if index == 4#3 then 0#32 else g.get index <<< ss.toNat

/-- The offset of a memory operand, wrapped to the address size (R220, R320, R322 to R324). -/
def Addr.offset (g : Gpr) : Addr → Word
  | .a16 rm d => (base16 g rm + d.value).setWidth 32
  | .abs16 d => d.setWidth 32
  | .a32 rm d => g.get rm + d.value
  | .abs32 d => d
  | .sib ss index base d => g.get base + sibIndex g ss index + d.value
  | .sibAbs ss index d => d + sibIndex g ss index

/-- The default segment (R221, R321, R323): SS when BP, EBP or ESP is the base. -/
def Addr.defaultSeg : Addr → SegReg
  | .a16 rm d => if rm == 2#3 || rm == 3#3 || (rm == 6#3 && d != .none) then .ss else .ds
  | .abs16 _ => .ds
  | .a32 rm _ => if rm == 5#3 then .ss else .ds
  | .abs32 _ => .ds
  | .sib _ _ base _ => if base == 4#3 || base == 5#3 then .ss else .ds
  | .sibAbs _ _ _ => .ds

/-- The segment of a memory operand: the override, else the default (R306). -/
def Addr.segment (b : Bound) (a : Addr) : SegReg := b.seg.getD a.defaultSeg

/-- A relative displacement of operand size sign-extended (R330). -/
def Size.sextRel (z : Size) (v : Word) : Word :=
  match z with
  | .s16 => (v.setWidth 16).signExtend 32
  | .s32 => v

/-- The offset n bytes on, wrapped to the address size: the second part of a multi-part operand (R220, R859; log 11). -/
def Bound.offAfter (b : Bound) (off : Word) (n : Nat) : Word := b.asz.cut (off + BitVec.ofNat 32 n)

end Sys2Proof

namespace Sys2Proof.Machine
open Sys2Proof

/-- A resolved operand: a register slot or a segment and an offset (R220, R325). -/
inductive Loc where
  | reg (r : BitVec 3)
  | mem (seg : SegReg) (off : Word)
deriving DecidableEq, Repr

/-- The operand resolver, with the registers it reads given (R325). -/
def resolve (b : Bound) (g : Gpr) : Rm → Loc
  | .reg r => .reg r
  | .mem a => .mem (a.segment b) (a.offset g)

/-- An operand resolved at the start of execute. -/
def State.loc (s : State) (b : Bound) (e : Rm) : Loc := resolve b s.gpr e

/-- `ReadOp(E, w)` (R326). -/
def State.readLoc (s : State) (w : Width) : Loc → Except Stop (BitVec w.bits)
  | .reg r => .ok (s.reg w r)
  | .mem seg off => do
    let v ← s.segRead seg off w.bytes
    return BitVec.ofNat w.bits v

/-- The read of an operand that is written afterwards (R224, R326). -/
def State.readDst (s : State) (w : Width) : Loc → Except Stop (BitVec w.bits)
  | .reg r => .ok (s.reg w r)
  | .mem seg off => do
    let v ← s.segReadRmw seg off w.bytes
    return BitVec.ofNat w.bits v

/-- `WriteOp(E, w, v)` (R326). -/
def State.writeLoc (s : State) (w : Width) (l : Loc) (v : BitVec w.bits) : Except Stop State :=
  match l with
  | .reg r => .ok (s.setReg w r v)
  | .mem seg off => s.segWrite seg off w.bytes v.toNat

/-- The flags replaced. -/
def State.setFlags (s : State) (f : Flags) : State := { s with flags := f }

/-- `RMW(E, w, f)` (R326), with the flags f also gives. -/
def State.rmw (s : State) (w : Width) (l : Loc) (f : BitVec w.bits → BitVec w.bits × Flags) : Except Stop State := do
  let a ← s.readDst w l
  let t ← s.writeLoc w l (f a).1
  return t.setFlags (f a).2

/-- `Ib`, `Ibs`, `Jb` sign-extended (R330). -/
def sext (w : Width) (v : Byte) : BitVec w.bits := v.signExtend w.bits

/-- An operand-size immediate at the instruction's width. -/
def immAt (w : Width) (v : Word) : BitVec w.bits := v.setWidth w.bits

/-- A far pointer in memory: offset of operand size, then a selector (R311, R859, R921). -/
def State.readFarPtr (s : State) (b : Bound) (m : Addr) : Except Stop (Word × Half) := do
  let seg := m.segment b
  let off := m.offset s.gpr
  let v ← s.segRead seg off b.osz.bytes
  let sel ← s.segRead seg (b.offAfter off b.osz.bytes) 2
  return (BitVec.ofNat 32 v, BitVec.ofNat 16 sel)

/-- A selector-sized value into a 16-bit operand whose register form is of operand size with a drawn upper half (R810,
R1126, R1127, R1129). -/
def State.storeSelector (s : State) (b : Bound) (e : Rm) (v : Half) : Except Stop State :=
  match s.loc b e with
  | .mem seg off => s.segWrite seg off 2 v.toNat
  | .reg r =>
    match b.osz with
    | .s16 => .ok (s.setReg .w16 r v)
    | .s32 => .ok (s.setReg .w32 r (s.drawHalf ++ v))

/-- The count register, CX or ECX by the address size (R906, R1000), zero-extended. -/
def State.count (s : State) (b : Bound) : Word := b.asz.cut (s.gpr.get 1#3)

/-- A register written at the width of the address size: bits above it stay (R907, R1001). -/
def State.setAddrReg (s : State) (b : Bound) (r : BitVec 3) (v : Word) : State :=
  match b.asz with
  | .s16 => s.setReg .w16 r (v.setWidth 16)
  | .s32 => s.setReg .w32 r v

end Sys2Proof.Machine
end

