-- ==== Sys2Proof/Machine/Arith.lean ====
section
/-! DEFINITION. Integer arithmetic (spec/41_arith.md), and the shared forms of the eight ALU operations. -/
namespace Sys2Proof.Machine
open Sys2Proof

/-- The operations of R500 and TEST. -/
inductive Alu where
  | add | or | adc | sbb | and | sub | xor | cmp | test
deriving DecidableEq, Repr

/-- Result and flags of an ALU operation; ADC and SBB read the carry first (R403, R501 to R505, R601 to R604). -/
def Alu.eval (op : Alu) (f : Flags) {n : Nat} (a b : BitVec n) : BitVec n × Flags :=
  match op with
  | .add => (a + b, f.add a b false)
  | .adc => (a + b + carry n f.cf, f.add a b f.cf)
  | .sub => (a - b, f.sub a b false)
  | .sbb => (a - b - carry n f.cf, f.sub a b f.cf)
  | .cmp => (a - b, f.sub a b false)
  | .and => (a &&& b, f.logic (a &&& b))
  | .test => (a &&& b, f.logic (a &&& b))
  | .or => (a ||| b, f.logic (a ||| b))
  | .xor => (a ^^^ b, f.logic (a ^^^ b))

/-- CMP and TEST write no destination (R505, R604). -/
def Alu.writes : Alu → Bool
  | .cmp => false
  | .test => false
  | .add => true
  | .or => true
  | .adc => true
  | .sbb => true
  | .and => true
  | .sub => true
  | .xor => true

/-- `AluBinary` (R500) with the destination resolved and the source a value. -/
def aluInto (op : Alu) (w : Width) (s : State) (dst : Loc) (src : BitVec w.bits) : Except Stop State :=
  if op.writes then s.rmw w dst (fun a => op.eval s.flags a src)
  else do
    let a ← s.readLoc w dst
    return s.setFlags (op.eval s.flags a src).2

/-- Forms Eb,Gb and Ev,Gv (R500). -/
def aluRmReg (op : Alu) (w : Width) (b : Bound) (e : Rm) (g : BitVec 3) (s : State) : Result :=
  complete b s (aluInto op w s (s.loc b e) (s.reg w g))

/-- Forms Gb,Eb and Gv,Ev (R500). -/
def aluRegRm (op : Alu) (w : Width) (b : Bound) (g : BitVec 3) (e : Rm) (s : State) : Result :=
  complete b s (do
    let v ← s.readLoc w (s.loc b e)
    aluInto op w s (.reg g) v)

/-- The immediate forms Eb,Ib, Ev,Iz and Ev,Ibs (R500). -/
def aluRmImm (op : Alu) (w : Width) (b : Bound) (e : Rm) (imm : BitVec w.bits) (s : State) : Result :=
  complete b s (aluInto op w s (s.loc b e) imm)

/-- The accumulator forms AL,Ib and eAX,Iz (R500). -/
def aluAcc (op : Alu) (w : Width) (b : Bound) (imm : BitVec w.bits) (s : State) : Result :=
  complete b s (aluInto op w s (.reg 0#3) imm)

/-- INC (R506). -/
def incLoc (w : Width) (s : State) (l : Loc) : Except Stop State :=
  s.rmw w l (fun a => (a + 1#_, s.flags.inc (a + 1#_)))

/-- DEC (R507). -/
def decLoc (w : Width) (s : State) (l : Loc) : Except Stop State :=
  s.rmw w l (fun a => (a - 1#_, s.flags.dec (a - 1#_)))

/-- NEG (R508): the flags of 0 - a (R416). -/
def negLoc (w : Width) (s : State) (l : Loc) : Except Stop State :=
  s.rmw w l (fun a => (0#_ - a, s.flags.sub 0#_ a false))

def incRm (w : Width) (b : Bound) (e : Rm) (s : State) : Result := complete b s (incLoc w s (s.loc b e))
def decRm (w : Width) (b : Bound) (e : Rm) (s : State) : Result := complete b s (decLoc w s (s.loc b e))
def negRm (w : Width) (b : Bound) (e : Rm) (s : State) : Result := complete b s (negLoc w s (s.loc b e))
def incReg (w : Width) (b : Bound) (r : BitVec 3) (s : State) : Result := complete b s (incLoc w s (.reg r))
def decReg (w : Width) (b : Bound) (r : BitVec 3) (s : State) : Result := complete b s (decLoc w s (.reg r))

/-! ## Multiply and divide -/

/-- The accumulator pair, high half first: AH:AL, DX:AX, EDX:EAX. -/
def State.accPair (s : State) (w : Width) : Nat :=
  match w with
  | .w8 => (s.reg .w16 0#3).toNat
  | .w16 => (s.reg .w16 2#3).toNat * 2 ^ 16 + (s.reg .w16 0#3).toNat
  | .w32 => (s.reg .w32 2#3).toNat * 2 ^ 32 + (s.reg .w32 0#3).toNat

/-- The accumulator pair written: high and low half (R509, R513). -/
def State.setAccPair (s : State) (w : Width) (hi lo : BitVec w.bits) : State :=
  match w, hi, lo with
  | .w8, hi, lo => (s.setReg .w8 0#3 lo).setReg .w8 4#3 hi
  | .w16, hi, lo => (s.setReg .w16 2#3 hi).setReg .w16 0#3 lo
  | .w32, hi, lo => (s.setReg .w32 2#3 hi).setReg .w32 0#3 lo

/-- MUL (R509): the exact product split over the pair; CF = OF says its high half is not 0 (R418). -/
def mulRm (w : Width) (b : Bound) (e : Rm) (s : State) : Result :=
  complete b s (do
    let v ← s.readLoc w (s.loc b e)
    let p := (s.reg w 0#3).toNat * v.toNat
    let hi := BitVec.ofNat w.bits (p / 2 ^ w.bits)
    return (s.setAccPair w hi (BitVec.ofNat w.bits p)).setFlags (s.flags.mul s.flagDraws (hi != 0#_)))

/-- The exact signed product. -/
def signedProduct {n : Nat} (a b : BitVec n) : Int := a.toInt * b.toInt

/-- The truncated product does not give the exact one back by sign extension (R418). -/
def productTooBig {n : Nat} (a b : BitVec n) : Bool := (BitVec.ofInt n (signedProduct a b)).toInt != signedProduct a b

/-- One-operand IMUL (R510). -/
def imulRm (w : Width) (b : Bound) (e : Rm) (s : State) : Result :=
  complete b s (do
    let v ← s.readLoc w (s.loc b e)
    let a := s.reg w 0#3
    let p := BitVec.ofInt (w.bits + w.bits) (signedProduct a v)
    return (s.setAccPair w (p.extractLsb' w.bits w.bits) (p.setWidth w.bits)).setFlags
      (s.flags.mul s.flagDraws (productTooBig a v)))

/-- Two- and three-operand IMUL (R511, R512): the truncated product into a register. -/
def imulInto (w : Width) (s : State) (g : BitVec 3) (a v : BitVec w.bits) : State :=
  (s.setReg w g (BitVec.ofInt w.bits (signedProduct a v))).setFlags (s.flags.mul s.flagDraws (productTooBig a v))

/-- IMUL Gv,Ev (R511). -/
def imulRegRm (w : Width) (b : Bound) (g : BitVec 3) (e : Rm) (s : State) : Result :=
  complete b s (do
    let v ← s.readLoc w (s.loc b e)
    return imulInto w s g (s.reg w g) v)

/-- IMUL Gv,Ev,imm (R512). -/
def imulRegRmImm (w : Width) (b : Bound) (g : BitVec 3) (e : Rm) (imm : BitVec w.bits) (s : State) : Result :=
  complete b s (do
    let v ← s.readLoc w (s.loc b e)
    return imulInto w s g v imm)

/-- DIV (R513). -/
def divRm (w : Width) (b : Bound) (e : Rm) (s : State) : Result :=
  complete b s (do
    let v ← s.readLoc w (s.loc b e)
    let n := s.accPair w
    raiseIf (v == 0#_) .de
    raiseIf (decide (2 ^ w.bits ≤ n / v.toNat)) .de
    return (s.setAccPair w (BitVec.ofNat w.bits (n % v.toNat)) (BitVec.ofNat w.bits (n / v.toNat))).setFlags
      (s.flags.undefined s.flagDraws))

/-- The dividend of IDIV as a signed number (R514). -/
def State.signedAccPair (s : State) (w : Width) : Int := (BitVec.ofNat (w.bits + w.bits) (s.accPair w)).toInt

/-- IDIV (R514): the quotient truncates toward zero, the remainder has the dividend's sign (R23). -/
def idivRm (w : Width) (b : Bound) (e : Rm) (s : State) : Result :=
  complete b s (do
    let v ← s.readLoc w (s.loc b e)
    let n := s.signedAccPair w
    raiseIf (v == 0#_) .de
    let q := n.tdiv v.toInt
    raiseIf (decide (q < -(2 ^ (w.bits - 1) : Int)) || decide ((2 ^ (w.bits - 1) : Int) ≤ q)) .de
    return (s.setAccPair w (BitVec.ofInt w.bits (n.tmod v.toInt)) (BitVec.ofInt w.bits q)).setFlags
      (s.flags.undefined s.flagDraws))

/-! ## Decimal adjust -/

/-- AL and AH. -/
def State.al (s : State) : Byte := s.reg .w8 0#3
def State.ah (s : State) : Byte := s.reg .w8 4#3

/-- The low digit is above 9 or AF is set. -/
def State.lowAdjust (s : State) : Bool := decide (9#4 < s.al.setWidth 4) || s.flags.af

/-- DAA (R515). -/
def daa (b : Bound) (s : State) : Result :=
  let high := decide (0x99#8 < s.al) || s.flags.cf
  let a1 := if s.lowAdjust then s.al + 6#8 else s.al
  let a2 := if high then a1 + 0x60#8 else a1
  complete b s (.ok ((s.setReg .w8 0#3 a2).setFlags
    { s.flags.szp a2 with cf := high, af := s.lowAdjust, of := s.flagDraws.of }))

/-- DAS (R516): the borrow of the first step stays in CF. -/
def das (b : Bound) (s : State) : Result :=
  let high := decide (0x99#8 < s.al) || s.flags.cf
  let a1 := if s.lowAdjust then s.al - 6#8 else s.al
  let borrow := s.lowAdjust && (s.flags.cf || decide (s.al < 6#8))
  let a2 := if high then a1 - 0x60#8 else a1
  complete b s (.ok ((s.setReg .w8 0#3 a2).setFlags
    { s.flags.szp a2 with cf := borrow || high, af := s.lowAdjust, of := s.flagDraws.of }))

/-- AF and CF set, the other status flags undefined (R517, R518). -/
def Flags.asciiAdjust (f : Flags) (d : FlagDraws) (c : Bool) : Flags := { f.undefined d with af := c, cf := c }

/-- AAA (R517): past 0xFA the increment of AH is 1 or 2, a draw. -/
def aaa (b : Bound) (s : State) : Result :=
  let ah := if s.lowAdjust then s.ah + 1#8 + carry 8 (decide (0xFA#8 ≤ s.al) && s.drawAdjust) else s.ah
  let al := (if s.lowAdjust then s.al + 6#8 else s.al) &&& 0x0F#8
  complete b s (.ok (((s.setReg .w8 4#3 ah).setReg .w8 0#3 al).setFlags
    (s.flags.asciiAdjust s.flagDraws s.lowAdjust)))

/-- AAS (R518): below 6 the decrement of AH is 1 or 2, a draw. -/
def aas (b : Bound) (s : State) : Result :=
  let ah := if s.lowAdjust then s.ah - 1#8 - carry 8 (decide (s.al < 6#8) && s.drawAdjust) else s.ah
  let al := (if s.lowAdjust then s.al - 6#8 else s.al) &&& 0x0F#8
  complete b s (.ok (((s.setReg .w8 4#3 ah).setReg .w8 0#3 al).setFlags
    (s.flags.asciiAdjust s.flagDraws s.lowAdjust)))

/-- SF, ZF, PF of a result, the other status flags undefined (R519, R520). -/
def Flags.szpOnly (f : Flags) (d : FlagDraws) (r : Byte) : Flags :=
  { f.szp r with of := d.of, af := d.af, cf := d.cf }

/-- AAM (R519). -/
def aam (b : Bound) (imm : Byte) (s : State) : Result :=
  complete b s (do
    raiseIf (imm == 0#8) .de
    let t := (s.setReg .w8 4#3 (s.al / imm)).setReg .w8 0#3 (s.al % imm)
    return t.setFlags (s.flags.szpOnly s.flagDraws (s.al % imm)))

/-- AAD (R520). -/
def aad (b : Bound) (imm : Byte) (s : State) : Result :=
  let r := s.al + s.ah * imm
  complete b s (.ok (((s.setReg .w8 0#3 r).setReg .w8 4#3 0#8).setFlags (s.flags.szpOnly s.flagDraws r)))

/-! ## Compare-exchange and exchange-add -/

/-- CMPXCHG (R521): the destination is written in both cases. -/
def cmpxchg (w : Width) (b : Bound) (e : Rm) (g : BitVec 3) (s : State) : Result :=
  complete b s (do
    let l := s.loc b e
    let d ← s.readDst w l
    let acc := s.reg w 0#3
    let f := s.flags.sub acc d false
    if acc == d then do
      let t ← s.writeLoc w l (s.reg w g)
      return t.setFlags f
    else do
      let t ← s.writeLoc w l d
      return (t.setReg w 0#3 d).setFlags f)

/-- CMPXCHG8B (R522). -/
def cmpxchg8b (b : Bound) (m : Addr) (s : State) : Result :=
  complete b s (do
    let seg := m.segment b
    let off := m.offset s.gpr
    let v ← s.segReadRmw seg off 8
    let d : Quad := BitVec.ofNat 64 v
    if s.gpr.edx ++ s.gpr.eax == d then do
      let t ← s.segWrite seg off 8 (s.gpr.ecx ++ s.gpr.ebx).toNat
      return t.setFlags { s.flags with zf := true }
    else do
      let t ← s.segWrite seg off 8 d.toNat
      return ((t.setReg .w32 2#3 (d.extractLsb' 32 32)).setReg .w32 0#3 (d.setWidth 32)).setFlags
        { s.flags with zf := false })

/-- XADD (R523): the source register gets the old value, the destination is written last. -/
def xadd (w : Width) (b : Bound) (e : Rm) (g : BitVec 3) (s : State) : Result :=
  complete b s (do
    let l := s.loc b e
    let d ← s.readDst w l
    let v := s.reg w g
    let t ← (s.setReg w g d).writeLoc w l (d + v)
    return t.setFlags (s.flags.add d v false))

/-! ## The meanings, one for each row of the opcode table -/

/-- ADD Eb,Gb, 00 (R501). -/
def execAddEbGb (b : Bound) (e : Rm) (g : BitVec 3) (s : State) : Result :=
  aluRmReg .add .w8 b e g s

/-- ADD Ev,Gv, 01 (R501). -/
def execAddEvGv (b : Bound) (e : Rm) (g : BitVec 3) (s : State) : Result :=
  aluRmReg .add b.osz.width b e g s

/-- ADD Gb,Eb, 02 (R501). -/
def execAddGbEb (b : Bound) (g : BitVec 3) (e : Rm) (s : State) : Result :=
  aluRegRm .add .w8 b g e s

/-- ADD Gv,Ev, 03 (R501). -/
def execAddGvEv (b : Bound) (g : BitVec 3) (e : Rm) (s : State) : Result :=
  aluRegRm .add b.osz.width b g e s

/-- ADD AL,Ib, 04 (R501). -/
def execAddAlIb (b : Bound) (imm : Byte) (s : State) : Result :=
  aluAcc .add .w8 b imm s

/-- ADD eAX,Iz, 05 (R501). -/
def execAddEaxIz (b : Bound) (imm : Word) (s : State) : Result :=
  aluAcc .add b.osz.width b (immAt _ imm) s

/-- OR Eb,Gb, 08 (R602). -/
def execOrEbGb (b : Bound) (e : Rm) (g : BitVec 3) (s : State) : Result :=
  aluRmReg .or .w8 b e g s

/-- OR Ev,Gv, 09 (R602). -/
def execOrEvGv (b : Bound) (e : Rm) (g : BitVec 3) (s : State) : Result :=
  aluRmReg .or b.osz.width b e g s

/-- OR Gb,Eb, 0A (R602). -/
def execOrGbEb (b : Bound) (g : BitVec 3) (e : Rm) (s : State) : Result :=
  aluRegRm .or .w8 b g e s

/-- OR Gv,Ev, 0B (R602). -/
def execOrGvEv (b : Bound) (g : BitVec 3) (e : Rm) (s : State) : Result :=
  aluRegRm .or b.osz.width b g e s

/-- OR AL,Ib, 0C (R602). -/
def execOrAlIb (b : Bound) (imm : Byte) (s : State) : Result :=
  aluAcc .or .w8 b imm s

/-- OR eAX,Iz, 0D (R602). -/
def execOrEaxIz (b : Bound) (imm : Word) (s : State) : Result :=
  aluAcc .or b.osz.width b (immAt _ imm) s

/-- ADC Eb,Gb, 10 (R502). -/
def execAdcEbGb (b : Bound) (e : Rm) (g : BitVec 3) (s : State) : Result :=
  aluRmReg .adc .w8 b e g s

/-- ADC Ev,Gv, 11 (R502). -/
def execAdcEvGv (b : Bound) (e : Rm) (g : BitVec 3) (s : State) : Result :=
  aluRmReg .adc b.osz.width b e g s

/-- ADC Gb,Eb, 12 (R502). -/
def execAdcGbEb (b : Bound) (g : BitVec 3) (e : Rm) (s : State) : Result :=
  aluRegRm .adc .w8 b g e s

/-- ADC Gv,Ev, 13 (R502). -/
def execAdcGvEv (b : Bound) (g : BitVec 3) (e : Rm) (s : State) : Result :=
  aluRegRm .adc b.osz.width b g e s

/-- ADC AL,Ib, 14 (R502). -/
def execAdcAlIb (b : Bound) (imm : Byte) (s : State) : Result :=
  aluAcc .adc .w8 b imm s

/-- ADC eAX,Iz, 15 (R502). -/
def execAdcEaxIz (b : Bound) (imm : Word) (s : State) : Result :=
  aluAcc .adc b.osz.width b (immAt _ imm) s

/-- SBB Eb,Gb, 18 (R504). -/
def execSbbEbGb (b : Bound) (e : Rm) (g : BitVec 3) (s : State) : Result :=
  aluRmReg .sbb .w8 b e g s

/-- SBB Ev,Gv, 19 (R504). -/
def execSbbEvGv (b : Bound) (e : Rm) (g : BitVec 3) (s : State) : Result :=
  aluRmReg .sbb b.osz.width b e g s

/-- SBB Gb,Eb, 1A (R504). -/
def execSbbGbEb (b : Bound) (g : BitVec 3) (e : Rm) (s : State) : Result :=
  aluRegRm .sbb .w8 b g e s

/-- SBB Gv,Ev, 1B (R504). -/
def execSbbGvEv (b : Bound) (g : BitVec 3) (e : Rm) (s : State) : Result :=
  aluRegRm .sbb b.osz.width b g e s

/-- SBB AL,Ib, 1C (R504). -/
def execSbbAlIb (b : Bound) (imm : Byte) (s : State) : Result :=
  aluAcc .sbb .w8 b imm s

/-- SBB eAX,Iz, 1D (R504). -/
def execSbbEaxIz (b : Bound) (imm : Word) (s : State) : Result :=
  aluAcc .sbb b.osz.width b (immAt _ imm) s

/-- AND Eb,Gb, 20 (R601). -/
def execAndEbGb (b : Bound) (e : Rm) (g : BitVec 3) (s : State) : Result :=
  aluRmReg .and .w8 b e g s

/-- AND Ev,Gv, 21 (R601). -/
def execAndEvGv (b : Bound) (e : Rm) (g : BitVec 3) (s : State) : Result :=
  aluRmReg .and b.osz.width b e g s

/-- AND Gb,Eb, 22 (R601). -/
def execAndGbEb (b : Bound) (g : BitVec 3) (e : Rm) (s : State) : Result :=
  aluRegRm .and .w8 b g e s

/-- AND Gv,Ev, 23 (R601). -/
def execAndGvEv (b : Bound) (g : BitVec 3) (e : Rm) (s : State) : Result :=
  aluRegRm .and b.osz.width b g e s

/-- AND AL,Ib, 24 (R601). -/
def execAndAlIb (b : Bound) (imm : Byte) (s : State) : Result :=
  aluAcc .and .w8 b imm s

/-- AND eAX,Iz, 25 (R601). -/
def execAndEaxIz (b : Bound) (imm : Word) (s : State) : Result :=
  aluAcc .and b.osz.width b (immAt _ imm) s

/-- DAA, 27 (R515). -/
def execDaa (b : Bound) (s : State) : Result :=
  daa b s

/-- SUB Eb,Gb, 28 (R503). -/
def execSubEbGb (b : Bound) (e : Rm) (g : BitVec 3) (s : State) : Result :=
  aluRmReg .sub .w8 b e g s

/-- SUB Ev,Gv, 29 (R503). -/
def execSubEvGv (b : Bound) (e : Rm) (g : BitVec 3) (s : State) : Result :=
  aluRmReg .sub b.osz.width b e g s

/-- SUB Gb,Eb, 2A (R503). -/
def execSubGbEb (b : Bound) (g : BitVec 3) (e : Rm) (s : State) : Result :=
  aluRegRm .sub .w8 b g e s

/-- SUB Gv,Ev, 2B (R503). -/
def execSubGvEv (b : Bound) (g : BitVec 3) (e : Rm) (s : State) : Result :=
  aluRegRm .sub b.osz.width b g e s

/-- SUB AL,Ib, 2C (R503). -/
def execSubAlIb (b : Bound) (imm : Byte) (s : State) : Result :=
  aluAcc .sub .w8 b imm s

/-- SUB eAX,Iz, 2D (R503). -/
def execSubEaxIz (b : Bound) (imm : Word) (s : State) : Result :=
  aluAcc .sub b.osz.width b (immAt _ imm) s

/-- DAS, 2F (R516). -/
def execDas (b : Bound) (s : State) : Result :=
  das b s

/-- XOR Eb,Gb, 30 (R603). -/
def execXorEbGb (b : Bound) (e : Rm) (g : BitVec 3) (s : State) : Result :=
  aluRmReg .xor .w8 b e g s

/-- XOR Ev,Gv, 31 (R603). -/
def execXorEvGv (b : Bound) (e : Rm) (g : BitVec 3) (s : State) : Result :=
  aluRmReg .xor b.osz.width b e g s

/-- XOR Gb,Eb, 32 (R603). -/
def execXorGbEb (b : Bound) (g : BitVec 3) (e : Rm) (s : State) : Result :=
  aluRegRm .xor .w8 b g e s

/-- XOR Gv,Ev, 33 (R603). -/
def execXorGvEv (b : Bound) (g : BitVec 3) (e : Rm) (s : State) : Result :=
  aluRegRm .xor b.osz.width b g e s

/-- XOR AL,Ib, 34 (R603). -/
def execXorAlIb (b : Bound) (imm : Byte) (s : State) : Result :=
  aluAcc .xor .w8 b imm s

/-- XOR eAX,Iz, 35 (R603). -/
def execXorEaxIz (b : Bound) (imm : Word) (s : State) : Result :=
  aluAcc .xor b.osz.width b (immAt _ imm) s

/-- AAA, 37 (R517). -/
def execAaa (b : Bound) (s : State) : Result :=
  aaa b s

/-- CMP Eb,Gb, 38 (R505). -/
def execCmpEbGb (b : Bound) (e : Rm) (g : BitVec 3) (s : State) : Result :=
  aluRmReg .cmp .w8 b e g s

/-- CMP Ev,Gv, 39 (R505). -/
def execCmpEvGv (b : Bound) (e : Rm) (g : BitVec 3) (s : State) : Result :=
  aluRmReg .cmp b.osz.width b e g s

/-- CMP Gb,Eb, 3A (R505). -/
def execCmpGbEb (b : Bound) (g : BitVec 3) (e : Rm) (s : State) : Result :=
  aluRegRm .cmp .w8 b g e s

/-- CMP Gv,Ev, 3B (R505). -/
def execCmpGvEv (b : Bound) (g : BitVec 3) (e : Rm) (s : State) : Result :=
  aluRegRm .cmp b.osz.width b g e s

/-- CMP AL,Ib, 3C (R505). -/
def execCmpAlIb (b : Bound) (imm : Byte) (s : State) : Result :=
  aluAcc .cmp .w8 b imm s

/-- CMP eAX,Iz, 3D (R505). -/
def execCmpEaxIz (b : Bound) (imm : Word) (s : State) : Result :=
  aluAcc .cmp b.osz.width b (immAt _ imm) s

/-- AAS, 3F (R518). -/
def execAas (b : Bound) (s : State) : Result :=
  aas b s

/-- INC Zv, 40+r (R506). -/
def execIncZv (b : Bound) (r : BitVec 3) (s : State) : Result :=
  incReg b.osz.width b r s

/-- DEC Zv, 48+r (R507). -/
def execDecZv (b : Bound) (r : BitVec 3) (s : State) : Result :=
  decReg b.osz.width b r s

/-- IMUL Gv,Ev,Iz, 69 (R512). -/
def execImulGvEvIz (b : Bound) (g : BitVec 3) (e : Rm) (imm : Word) (s : State) : Result :=
  imulRegRmImm b.osz.width b g e (immAt _ imm) s

/-- IMUL Gv,Ev,Ibs, 6B (R512). -/
def execImulGvEvIbs (b : Bound) (g : BitVec 3) (e : Rm) (imm : Byte) (s : State) : Result :=
  imulRegRmImm b.osz.width b g e (sext _ imm) s

/-- ADD Eb,Ib, 80 /0 (R501). -/
def execAddEbIb (b : Bound) (e : Rm) (imm : Byte) (s : State) : Result :=
  aluRmImm .add .w8 b e imm s

/-- OR Eb,Ib, 80 /1 (R602). -/
def execOrEbIb (b : Bound) (e : Rm) (imm : Byte) (s : State) : Result :=
  aluRmImm .or .w8 b e imm s

/-- ADC Eb,Ib, 80 /2 (R502). -/
def execAdcEbIb (b : Bound) (e : Rm) (imm : Byte) (s : State) : Result :=
  aluRmImm .adc .w8 b e imm s

/-- SBB Eb,Ib, 80 /3 (R504). -/
def execSbbEbIb (b : Bound) (e : Rm) (imm : Byte) (s : State) : Result :=
  aluRmImm .sbb .w8 b e imm s

/-- AND Eb,Ib, 80 /4 (R601). -/
def execAndEbIb (b : Bound) (e : Rm) (imm : Byte) (s : State) : Result :=
  aluRmImm .and .w8 b e imm s

/-- SUB Eb,Ib, 80 /5 (R503). -/
def execSubEbIb (b : Bound) (e : Rm) (imm : Byte) (s : State) : Result :=
  aluRmImm .sub .w8 b e imm s

/-- XOR Eb,Ib, 80 /6 (R603). -/
def execXorEbIb (b : Bound) (e : Rm) (imm : Byte) (s : State) : Result :=
  aluRmImm .xor .w8 b e imm s

/-- CMP Eb,Ib, 80 /7 (R505). -/
def execCmpEbIb (b : Bound) (e : Rm) (imm : Byte) (s : State) : Result :=
  aluRmImm .cmp .w8 b e imm s

/-- ADD Ev,Iz, 81 /0 (R501). -/
def execAddEvIz (b : Bound) (e : Rm) (imm : Word) (s : State) : Result :=
  aluRmImm .add b.osz.width b e (immAt _ imm) s

/-- OR Ev,Iz, 81 /1 (R602). -/
def execOrEvIz (b : Bound) (e : Rm) (imm : Word) (s : State) : Result :=
  aluRmImm .or b.osz.width b e (immAt _ imm) s

/-- ADC Ev,Iz, 81 /2 (R502). -/
def execAdcEvIz (b : Bound) (e : Rm) (imm : Word) (s : State) : Result :=
  aluRmImm .adc b.osz.width b e (immAt _ imm) s

/-- SBB Ev,Iz, 81 /3 (R504). -/
def execSbbEvIz (b : Bound) (e : Rm) (imm : Word) (s : State) : Result :=
  aluRmImm .sbb b.osz.width b e (immAt _ imm) s

/-- AND Ev,Iz, 81 /4 (R601). -/
def execAndEvIz (b : Bound) (e : Rm) (imm : Word) (s : State) : Result :=
  aluRmImm .and b.osz.width b e (immAt _ imm) s

/-- SUB Ev,Iz, 81 /5 (R503). -/
def execSubEvIz (b : Bound) (e : Rm) (imm : Word) (s : State) : Result :=
  aluRmImm .sub b.osz.width b e (immAt _ imm) s

/-- XOR Ev,Iz, 81 /6 (R603). -/
def execXorEvIz (b : Bound) (e : Rm) (imm : Word) (s : State) : Result :=
  aluRmImm .xor b.osz.width b e (immAt _ imm) s

/-- CMP Ev,Iz, 81 /7 (R505). -/
def execCmpEvIz (b : Bound) (e : Rm) (imm : Word) (s : State) : Result :=
  aluRmImm .cmp b.osz.width b e (immAt _ imm) s

/-- ADD Eb,Ib, 82 /0 (R501). -/
def execAddEbIb82 (b : Bound) (e : Rm) (imm : Byte) (s : State) : Result :=
  aluRmImm .add .w8 b e imm s

/-- OR Eb,Ib, 82 /1 (R602). -/
def execOrEbIb82 (b : Bound) (e : Rm) (imm : Byte) (s : State) : Result :=
  aluRmImm .or .w8 b e imm s

/-- ADC Eb,Ib, 82 /2 (R502). -/
def execAdcEbIb82 (b : Bound) (e : Rm) (imm : Byte) (s : State) : Result :=
  aluRmImm .adc .w8 b e imm s

/-- SBB Eb,Ib, 82 /3 (R504). -/
def execSbbEbIb82 (b : Bound) (e : Rm) (imm : Byte) (s : State) : Result :=
  aluRmImm .sbb .w8 b e imm s

/-- AND Eb,Ib, 82 /4 (R601). -/
def execAndEbIb82 (b : Bound) (e : Rm) (imm : Byte) (s : State) : Result :=
  aluRmImm .and .w8 b e imm s

/-- SUB Eb,Ib, 82 /5 (R503). -/
def execSubEbIb82 (b : Bound) (e : Rm) (imm : Byte) (s : State) : Result :=
  aluRmImm .sub .w8 b e imm s

/-- XOR Eb,Ib, 82 /6 (R603). -/
def execXorEbIb82 (b : Bound) (e : Rm) (imm : Byte) (s : State) : Result :=
  aluRmImm .xor .w8 b e imm s

/-- CMP Eb,Ib, 82 /7 (R505). -/
def execCmpEbIb82 (b : Bound) (e : Rm) (imm : Byte) (s : State) : Result :=
  aluRmImm .cmp .w8 b e imm s

/-- ADD Ev,Ibs, 83 /0 (R501). -/
def execAddEvIbs (b : Bound) (e : Rm) (imm : Byte) (s : State) : Result :=
  aluRmImm .add b.osz.width b e (sext _ imm) s

/-- OR Ev,Ibs, 83 /1 (R602). -/
def execOrEvIbs (b : Bound) (e : Rm) (imm : Byte) (s : State) : Result :=
  aluRmImm .or b.osz.width b e (sext _ imm) s

/-- ADC Ev,Ibs, 83 /2 (R502). -/
def execAdcEvIbs (b : Bound) (e : Rm) (imm : Byte) (s : State) : Result :=
  aluRmImm .adc b.osz.width b e (sext _ imm) s

/-- SBB Ev,Ibs, 83 /3 (R504). -/
def execSbbEvIbs (b : Bound) (e : Rm) (imm : Byte) (s : State) : Result :=
  aluRmImm .sbb b.osz.width b e (sext _ imm) s

/-- AND Ev,Ibs, 83 /4 (R601). -/
def execAndEvIbs (b : Bound) (e : Rm) (imm : Byte) (s : State) : Result :=
  aluRmImm .and b.osz.width b e (sext _ imm) s

/-- SUB Ev,Ibs, 83 /5 (R503). -/
def execSubEvIbs (b : Bound) (e : Rm) (imm : Byte) (s : State) : Result :=
  aluRmImm .sub b.osz.width b e (sext _ imm) s

/-- XOR Ev,Ibs, 83 /6 (R603). -/
def execXorEvIbs (b : Bound) (e : Rm) (imm : Byte) (s : State) : Result :=
  aluRmImm .xor b.osz.width b e (sext _ imm) s

/-- CMP Ev,Ibs, 83 /7 (R505). -/
def execCmpEvIbs (b : Bound) (e : Rm) (imm : Byte) (s : State) : Result :=
  aluRmImm .cmp b.osz.width b e (sext _ imm) s

/-- TEST Eb,Gb, 84 (R604). -/
def execTestEbGb (b : Bound) (e : Rm) (g : BitVec 3) (s : State) : Result :=
  aluRmReg .test .w8 b e g s

/-- TEST Ev,Gv, 85 (R604). -/
def execTestEvGv (b : Bound) (e : Rm) (g : BitVec 3) (s : State) : Result :=
  aluRmReg .test b.osz.width b e g s

/-- TEST AL,Ib, A8 (R604). -/
def execTestAlIb (b : Bound) (imm : Byte) (s : State) : Result :=
  aluAcc .test .w8 b imm s

/-- TEST eAX,Iz, A9 (R604). -/
def execTestEaxIz (b : Bound) (imm : Word) (s : State) : Result :=
  aluAcc .test b.osz.width b (immAt _ imm) s

/-- AAM Ib, D4 (R519). -/
def execAamIb (b : Bound) (imm : Byte) (s : State) : Result :=
  aam b imm s

/-- AAD Ib, D5 (R520). -/
def execAadIb (b : Bound) (imm : Byte) (s : State) : Result :=
  aad b imm s

/-- TEST Eb,Ib, F6 /0 (R604). -/
def execTestEbIb (b : Bound) (e : Rm) (imm : Byte) (s : State) : Result :=
  aluRmImm .test .w8 b e imm s

/-- NEG Eb, F6 /3 (R508). -/
def execNegEb (b : Bound) (e : Rm) (s : State) : Result :=
  negRm .w8 b e s

/-- MUL Eb, F6 /4 (R509). -/
def execMulEb (b : Bound) (e : Rm) (s : State) : Result :=
  mulRm .w8 b e s

/-- IMUL Eb, F6 /5 (R510). -/
def execImulEb (b : Bound) (e : Rm) (s : State) : Result :=
  imulRm .w8 b e s

/-- DIV Eb, F6 /6 (R513). -/
def execDivEb (b : Bound) (e : Rm) (s : State) : Result :=
  divRm .w8 b e s

/-- IDIV Eb, F6 /7 (R514). -/
def execIdivEb (b : Bound) (e : Rm) (s : State) : Result :=
  idivRm .w8 b e s

/-- TEST Ev,Iz, F7 /0 (R604). -/
def execTestEvIz (b : Bound) (e : Rm) (imm : Word) (s : State) : Result :=
  aluRmImm .test b.osz.width b e (immAt _ imm) s

/-- NEG Ev, F7 /3 (R508). -/
def execNegEv (b : Bound) (e : Rm) (s : State) : Result :=
  negRm b.osz.width b e s

/-- MUL Ev, F7 /4 (R509). -/
def execMulEv (b : Bound) (e : Rm) (s : State) : Result :=
  mulRm b.osz.width b e s

/-- IMUL Ev, F7 /5 (R510). -/
def execImulEv (b : Bound) (e : Rm) (s : State) : Result :=
  imulRm b.osz.width b e s

/-- DIV Ev, F7 /6 (R513). -/
def execDivEv (b : Bound) (e : Rm) (s : State) : Result :=
  divRm b.osz.width b e s

/-- IDIV Ev, F7 /7 (R514). -/
def execIdivEv (b : Bound) (e : Rm) (s : State) : Result :=
  idivRm b.osz.width b e s

/-- INC Eb, FE /0 (R506). -/
def execIncEb (b : Bound) (e : Rm) (s : State) : Result :=
  incRm .w8 b e s

/-- DEC Eb, FE /1 (R507). -/
def execDecEb (b : Bound) (e : Rm) (s : State) : Result :=
  decRm .w8 b e s

/-- INC Ev, FF /0 (R506). -/
def execIncEv (b : Bound) (e : Rm) (s : State) : Result :=
  incRm b.osz.width b e s

/-- DEC Ev, FF /1 (R507). -/
def execDecEv (b : Bound) (e : Rm) (s : State) : Result :=
  decRm b.osz.width b e s

/-- IMUL Gv,Ev, 0F AF (R511). -/
def execImulGvEv (b : Bound) (g : BitVec 3) (e : Rm) (s : State) : Result :=
  imulRegRm b.osz.width b g e s

/-- CMPXCHG Eb,Gb, 0F B0 (R521). -/
def execCmpxchgEbGb (b : Bound) (e : Rm) (g : BitVec 3) (s : State) : Result :=
  cmpxchg .w8 b e g s

/-- CMPXCHG Ev,Gv, 0F B1 (R521). -/
def execCmpxchgEvGv (b : Bound) (e : Rm) (g : BitVec 3) (s : State) : Result :=
  cmpxchg b.osz.width b e g s

/-- XADD Eb,Gb, 0F C0 (R523). -/
def execXaddEbGb (b : Bound) (e : Rm) (g : BitVec 3) (s : State) : Result :=
  xadd .w8 b e g s

/-- XADD Ev,Gv, 0F C1 (R523). -/
def execXaddEvGv (b : Bound) (e : Rm) (g : BitVec 3) (s : State) : Result :=
  xadd b.osz.width b e g s

/-- CMPXCHG8B Mq, 0F C7 /1 (R522). -/
def execCmpxchg8bMq (b : Bound) (m : Addr) (s : State) : Result :=
  cmpxchg8b b m s

end Sys2Proof.Machine
end

