-- ==== Sys2Proof/Machine/Logic.lean ====
section
/-! DEFINITION. NOT, bit tests, bit scans and SETcc (spec/42_logic_bit.md); AND, OR, XOR and TEST are forms of
Machine/Arith.lean's ALU operations. -/
namespace Sys2Proof.Machine
open Sys2Proof

/-- NOT (R605): no flag. -/
def notRm (w : Width) (b : Bound) (e : Rm) (s : State) : Result :=
  complete b s (s.rmw w (s.loc b e) (fun a => (~~~a, s.flags)))

/-- The bit-test operations (R611 to R614). -/
inductive BitOp where
  | bt | bts | btr | btc
deriving DecidableEq, Repr

/-- The value written back. -/
def BitOp.eval (op : BitOp) {n : Nat} (v : BitVec n) (i : Nat) : BitVec n :=
  match op with
  | .bt => v
  | .bts => v ||| (1#n <<< i)
  | .btr => v &&& ~~~(1#n <<< i)
  | .btc => v ^^^ (1#n <<< i)

/-- CF is the selected bit, ZF stays, the others are undefined (R611). -/
def Flags.bitTest (f : Flags) (d : FlagDraws) (c : Bool) : Flags :=
  { f with cf := c, of := d.of, sf := d.sf, af := d.af, pf := d.pf }

/-- The bit test on a located operand (R611, R612). -/
def bitOn (op : BitOp) (w : Width) (s : State) (l : Loc) (i : Nat) : Except Stop State :=
  match op with
  | .bt => do
    let v ← s.readLoc w l
    return s.setFlags (s.flags.bitTest s.flagDraws (v.getLsbD i))
  | .bts => s.rmw w l (fun v => (BitOp.bts.eval v i, s.flags.bitTest s.flagDraws (v.getLsbD i)))
  | .btr => s.rmw w l (fun v => (BitOp.btr.eval v i, s.flags.bitTest s.flagDraws (v.getLsbD i)))
  | .btc => s.rmw w l (fun v => (BitOp.btc.eval v i, s.flags.bitTest s.flagDraws (v.getLsbD i)))

/-- `BitLocate` with a register bit offset (R610): in memory the offset is signed and moves the address by whole
operands. -/
def bitLocate (b : Bound) (w : Width) (l : Loc) (k : BitVec w.bits) : Loc × Nat :=
  match l with
  | .reg r => (.reg r, k.toNat % w.bits)
  | .mem seg off =>
    (.mem seg (b.asz.cut (off + BitVec.ofInt 32 ((w.bytes : Int) * (k.toInt / (w.bits : Int))))), k.toNat % w.bits)

/-- Bit test with a register offset. -/
def bitRmReg (op : BitOp) (w : Width) (b : Bound) (e : Rm) (g : BitVec 3) (s : State) : Result :=
  let p := bitLocate b w (s.loc b e) (s.reg w g)
  complete b s (bitOn op w s p.1 p.2)

/-- Bit test with an immediate offset: no address adjustment (R610). -/
def bitRmImm (op : BitOp) (w : Width) (b : Bound) (e : Rm) (imm : Byte) (s : State) : Result :=
  complete b s (bitOn op w s (s.loc b e) (imm.toNat % w.bits))

/-- The least set bit. -/
def lowestBit {n : Nat} (v : BitVec n) : Nat := ((List.range n).find? (fun i => v.getLsbD i)).getD 0

/-- The greatest set bit. -/
def highestBit {n : Nat} (v : BitVec n) : Nat := ((List.range n).reverse.find? (fun i => v.getLsbD i)).getD 0

/-- ZF says the source is 0, the other status flags are undefined (R620). -/
def Flags.scan (f : Flags) (d : FlagDraws) (z : Bool) : Flags := { f.undefined d with zf := z }

/-- BSF and BSR (R620, R621): a source of 0 leaves the destination undefined. -/
def scanRegRm (find : {n : Nat} → BitVec n → Nat) (w : Width) (b : Bound) (g : BitVec 3) (e : Rm) (s : State) : Result :=
  complete b s (do
    let v ← s.readLoc w (s.loc b e)
    let r := if v == 0#_ then s.drawWord.setWidth w.bits else BitVec.ofNat w.bits (find v)
    return (s.setReg w g r).setFlags (s.flags.scan s.flagDraws (v == 0#_)))

/-- SETcc (R630). -/
def setcc (b : Bound) (cc : BitVec 4) (e : Rm) (s : State) : Result :=
  complete b s (s.writeLoc .w8 (s.loc b e) (carry 8 (s.flags.cond cc)))

/-! ## The meanings, one for each row of the opcode table -/

/-- NOT Eb, F6 /2 (R605). -/
def execNotEb (b : Bound) (e : Rm) (s : State) : Result :=
  notRm .w8 b e s

/-- NOT Ev, F7 /2 (R605). -/
def execNotEv (b : Bound) (e : Rm) (s : State) : Result :=
  notRm b.osz.width b e s

/-- SETcc Eb, 0F 90+cc (R630). -/
def execSetccEb (b : Bound) (cc : BitVec 4) (e : Rm) (s : State) : Result :=
  setcc b cc e s

/-- BT Ev,Gv, 0F A3 (R611). -/
def execBtEvGv (b : Bound) (e : Rm) (g : BitVec 3) (s : State) : Result :=
  bitRmReg .bt b.osz.width b e g s

/-- BTS Ev,Gv, 0F AB (R612). -/
def execBtsEvGv (b : Bound) (e : Rm) (g : BitVec 3) (s : State) : Result :=
  bitRmReg .bts b.osz.width b e g s

/-- BTR Ev,Gv, 0F B3 (R613). -/
def execBtrEvGv (b : Bound) (e : Rm) (g : BitVec 3) (s : State) : Result :=
  bitRmReg .btr b.osz.width b e g s

/-- BT Ev,Ib, 0F BA /4 (R611). -/
def execBtEvIb (b : Bound) (e : Rm) (imm : Byte) (s : State) : Result :=
  bitRmImm .bt b.osz.width b e imm s

/-- BTS Ev,Ib, 0F BA /5 (R612). -/
def execBtsEvIb (b : Bound) (e : Rm) (imm : Byte) (s : State) : Result :=
  bitRmImm .bts b.osz.width b e imm s

/-- BTR Ev,Ib, 0F BA /6 (R613). -/
def execBtrEvIb (b : Bound) (e : Rm) (imm : Byte) (s : State) : Result :=
  bitRmImm .btr b.osz.width b e imm s

/-- BTC Ev,Ib, 0F BA /7 (R614). -/
def execBtcEvIb (b : Bound) (e : Rm) (imm : Byte) (s : State) : Result :=
  bitRmImm .btc b.osz.width b e imm s

/-- BTC Ev,Gv, 0F BB (R614). -/
def execBtcEvGv (b : Bound) (e : Rm) (g : BitVec 3) (s : State) : Result :=
  bitRmReg .btc b.osz.width b e g s

/-- BSF Gv,Ev, 0F BC (R620). -/
def execBsfGvEv (b : Bound) (g : BitVec 3) (e : Rm) (s : State) : Result :=
  scanRegRm lowestBit b.osz.width b g e s

/-- BSR Gv,Ev, 0F BD (R621). -/
def execBsrGvEv (b : Bound) (g : BitVec 3) (e : Rm) (s : State) : Result :=
  scanRegRm highestBit b.osz.width b g e s

end Sys2Proof.Machine
end

