-- ==== Sys2Proof/Machine/Shift.lean ====
section
/-! DEFINITION. Shifts and rotates (spec/43_shift.md). -/
namespace Sys2Proof.Machine
open Sys2Proof

/-- Group 2 (R701 to R707). -/
inductive ShiftOp where
  | rol | ror | rcl | rcr | shl | shr | sar
deriving DecidableEq, Repr

/-- CF and OF of a rotate: OF is defined for a count of 1 only (R700). -/
def Flags.rotate (f : Flags) (d : FlagDraws) (c : Nat) (cf of : Bool) : Flags :=
  { f with cf := cf, of := if c = 1 then of else d.of }

/-- Flags of a shift: SF, ZF, PF of the result, AF undefined, OF for a count of 1 only (R705 to R711). -/
def Flags.shift (f : Flags) (d : FlagDraws) (c : Nat) (cf of : Bool) {n : Nat} (r : BitVec n) : Flags :=
  { f.szp r with cf := cf, of := if c = 1 then of else d.of, af := d.af }

/-- The bit below the top one. -/
def msb2 {n : Nat} (r : BitVec n) : Bool := r.getLsbD (n - 2)

/-- Result and flags for a masked count c that is not 0 (R701 to R707). -/
def ShiftOp.eval (op : ShiftOp) (f : Flags) (dr : FlagDraws) {n : Nat} (d : BitVec n) (c : Nat) : BitVec n × Flags :=
  match op with
  | .rol =>
    let t := c % n
    let r := (d <<< t) ||| (d >>> (n - t))
    (r, f.rotate dr c (r.getLsbD 0) (r.msb ^^ r.getLsbD 0))
  | .ror =>
    let t := c % n
    let r := (d >>> t) ||| (d <<< (n - t))
    (r, f.rotate dr c r.msb (r.msb ^^ msb2 r))
  | .rcl =>
    let x := (BitVec.cons f.cf d).rotateLeft (c % (n + 1))
    let r := x.setWidth n
    (r, f.rotate dr c x.msb (r.msb ^^ x.msb))
  | .rcr =>
    let x := (BitVec.cons f.cf d).rotateRight (c % (n + 1))
    let r := x.setWidth n
    (r, f.rotate dr c x.msb (r.msb ^^ msb2 r))
  | .shl =>
    let r := d <<< c
    let cf := if c < n then d.getLsbD (n - c) else dr.cf
    (r, f.shift dr c cf (r.msb ^^ cf) r)
  | .shr =>
    let r := d >>> c
    (r, f.shift dr c (if c < n then d.getLsbD (c - 1) else dr.cf) d.msb r)
  | .sar =>
    let r := d.sshiftRight (min c n)
    (r, f.shift dr c (if c < n then d.getLsbD (c - 1) else d.msb) false r)

/-- `ShiftFrame` (R700): a masked count of 0 writes the operand back and no flag. -/
def shiftFrame (w : Width) (b : Bound) (e : Rm) (count : Byte) (body : BitVec w.bits → Nat → BitVec w.bits × Flags)
    (s : State) : Result :=
  complete b s (do
    let l := s.loc b e
    let d ← s.readDst w l
    let c := (count &&& 0x1F#8).toNat
    if c == 0 then s.writeLoc w l d
    else do
      let t ← s.writeLoc w l (body d c).1
      return t.setFlags (body d c).2)

/-- A shift or rotate by a count. -/
def shiftRm (op : ShiftOp) (w : Width) (b : Bound) (e : Rm) (count : Byte) (s : State) : Result :=
  shiftFrame w b e count (fun d c => op.eval s.flags s.flagDraws d c) s

/-- CL, the variable count. -/
def State.cl (s : State) : Byte := s.reg .w8 1#3

/-- SHLD's body (R710): a count above the width leaves the result and all flags undefined. -/
def shldBody (f : Flags) (dr : FlagDraws) {n : Nat} (draw src d : BitVec n) (c : Nat) : BitVec n × Flags :=
  if n < c then (draw, f.undefined dr)
  else
    let r := ((d ++ src) <<< c).extractLsb' n n
    (r, f.shift dr c (d.getLsbD (n - c)) (r.msb ^^ d.msb) r)

/-- SHRD's body (R711). -/
def shrdBody (f : Flags) (dr : FlagDraws) {n : Nat} (draw src d : BitVec n) (c : Nat) : BitVec n × Flags :=
  if n < c then (draw, f.undefined dr)
  else
    let r := ((src ++ d) >>> c).extractLsb' 0 n
    (r, f.shift dr c (d.getLsbD (c - 1)) (r.msb ^^ d.msb) r)

/-- SHLD (R710). -/
def shld (w : Width) (b : Bound) (e : Rm) (g : BitVec 3) (count : Byte) (s : State) : Result :=
  shiftFrame w b e count (shldBody s.flags s.flagDraws (s.drawWord.setWidth w.bits) (s.reg w g)) s

/-- SHRD (R711). -/
def shrd (w : Width) (b : Bound) (e : Rm) (g : BitVec 3) (count : Byte) (s : State) : Result :=
  shiftFrame w b e count (shrdBody s.flags s.flagDraws (s.drawWord.setWidth w.bits) (s.reg w g)) s

/-! ## The meanings, one for each row of the opcode table -/

/-- ROL Eb,Ib, C0 /0 (R701). -/
def execRolEbIb (b : Bound) (e : Rm) (imm : Byte) (s : State) : Result :=
  shiftRm .rol .w8 b e imm s

/-- ROR Eb,Ib, C0 /1 (R702). -/
def execRorEbIb (b : Bound) (e : Rm) (imm : Byte) (s : State) : Result :=
  shiftRm .ror .w8 b e imm s

/-- RCL Eb,Ib, C0 /2 (R703). -/
def execRclEbIb (b : Bound) (e : Rm) (imm : Byte) (s : State) : Result :=
  shiftRm .rcl .w8 b e imm s

/-- RCR Eb,Ib, C0 /3 (R704). -/
def execRcrEbIb (b : Bound) (e : Rm) (imm : Byte) (s : State) : Result :=
  shiftRm .rcr .w8 b e imm s

/-- SHL_SAL Eb,Ib, C0 /4 (R705). -/
def execShlEbIb (b : Bound) (e : Rm) (imm : Byte) (s : State) : Result :=
  shiftRm .shl .w8 b e imm s

/-- SHR Eb,Ib, C0 /5 (R706). -/
def execShrEbIb (b : Bound) (e : Rm) (imm : Byte) (s : State) : Result :=
  shiftRm .shr .w8 b e imm s

/-- SAR Eb,Ib, C0 /7 (R707). -/
def execSarEbIb (b : Bound) (e : Rm) (imm : Byte) (s : State) : Result :=
  shiftRm .sar .w8 b e imm s

/-- ROL Ev,Ib, C1 /0 (R701). -/
def execRolEvIb (b : Bound) (e : Rm) (imm : Byte) (s : State) : Result :=
  shiftRm .rol b.osz.width b e imm s

/-- ROR Ev,Ib, C1 /1 (R702). -/
def execRorEvIb (b : Bound) (e : Rm) (imm : Byte) (s : State) : Result :=
  shiftRm .ror b.osz.width b e imm s

/-- RCL Ev,Ib, C1 /2 (R703). -/
def execRclEvIb (b : Bound) (e : Rm) (imm : Byte) (s : State) : Result :=
  shiftRm .rcl b.osz.width b e imm s

/-- RCR Ev,Ib, C1 /3 (R704). -/
def execRcrEvIb (b : Bound) (e : Rm) (imm : Byte) (s : State) : Result :=
  shiftRm .rcr b.osz.width b e imm s

/-- SHL_SAL Ev,Ib, C1 /4 (R705). -/
def execShlEvIb (b : Bound) (e : Rm) (imm : Byte) (s : State) : Result :=
  shiftRm .shl b.osz.width b e imm s

/-- SHR Ev,Ib, C1 /5 (R706). -/
def execShrEvIb (b : Bound) (e : Rm) (imm : Byte) (s : State) : Result :=
  shiftRm .shr b.osz.width b e imm s

/-- SAR Ev,Ib, C1 /7 (R707). -/
def execSarEvIb (b : Bound) (e : Rm) (imm : Byte) (s : State) : Result :=
  shiftRm .sar b.osz.width b e imm s

/-- ROL Eb,1, D0 /0 (R701). -/
def execRolEb1 (b : Bound) (e : Rm) (s : State) : Result :=
  shiftRm .rol .w8 b e 1#8 s

/-- ROR Eb,1, D0 /1 (R702). -/
def execRorEb1 (b : Bound) (e : Rm) (s : State) : Result :=
  shiftRm .ror .w8 b e 1#8 s

/-- RCL Eb,1, D0 /2 (R703). -/
def execRclEb1 (b : Bound) (e : Rm) (s : State) : Result :=
  shiftRm .rcl .w8 b e 1#8 s

/-- RCR Eb,1, D0 /3 (R704). -/
def execRcrEb1 (b : Bound) (e : Rm) (s : State) : Result :=
  shiftRm .rcr .w8 b e 1#8 s

/-- SHL_SAL Eb,1, D0 /4 (R705). -/
def execShlEb1 (b : Bound) (e : Rm) (s : State) : Result :=
  shiftRm .shl .w8 b e 1#8 s

/-- SHR Eb,1, D0 /5 (R706). -/
def execShrEb1 (b : Bound) (e : Rm) (s : State) : Result :=
  shiftRm .shr .w8 b e 1#8 s

/-- SAR Eb,1, D0 /7 (R707). -/
def execSarEb1 (b : Bound) (e : Rm) (s : State) : Result :=
  shiftRm .sar .w8 b e 1#8 s

/-- ROL Ev,1, D1 /0 (R701). -/
def execRolEv1 (b : Bound) (e : Rm) (s : State) : Result :=
  shiftRm .rol b.osz.width b e 1#8 s

/-- ROR Ev,1, D1 /1 (R702). -/
def execRorEv1 (b : Bound) (e : Rm) (s : State) : Result :=
  shiftRm .ror b.osz.width b e 1#8 s

/-- RCL Ev,1, D1 /2 (R703). -/
def execRclEv1 (b : Bound) (e : Rm) (s : State) : Result :=
  shiftRm .rcl b.osz.width b e 1#8 s

/-- RCR Ev,1, D1 /3 (R704). -/
def execRcrEv1 (b : Bound) (e : Rm) (s : State) : Result :=
  shiftRm .rcr b.osz.width b e 1#8 s

/-- SHL_SAL Ev,1, D1 /4 (R705). -/
def execShlEv1 (b : Bound) (e : Rm) (s : State) : Result :=
  shiftRm .shl b.osz.width b e 1#8 s

/-- SHR Ev,1, D1 /5 (R706). -/
def execShrEv1 (b : Bound) (e : Rm) (s : State) : Result :=
  shiftRm .shr b.osz.width b e 1#8 s

/-- SAR Ev,1, D1 /7 (R707). -/
def execSarEv1 (b : Bound) (e : Rm) (s : State) : Result :=
  shiftRm .sar b.osz.width b e 1#8 s

/-- ROL Eb,CL, D2 /0 (R701). -/
def execRolEbCl (b : Bound) (e : Rm) (s : State) : Result :=
  shiftRm .rol .w8 b e s.cl s

/-- ROR Eb,CL, D2 /1 (R702). -/
def execRorEbCl (b : Bound) (e : Rm) (s : State) : Result :=
  shiftRm .ror .w8 b e s.cl s

/-- RCL Eb,CL, D2 /2 (R703). -/
def execRclEbCl (b : Bound) (e : Rm) (s : State) : Result :=
  shiftRm .rcl .w8 b e s.cl s

/-- RCR Eb,CL, D2 /3 (R704). -/
def execRcrEbCl (b : Bound) (e : Rm) (s : State) : Result :=
  shiftRm .rcr .w8 b e s.cl s

/-- SHL_SAL Eb,CL, D2 /4 (R705). -/
def execShlEbCl (b : Bound) (e : Rm) (s : State) : Result :=
  shiftRm .shl .w8 b e s.cl s

/-- SHR Eb,CL, D2 /5 (R706). -/
def execShrEbCl (b : Bound) (e : Rm) (s : State) : Result :=
  shiftRm .shr .w8 b e s.cl s

/-- SAR Eb,CL, D2 /7 (R707). -/
def execSarEbCl (b : Bound) (e : Rm) (s : State) : Result :=
  shiftRm .sar .w8 b e s.cl s

/-- ROL Ev,CL, D3 /0 (R701). -/
def execRolEvCl (b : Bound) (e : Rm) (s : State) : Result :=
  shiftRm .rol b.osz.width b e s.cl s

/-- ROR Ev,CL, D3 /1 (R702). -/
def execRorEvCl (b : Bound) (e : Rm) (s : State) : Result :=
  shiftRm .ror b.osz.width b e s.cl s

/-- RCL Ev,CL, D3 /2 (R703). -/
def execRclEvCl (b : Bound) (e : Rm) (s : State) : Result :=
  shiftRm .rcl b.osz.width b e s.cl s

/-- RCR Ev,CL, D3 /3 (R704). -/
def execRcrEvCl (b : Bound) (e : Rm) (s : State) : Result :=
  shiftRm .rcr b.osz.width b e s.cl s

/-- SHL_SAL Ev,CL, D3 /4 (R705). -/
def execShlEvCl (b : Bound) (e : Rm) (s : State) : Result :=
  shiftRm .shl b.osz.width b e s.cl s

/-- SHR Ev,CL, D3 /5 (R706). -/
def execShrEvCl (b : Bound) (e : Rm) (s : State) : Result :=
  shiftRm .shr b.osz.width b e s.cl s

/-- SAR Ev,CL, D3 /7 (R707). -/
def execSarEvCl (b : Bound) (e : Rm) (s : State) : Result :=
  shiftRm .sar b.osz.width b e s.cl s

/-- SHLD Ev,Gv,Ib, 0F A4 (R710). -/
def execShldEvGvIb (b : Bound) (e : Rm) (g : BitVec 3) (imm : Byte) (s : State) : Result :=
  shld b.osz.width b e g imm s

/-- SHLD Ev,Gv,CL, 0F A5 (R710). -/
def execShldEvGvCl (b : Bound) (e : Rm) (g : BitVec 3) (s : State) : Result :=
  shld b.osz.width b e g s.cl s

/-- SHRD Ev,Gv,Ib, 0F AC (R711). -/
def execShrdEvGvIb (b : Bound) (e : Rm) (g : BitVec 3) (imm : Byte) (s : State) : Result :=
  shrd b.osz.width b e g imm s

/-- SHRD Ev,Gv,CL, 0F AD (R711). -/
def execShrdEvGvCl (b : Bound) (e : Rm) (g : BitVec 3) (s : State) : Result :=
  shrd b.osz.width b e g s.cl s

end Sys2Proof.Machine
end

