-- ==== Sys2Proof/Machine/DataMove.lean ====
section
/-! DEFINITION. Data movement and far-pointer loads (spec/44_data_move.md sections 1 and 3). -/
namespace Sys2Proof.Machine
open Sys2Proof

/-- MOV Eb,Gb and Ev,Gv (R800). -/
def movRmReg (w : Width) (b : Bound) (e : Rm) (g : BitVec 3) (s : State) : Result :=
  complete b s (s.writeLoc w (s.loc b e) (s.reg w g))

/-- MOV Gb,Eb and Gv,Ev (R800). -/
def movRegRm (w : Width) (b : Bound) (g : BitVec 3) (e : Rm) (s : State) : Result :=
  complete b s (do
    let v ← s.readLoc w (s.loc b e)
    return s.setReg w g v)

/-- MOV Zb,Ib and Zv,Iz (R801). -/
def movRegImm (w : Width) (b : Bound) (r : BitVec 3) (imm : BitVec w.bits) (s : State) : Result :=
  complete b s (.ok (s.setReg w r imm))

/-- MOV Eb,Ib and Ev,Iz (R802). -/
def movRmImm (w : Width) (b : Bound) (e : Rm) (imm : BitVec w.bits) (s : State) : Result :=
  complete b s (s.writeLoc w (s.loc b e) imm)

/-- MOV of the accumulator from a direct offset (R803): DS unless overridden. -/
def movAccMoffs (w : Width) (b : Bound) (moffs : Word) (s : State) : Result :=
  complete b s (do
    let v ← s.readLoc w (.mem (b.seg.getD .ds) moffs)
    return s.setReg w 0#3 v)

/-- MOV of the accumulator to a direct offset (R803). -/
def movMoffsAcc (w : Width) (b : Bound) (moffs : Word) (s : State) : Result :=
  complete b s (s.writeLoc w (.mem (b.seg.getD .ds) moffs) (s.reg w 0#3))

/-- MOV Ew,Sw (R810). -/
def movRmSeg (b : Bound) (e : Rm) (r : SegReg) (s : State) : Result :=
  complete b s (s.storeSelector b e (s.seg r).selector)

/-- The interrupt shadow that a load of SS by MOV or POP sets (R811, R848, R1341). -/
def State.shadowIf (s : State) (c : Bool) : State := { s with intShadow := s.intShadow || c }

/-- MOV Sw,Ew (R811, R812): CS is #UD, as decoding has it too. -/
def movSegRm (b : Bound) (r : SegReg) (e : Rm) (s : State) : Result :=
  let run : Except Stop State := do
    raiseIf (r == .cs) .ud
    let sel ← s.readLoc .w16 (s.loc b e)
    let t ← s.loadSegReg r sel
    return t.shadowIf (r == .ss)
  if r == .ss then completeShadowed b s run else complete b s run

/-- MOVZX (R815). -/
def movzx (w : Width) (b : Bound) (g : BitVec 3) (e : Rm) (s : State) : Result :=
  complete b s (do
    let v ← s.readLoc w (s.loc b e)
    return s.setReg b.osz.width g (v.setWidth _))

/-- MOVSX (R816). -/
def movsx (w : Width) (b : Bound) (g : BitVec 3) (e : Rm) (s : State) : Result :=
  complete b s (do
    let v ← s.readLoc w (s.loc b e)
    return s.setReg b.osz.width g (v.signExtend _))

/-- XCHG on a located operand (R820). -/
def xchgLoc (w : Width) (s : State) (l : Loc) (g : BitVec 3) : Except Stop State := do
  let a ← s.readDst w l
  let t ← s.writeLoc w l (s.reg w g)
  return t.setReg w g a

/-- XCHG Eb,Gb and Ev,Gv. -/
def xchgRmReg (w : Width) (b : Bound) (e : Rm) (g : BitVec 3) (s : State) : Result :=
  complete b s (xchgLoc w s (s.loc b e) g)

/-- XCHG eAX,Zv. -/
def xchgAcc (w : Width) (b : Bound) (r : BitVec 3) (s : State) : Result := complete b s (xchgLoc w s (.reg r) 0#3)

/-- NOP and PAUSE (R821). -/
def nop (b : Bound) (s : State) : Result := complete b s (.ok s)

/-- LEA (R822): the offset alone. -/
def lea (b : Bound) (g : BitVec 3) (m : Addr) (s : State) : Result :=
  complete b s (.ok (s.setReg b.osz.width g ((m.offset s.gpr).setWidth _)))

/-- CBW and CWDE (R823). -/
def cbw (b : Bound) (s : State) : Result :=
  complete b s (.ok (match b.osz with
    | .s16 => s.setReg .w16 0#3 ((s.reg .w8 0#3).signExtend 16)
    | .s32 => s.setReg .w32 0#3 ((s.reg .w16 0#3).signExtend 32)))

/-- CWD and CDQ (R824): DX or EDX gets the sign. -/
def cwd (b : Bound) (s : State) : Result :=
  let w := b.osz.width
  complete b s (.ok (s.setReg w 2#3 (if (s.reg w 0#3).msb then BitVec.allOnes _ else 0#_)))

/-- BSWAP (R825): the 16-bit form's result is undefined. -/
def bswap (b : Bound) (r : BitVec 3) (s : State) : Result :=
  complete b s (.ok (match b.osz with
    | .s16 => s.setReg .w16 r s.drawHalf
    | .s32 =>
      let v := s.gpr.get r
      s.setReg .w32 r (v.setWidth 8 ++ v.extractLsb' 8 8 ++ v.extractLsb' 16 8 ++ v.extractLsb' 24 8)))

/-- CMOVcc (R826): the source is read whatever the condition. -/
def cmovcc (w : Width) (b : Bound) (cc : BitVec 4) (g : BitVec 3) (e : Rm) (s : State) : Result :=
  complete b s (do
    let v ← s.readLoc w (s.loc b e)
    return if s.flags.cond cc then s.setReg w g v else s)

/-- XLAT (R827): the sum wraps at the address size. -/
def xlat (b : Bound) (s : State) : Result :=
  complete b s (do
    let off := b.asz.cut (s.gpr.ebx + (s.reg .w8 0#3).setWidth 32)
    let v ← s.readLoc .w8 (.mem (b.seg.getD .ds) off)
    return s.setReg .w8 0#3 v)

/-- LAHF (R828). -/
def lahf (b : Bound) (s : State) : Result := complete b s (.ok (s.setReg .w8 4#3 (s.flags.image.setWidth 8)))

/-- SAHF (R829). -/
def sahf (b : Bound) (s : State) : Result :=
  let ah := s.reg .w8 4#3
  complete b s (.ok (s.setFlags { s.flags with
    sf := ah.getLsbD 7, zf := ah.getLsbD 6, af := ah.getLsbD 4, pf := ah.getLsbD 2, cf := ah.getLsbD 0 }))

/-- `LoadFarPointer(r, G, M)` (R859). -/
def loadFarPointer (r : SegReg) (b : Bound) (g : BitVec 3) (m : Addr) (s : State) : Result :=
  complete b s (do
    let (off, sel) ← s.readFarPtr b m
    let t ← s.loadSegReg r sel
    return t.setReg b.osz.width g (off.setWidth _))

/-! ## The meanings, one for each row of the opcode table -/

/-- XCHG Eb,Gb, 86 (R820). -/
def execXchgEbGb (b : Bound) (e : Rm) (g : BitVec 3) (s : State) : Result :=
  xchgRmReg .w8 b e g s

/-- XCHG Ev,Gv, 87 (R820). -/
def execXchgEvGv (b : Bound) (e : Rm) (g : BitVec 3) (s : State) : Result :=
  xchgRmReg b.osz.width b e g s

/-- MOV Eb,Gb, 88 (R800). -/
def execMovEbGb (b : Bound) (e : Rm) (g : BitVec 3) (s : State) : Result :=
  movRmReg .w8 b e g s

/-- MOV Ev,Gv, 89 (R800). -/
def execMovEvGv (b : Bound) (e : Rm) (g : BitVec 3) (s : State) : Result :=
  movRmReg b.osz.width b e g s

/-- MOV Gb,Eb, 8A (R800). -/
def execMovGbEb (b : Bound) (g : BitVec 3) (e : Rm) (s : State) : Result :=
  movRegRm .w8 b g e s

/-- MOV Gv,Ev, 8B (R800). -/
def execMovGvEv (b : Bound) (g : BitVec 3) (e : Rm) (s : State) : Result :=
  movRegRm b.osz.width b g e s

/-- MOV Ew,Sw, 8C (R810). -/
def execMovEwSw (b : Bound) (e : Rm) (sreg : SegReg) (s : State) : Result :=
  movRmSeg b e sreg s

/-- LEA Gv,M, 8D (R822). -/
def execLeaGvM (b : Bound) (g : BitVec 3) (m : Addr) (s : State) : Result :=
  lea b g m s

/-- MOV Sw,Ew, 8E (R811). -/
def execMovSwEw (b : Bound) (sreg : SegReg) (e : Rm) (s : State) : Result :=
  movSegRm b sreg e s

/-- NOP, 90 (R821). -/
def execNop (b : Bound) (s : State) : Result :=
  nop b s

/-- XCHG eAX,Zv, 91 (R820). -/
def execXchgEaxR1 (b : Bound) (s : State) : Result :=
  xchgAcc b.osz.width b 1#3 s

/-- XCHG eAX,Zv, 92 (R820). -/
def execXchgEaxR2 (b : Bound) (s : State) : Result :=
  xchgAcc b.osz.width b 2#3 s

/-- XCHG eAX,Zv, 93 (R820). -/
def execXchgEaxR3 (b : Bound) (s : State) : Result :=
  xchgAcc b.osz.width b 3#3 s

/-- XCHG eAX,Zv, 94 (R820). -/
def execXchgEaxR4 (b : Bound) (s : State) : Result :=
  xchgAcc b.osz.width b 4#3 s

/-- XCHG eAX,Zv, 95 (R820). -/
def execXchgEaxR5 (b : Bound) (s : State) : Result :=
  xchgAcc b.osz.width b 5#3 s

/-- XCHG eAX,Zv, 96 (R820). -/
def execXchgEaxR6 (b : Bound) (s : State) : Result :=
  xchgAcc b.osz.width b 6#3 s

/-- XCHG eAX,Zv, 97 (R820). -/
def execXchgEaxR7 (b : Bound) (s : State) : Result :=
  xchgAcc b.osz.width b 7#3 s

/-- CBW_CWDE, 98 (R823). -/
def execCbw (b : Bound) (s : State) : Result :=
  cbw b s

/-- CWD_CDQ, 99 (R824). -/
def execCwd (b : Bound) (s : State) : Result :=
  cwd b s

/-- SAHF, 9E (R829). -/
def execSahf (b : Bound) (s : State) : Result :=
  sahf b s

/-- LAHF, 9F (R828). -/
def execLahf (b : Bound) (s : State) : Result :=
  lahf b s

/-- MOV AL,Ob, A0 (R803). -/
def execMovAlOb (b : Bound) (moffs : Word) (s : State) : Result :=
  movAccMoffs .w8 b moffs s

/-- MOV eAX,Ov, A1 (R803). -/
def execMovEaxOv (b : Bound) (moffs : Word) (s : State) : Result :=
  movAccMoffs b.osz.width b moffs s

/-- MOV Ob,AL, A2 (R803). -/
def execMovObAl (b : Bound) (moffs : Word) (s : State) : Result :=
  movMoffsAcc .w8 b moffs s

/-- MOV Ov,eAX, A3 (R803). -/
def execMovOvEax (b : Bound) (moffs : Word) (s : State) : Result :=
  movMoffsAcc b.osz.width b moffs s

/-- MOV Zb,Ib, B0+r (R801). -/
def execMovZbIb (b : Bound) (r : BitVec 3) (imm : Byte) (s : State) : Result :=
  movRegImm .w8 b r imm s

/-- MOV Zv,Iz, B8+r (R801). -/
def execMovZvIz (b : Bound) (r : BitVec 3) (imm : Word) (s : State) : Result :=
  movRegImm b.osz.width b r (immAt _ imm) s

/-- LES Gv,Mp, C4 (R860). -/
def execLesGvMp (b : Bound) (g : BitVec 3) (m : Addr) (s : State) : Result :=
  loadFarPointer .es b g m s

/-- LDS Gv,Mp, C5 (R861). -/
def execLdsGvMp (b : Bound) (g : BitVec 3) (m : Addr) (s : State) : Result :=
  loadFarPointer .ds b g m s

/-- MOV Eb,Ib, C6 /0 (R802). -/
def execMovEbIb (b : Bound) (e : Rm) (imm : Byte) (s : State) : Result :=
  movRmImm .w8 b e imm s

/-- MOV Ev,Iz, C7 /0 (R802). -/
def execMovEvIz (b : Bound) (e : Rm) (imm : Word) (s : State) : Result :=
  movRmImm b.osz.width b e (immAt _ imm) s

/-- XLAT, D7 (R827). -/
def execXlat (b : Bound) (s : State) : Result :=
  xlat b s

/-- CMOVcc Gv,Ev, 0F 40+cc (R826). -/
def execCmovccGvEv (b : Bound) (cc : BitVec 4) (g : BitVec 3) (e : Rm) (s : State) : Result :=
  cmovcc b.osz.width b cc g e s

/-- LSS Gv,Mp, 0F B2 (R862). -/
def execLssGvMp (b : Bound) (g : BitVec 3) (m : Addr) (s : State) : Result :=
  loadFarPointer .ss b g m s

/-- LFS Gv,Mp, 0F B4 (R863). -/
def execLfsGvMp (b : Bound) (g : BitVec 3) (m : Addr) (s : State) : Result :=
  loadFarPointer .fs b g m s

/-- LGS Gv,Mp, 0F B5 (R864). -/
def execLgsGvMp (b : Bound) (g : BitVec 3) (m : Addr) (s : State) : Result :=
  loadFarPointer .gs b g m s

/-- MOVZX Gv,Eb, 0F B6 (R815). -/
def execMovzxGvEb (b : Bound) (g : BitVec 3) (e : Rm) (s : State) : Result :=
  movzx .w8 b g e s

/-- MOVZX Gv,Ew, 0F B7 (R815). -/
def execMovzxGvEw (b : Bound) (g : BitVec 3) (e : Rm) (s : State) : Result :=
  movzx .w16 b g e s

/-- MOVSX Gv,Eb, 0F BE (R816). -/
def execMovsxGvEb (b : Bound) (g : BitVec 3) (e : Rm) (s : State) : Result :=
  movsx .w8 b g e s

/-- MOVSX Gv,Ew, 0F BF (R816). -/
def execMovsxGvEw (b : Bound) (g : BitVec 3) (e : Rm) (s : State) : Result :=
  movsx .w16 b g e s

/-- BSWAP Zd, 0F C8+r (R825). -/
def execBswapZd (b : Bound) (r : BitVec 3) (s : State) : Result :=
  bswap b r s

end Sys2Proof.Machine
end

