-- ==== Sys2Proof/Machine/Stack.lean ====
section
/-! DEFINITION. Push and pop, PUSHA, PUSHF, ENTER and their opposites (spec/44_data_move.md section 2). -/
namespace Sys2Proof.Machine
open Sys2Proof

/-- The stack pointer moved up by d at the width of SS.db (R841). -/
def State.dropStack (s : State) (d : Word) : State := s.setSp (stackStep s.ss.db s.sp d)

/-- PUSH Zv (R842). -/
def pushReg (b : Bound) (r : BitVec 3) (s : State) : Result := complete b s (s.push b.osz (s.gpr.get r))

/-- PUSH Ev (R843): the operand is read before the stack pointer moves. -/
def pushRm (b : Bound) (e : Rm) (s : State) : Result :=
  complete b s (do
    let v ← s.readLoc b.osz.width (s.loc b e)
    s.push b.osz (v.setWidth 32))

/-- PUSH of an immediate (R844). -/
def pushImm (b : Bound) (v : Word) (s : State) : Result := complete b s (s.push b.osz v)

/-- PUSH of a segment register (R845): the upper half of a 32-bit slot is a draw. -/
def pushSeg (r : SegReg) (b : Bound) (s : State) : Result :=
  complete b s (s.push b.osz (slot b.osz s.drawHalf (s.seg r).selector))

/-- POP Zv (R846): POP ESP ends with the popped value. -/
def popReg (b : Bound) (r : BitVec 3) (s : State) : Result :=
  complete b s (do
    let v ← s.stackRead b.osz 0#32
    return (s.dropStack b.osz.delta).setReg b.osz.width r (v.setWidth _))

/-- POP Ev (R847): ESP as the base of a memory operand is the moved stack pointer, zero-extended when SS.db is 0. -/
def popRm (b : Bound) (e : Rm) (s : State) : Result :=
  complete b s (do
    let v ← s.stackRead b.osz 0#32
    let sp := stackStep s.ss.db s.sp b.osz.delta
    (s.setSp sp).writeLoc b.osz.width (resolve b { s.gpr with esp := sp } e) (v.setWidth _))

/-- POP of a segment register (R848): the new stack pointer is computed from the old one and written after the load, at
the width of the SS.db then in force (log 12). -/
def popSeg (r : SegReg) (b : Bound) (s : State) : Result :=
  let run : Except Stop State := do
    let v ← s.stackRead b.osz 0#32
    let t ← s.loadSegReg r (v.setWidth 16)
    return (t.setSp (stackStep t.ss.db s.sp b.osz.delta)).shadowIf (r == .ss)
  if r == .ss then completeShadowed b s run else complete b s run

/-- PUSHA and PUSHAD (R849): the stack pointer pushed is the one before the instruction. -/
def pusha (b : Bound) (s : State) : Result :=
  complete b s (do
    s.checkStack (.ss 0#32) b.osz 8
    s.pushAll b.osz [s.gpr.eax, s.gpr.ecx, s.gpr.edx, s.gpr.ebx, s.gpr.esp, s.gpr.ebp, s.gpr.esi, s.gpr.edi])

/-- POPA and POPAD (R850): the stack-pointer image is read and dropped. -/
def popa (b : Bound) (s : State) : Result :=
  complete b s (do
    let z := b.osz
    let w := z.width
    let di ← s.stackRead z 0#32
    let si ← s.stackRead z z.delta
    let bp ← s.stackRead z (z.delta * 2#32)
    let _ ← s.stackRead z (z.delta * 3#32)
    let bx ← s.stackRead z (z.delta * 4#32)
    let dx ← s.stackRead z (z.delta * 5#32)
    let cx ← s.stackRead z (z.delta * 6#32)
    let ax ← s.stackRead z (z.delta * 7#32)
    let t := ((((((s.setReg w 7#3 (di.setWidth _)).setReg w 6#3 (si.setWidth _)).setReg w 5#3 (bp.setWidth _)).setReg w
      3#3 (bx.setWidth _)).setReg w 2#3 (dx.setWidth _)).setReg w 1#3 (cx.setWidth _)).setReg w 0#3 (ax.setWidth _)
    return t.dropStack (z.delta * 8#32))

/-- PUSHF and PUSHFD (R851): VM and RF read 0 in the 32-bit image. -/
def pushf (b : Bound) (s : State) : Result := complete b s (s.push b.osz (s.flags.image &&& 0xFFFCFFFF#32))

/-- The flags POPF may write (R852). -/
def State.popfMask (s : State) (z : Size) : Word :=
  (0x4DD5#32)
    ||| (if z == .s32 then 0x00240000#32 else 0#32)
    ||| (if !s.pe || decide (s.cpl ≤ s.flags.iopl) then 0x200#32 else 0#32)
    ||| (if !s.pe || s.cpl == 0#2 then 0x3000#32 else 0#32)

/-- POPF and POPFD (R852). -/
def popf (b : Bound) (s : State) : Result :=
  complete b s (do
    let v ← s.stackRead b.osz 0#32
    let f := s.flags.setImage v (s.popfMask b.osz)
    return (s.dropStack b.osz.delta).setFlags { f with rf := f.rf && b.osz == .s16 })

/-- A register written at the width of SS.db (R853). -/
def State.setStackReg (s : State) (r : BitVec 3) (v : Word) : State :=
  if s.ss.db then s.setReg .w32 r v else s.setReg .w16 r (v.setWidth 16)

/-- The copies of outer frame pointers (R853): EBP moves down and the value there is pushed, k times. -/
def enterCopies (z : Size) : Nat → State → Except Stop State
  | 0, s => .ok s
  | k + 1, s => do
    let bp := stackStep s.ss.db s.gpr.ebp (0#32 - z.delta)
    let t := s.setStackReg 5#3 bp
    let v ← t.segRead .ss bp z.bytes
    let u ← t.push z (BitVec.ofNat 32 v)
    enterCopies z k u

/-- ENTER (R853). -/
def enter (b : Bound) (size : Half) (level : Byte) (s : State) : Result :=
  complete b s (do
    let z := b.osz
    let n := level.toNat % 32
    let s1 ← s.push z s.gpr.ebp
    let frame := s1.sp
    let s2 ← if n == 0 then .ok s1 else do
      let t ← enterCopies z (n - 1) s1
      t.push z frame
    return (s2.setReg z.width 5#3 (frame.setWidth _)).dropStack (0#32 - size.setWidth 32))

/-- LEAVE (R854). -/
def leave (b : Bound) (s : State) : Result :=
  complete b s (do
    let sp := stackStep s.ss.db s.gpr.ebp 0#32
    let v ← s.segRead .ss sp b.osz.bytes
    return (s.setSp (stackStep s.ss.db sp b.osz.delta)).setReg b.osz.width 5#3 (BitVec.ofNat _ v))

/-! ## The meanings, one for each row of the opcode table -/

/-- PUSH_ES, 06 (R845). -/
def execPushEs (b : Bound) (s : State) : Result :=
  pushSeg .es b s

/-- POP_ES, 07 (R848). -/
def execPopEs (b : Bound) (s : State) : Result :=
  popSeg .es b s

/-- PUSH_CS, 0E (R845). -/
def execPushCs (b : Bound) (s : State) : Result :=
  pushSeg .cs b s

/-- PUSH_SS, 16 (R845). -/
def execPushSs (b : Bound) (s : State) : Result :=
  pushSeg .ss b s

/-- POP_SS, 17 (R848). -/
def execPopSs (b : Bound) (s : State) : Result :=
  popSeg .ss b s

/-- PUSH_DS, 1E (R845). -/
def execPushDs (b : Bound) (s : State) : Result :=
  pushSeg .ds b s

/-- POP_DS, 1F (R848). -/
def execPopDs (b : Bound) (s : State) : Result :=
  popSeg .ds b s

/-- PUSH Zv, 50+r (R842). -/
def execPushZv (b : Bound) (r : BitVec 3) (s : State) : Result :=
  pushReg b r s

/-- POP Zv, 58+r (R846). -/
def execPopZv (b : Bound) (r : BitVec 3) (s : State) : Result :=
  popReg b r s

/-- PUSHA_PUSHAD, 60 (R849). -/
def execPusha (b : Bound) (s : State) : Result :=
  pusha b s

/-- POPA_POPAD, 61 (R850). -/
def execPopa (b : Bound) (s : State) : Result :=
  popa b s

/-- PUSH Iz, 68 (R844). -/
def execPushIz (b : Bound) (imm : Word) (s : State) : Result :=
  pushImm b imm s

/-- PUSH Ibs, 6A (R844). -/
def execPushIbs (b : Bound) (imm : Byte) (s : State) : Result :=
  pushImm b (sext .w32 imm) s

/-- POP Ev, 8F /0 (R847). -/
def execPopEv (b : Bound) (e : Rm) (s : State) : Result :=
  popRm b e s

/-- PUSHF_PUSHFD, 9C (R851). -/
def execPushf (b : Bound) (s : State) : Result :=
  pushf b s

/-- POPF_POPFD, 9D (R852). -/
def execPopf (b : Bound) (s : State) : Result :=
  popf b s

/-- ENTER Iw,Ib, C8 (R853). -/
def execEnterIwIb (b : Bound) (size : Half) (level : Byte) (s : State) : Result :=
  enter b size level s

/-- LEAVE, C9 (R854). -/
def execLeave (b : Bound) (s : State) : Result :=
  leave b s

/-- PUSH Ev, FF /6 (R843). -/
def execPushEv (b : Bound) (e : Rm) (s : State) : Result :=
  pushRm b e s

/-- PUSH_FS, 0F A0 (R845). -/
def execPushFs (b : Bound) (s : State) : Result :=
  pushSeg .fs b s

/-- POP_FS, 0F A1 (R848). -/
def execPopFs (b : Bound) (s : State) : Result :=
  popSeg .fs b s

/-- PUSH_GS, 0F A8 (R845). -/
def execPushGs (b : Bound) (s : State) : Result :=
  pushSeg .gs b s

/-- POP_GS, 0F A9 (R848). -/
def execPopGs (b : Bound) (s : State) : Result :=
  popSeg .gs b s

end Sys2Proof.Machine
end

