-- ==== Sys2Proof/Machine/Control.lean ====
section
/-! DEFINITION. Control transfer: near and far transfers, call gates, returns, software interrupts, BOUND
(spec/45_control.md). -/
namespace Sys2Proof.Machine
open Sys2Proof

/-! ## Near transfers -/

/-- The target check of `BranchNear` (R900): the target at operand size, inside CS. -/
def State.branchTarget (s : State) (z : Size) (t : Word) : Except Stop Word := do
  let u := z.cut t
  if decide (s.cs.limit < u) then
    if s.pe then .error (.raise (.gp 0#32)) else .error (.refuse .realModeLimit)
  else .ok u

/-- `BranchNear(t)` (R900). -/
def State.branchNear (s : State) (z : Size) (t : Word) : Except Stop State := do
  let u ← s.branchTarget z t
  return { s with eip := u }

/-- The end of an instruction with its class. -/
def completeAs (c : FlowClass) (s : State) (r : Except Stop State) : Result := finish s true (r.map fun t => (t, c))

/-- JMP to a relative target (R901, R902). -/
def jmpRel (b : Bound) (rel : Word) (s : State) : Result := completeAs .taken s (s.branchNear b.osz (s.next b + rel))

/-- JMP Ev (R903). -/
def jmpRm (b : Bound) (e : Rm) (s : State) : Result :=
  completeAs .unknownTarget s (do
    let v ← s.readLoc b.osz.width (s.loc b e)
    s.branchNear b.osz (v.setWidth 32))

/-- A conditional branch (R904 to R906): a branch not taken checks nothing. -/
def branchIf (c : Bool) (b : Bound) (rel : Word) (s : State) : Result :=
  if c then completeAs .taken s (s.branchNear b.osz (s.next b + rel))
  else completeAs .notTaken s (.ok (s.advance b))

/-- LOOP, LOOPE, LOOPNE (R907 to R909): the count goes down, and the branch needs it not 0 and the extra condition. A
faulting branch leaves the count. -/
def loopIf (extra : Bool) (b : Bound) (rel : Word) (s : State) : Result :=
  let c := b.asz.cut (s.count b - 1#32)
  if c != 0#32 && extra then
    completeAs .taken s ((s.branchNear b.osz (s.next b + rel)).map fun t => t.setAddrReg b 1#3 c)
  else completeAs .notTaken s (.ok ((s.advance b).setAddrReg b 1#3 c))

/-- A near call to a target (R910): the limit check, then the push of EIP_next. -/
def State.callNear (s : State) (b : Bound) (t : Word) : Except Stop State := do
  let u ← s.branchTarget b.osz t
  let p ← s.push b.osz (s.next b)
  return { p with eip := u }

/-- CALL Jz (R910). -/
def callRel (b : Bound) (rel : Word) (s : State) : Result := completeAs .call s (s.callNear b (s.next b + rel))

/-- CALL Ev (R911). -/
def callRm (b : Bound) (e : Rm) (s : State) : Result :=
  completeAs .call s (do
    let v ← s.readLoc b.osz.width (s.loc b e)
    s.callNear b (v.setWidth 32))

/-- RET near, releasing bytes (R912, R913). -/
def retNear (b : Bound) (release : Half) (s : State) : Result :=
  completeAs .ret s (do
    let v ← s.stackRead b.osz 0#32
    let t ← s.branchNear b.osz v
    return t.dropStack (b.osz.delta + release.setWidth 32))

/-! ## Far transfers -/

/-- The checks of a code descriptor that a far JMP or CALL names directly (R930). -/
def State.checkFarCode (s : State) (sel : Half) (d : Desc) : Except Stop Unit := do
  raiseIf (d.conforming && decide (s.cpl < d.dpl)) (.gp (selCode sel))
  raiseIf (!d.conforming && (decide (s.cpl < rpl sel) || d.dpl != s.cpl)) (.gp (selCode sel))
  raiseIf (!d.p) (.np (selCode sel))

/-- A call gate (R244). -/
def Desc.isCallGate (d : Desc) : Bool := !d.s && (d.type == 0x4#4 || d.type == 0xC#4)

/-- A TSS or task gate, whose use is a task switch (R244, R930). -/
def Desc.isTask (d : Desc) : Bool :=
  !d.s && (d.type == 0x1#4 || d.type == 0x3#4 || d.type == 0x5#4 || d.type == 0x9#4 || d.type == 0xB#4)

/-- `GateCheck(sel, g)` (R940): the target selector's descriptor and its address. -/
def State.gateCheck (s : State) (sel : Half) (g : Desc) : Except Stop (Word × Desc) := do
  raiseIf (decide (g.dpl < s.cpl) || decide (g.dpl < rpl sel)) (.gp (selCode sel))
  raiseIf (!g.p) (.np (selCode sel))
  let tsel := g.gateSelector
  raiseIf (isNull tsel) (.gp 0#32)
  let (addr, t) ← s.lookup tsel (.gp (selCode tsel))
  raiseIf (!t.isCode) (.gp (selCode tsel))
  raiseIf (decide (s.cpl < t.dpl)) (.gp (selCode tsel))
  raiseIf (!t.p) (.np (selCode tsel))
  return (addr, t)

/-- `GateJump(sel, g)` (R940). -/
def State.gateJump (s : State) (sel : Half) (g : Desc) : Except Stop State := do
  let (addr, t) ← s.gateCheck sel g
  raiseIf (!t.conforming && t.dpl != s.cpl) (.gp (selCode g.gateSelector))
  raiseIf (decide (t.limit < g.gateOffset)) (.gp 0#32)
  let u ← s.loadCS g.gateSelector addr t s.cpl
  return { u with eip := g.gateOffset }

/-- `FarJump(sel, off)` (R930). -/
def State.farJump (s : State) (b : Bound) (sel : Half) (off0 : Word) : Except Stop State := do
  let off := b.osz.cut off0
  if !s.pe then do
    refuseIf (decide (s.cs.limit < off)) .realModeLimit
    return { s.realLoadCS sel with eip := off }
  else do
    raiseIf (isNull sel) (.gp 0#32)
    let (addr, d) ← s.lookup sel (.gp (selCode sel))
    if d.isCode then do
      s.checkFarCode sel d
      raiseIf (decide (d.limit < off)) (.gp 0#32)
      let t ← s.loadCS sel addr d s.cpl
      return { t with eip := off }
    else if d.isCallGate then s.gateJump sel d
    else do
      refuseIf d.isTask .taskSwitch
      .error (.raise (.gp (selCode sel)))

/-- The pc parameters of a call gate, the first the lowest on the old stack (R942). -/
def State.readParams (s : State) (z : Size) : Word → Nat → Except Stop (List Word)
  | _, 0 => .ok []
  | d, k + 1 => do
    let v ← s.stackRead z d
    let vs ← s.readParams z (d + z.delta) k
    return v :: vs

/-- `GateCall` to a more privileged level (R942), the return address given. -/
def State.gateCallInner (s : State) (g : Desc) (addr : Word) (t : Desc) (ret : Word) : Except Stop State := do
  let z := g.gateSize
  let (ss1, saddr, d, esp1) ← s.innerStack t.dpl 0#32
  s.checkPushes (.ofDesc ss1 d) (.ss (selCode ss1)) t.dpl z (stackStep d.db esp1 0#32) (4 + g.gateCount)
  let params ← s.readParams z 0#32 g.gateCount
  raiseIf (decide (t.limit < g.gateOffset)) (.gp 0#32)
  let s1 ← s.loadStack ss1 saddr d
  let s2 := ({ s1 with cpl := t.dpl } : State).setSp esp1
  let s3 ← s2.pushAll z ([slot z s.drawHalf s.ss.selector, s.sp] ++ params.reverse
    ++ [slot z s.drawHalf2 s.cs.selector, ret])
  let s4 ← s3.loadCS g.gateSelector addr t t.dpl
  return { s4 with eip := g.gateOffset }

/-- `GateCall(sel, g)` (R941, R942). -/
def State.gateCall (s : State) (sel : Half) (g : Desc) (ret : Word) : Except Stop State := do
  let (addr, t) ← s.gateCheck sel g
  if t.conforming || t.dpl == s.cpl then do
    s.checkStack (.ss 0#32) g.gateSize 2
    raiseIf (decide (t.limit < g.gateOffset)) (.gp 0#32)
    let s1 ← s.pushAll g.gateSize [slot g.gateSize s.drawHalf2 s.cs.selector, ret]
    let s2 ← s1.loadCS g.gateSelector addr t s.cpl
    return { s2 with eip := g.gateOffset }
  else s.gateCallInner g addr t ret

/-- `FarCall(sel, off)` (R931). -/
def State.farCall (s : State) (b : Bound) (sel : Half) (off0 : Word) : Except Stop State := do
  let off := b.osz.cut off0
  let frame := [slot b.osz s.drawHalf2 s.cs.selector, s.next b]
  if !s.pe then do
    s.checkStack (.ss 0#32) b.osz 2
    refuseIf (decide (s.cs.limit < off)) .realModeLimit
    let t ← s.pushAll b.osz frame
    return { t.realLoadCS sel with eip := off }
  else do
    raiseIf (isNull sel) (.gp 0#32)
    let (addr, d) ← s.lookup sel (.gp (selCode sel))
    if d.isCode then do
      s.checkFarCode sel d
      s.checkStack (.ss 0#32) b.osz 2
      raiseIf (decide (d.limit < off)) (.gp 0#32)
      let s1 ← s.pushAll b.osz frame
      let s2 ← s1.loadCS sel addr d s.cpl
      return { s2 with eip := off }
    else if d.isCallGate then s.gateCall sel d (s.next b)
    else do
      refuseIf d.isTask .taskSwitch
      .error (.raise (.gp (selCode sel)))

/-- `FarReturn(imm)` (R950). -/
def State.farReturn (s : State) (z : Size) (imm : Half) : Except Stop State := do
  let rel : Word := imm.setWidth 32
  let off0 ← s.stackRead z 0#32
  let sel0 ← s.stackRead z z.delta
  let off := z.cut off0
  let sel : Half := sel0.setWidth 16
  if !s.pe then do
    refuseIf (decide (s.cs.limit < off)) .realModeLimit
    return ({ s.realLoadCS sel with eip := off } : State).dropStack (z.delta * 2#32 + rel)
  else do
    let (addr, d) ← s.returnTarget sel
    let r := rpl sel
    if r == s.cpl then do
      raiseIf (decide (d.limit < off)) (.gp 0#32)
      let t ← s.loadCS sel addr d s.cpl
      return ({ t with eip := off } : State).dropStack (z.delta * 2#32 + rel)
    else do
      let esp2 ← s.stackRead z (z.delta * 2#32 + rel)
      let ss0 ← s.stackRead z (z.delta * 3#32 + rel)
      let ss2 : Half := ss0.setWidth 16
      let (saddr, sd) ← s.returnStack ss2 r
      raiseIf (decide (d.limit < off)) (.gp 0#32)
      let t ← s.loadCS sel addr d r
      let u ← t.loadStack ss2 saddr sd
      return (({ u with eip := off } : State).setSp (stackStep sd.db esp2 rel)).nullOuter

/-- JMP Ap and CALL Ap (R920, R922). -/
def jmpFar (b : Bound) (off : Word) (sel : Half) (s : State) : Result := completeAs .unknownTarget s (s.farJump b sel off)
def callFar (b : Bound) (off : Word) (sel : Half) (s : State) : Result := completeAs .call s (s.farCall b sel off)

/-- JMP Mp (R921): the pointer is read before any descriptor check. -/
def jmpFarMem (b : Bound) (m : Addr) (s : State) : Result :=
  completeAs .unknownTarget s (do
    let (off, sel) ← s.readFarPtr b m
    s.farJump b sel off)

/-- CALL Mp (R923). -/
def callFarMem (b : Bound) (m : Addr) (s : State) : Result :=
  completeAs .call s (do
    let (off, sel) ← s.readFarPtr b m
    s.farCall b sel off)

/-- RET far (R924, R925). -/
def retFar (b : Bound) (release : Half) (s : State) : Result := completeAs .ret s (s.farReturn b.osz release)

/-- IRET (R960, R961). -/
def iret (b : Bound) (s : State) : Result := completeAs .ret s (if !s.pe then s.iretReal b.osz else s.iretProt b.osz)

/-! ## Software interrupts and bounds -/

/-- INTO (R972). -/
def into (b : Bound) (s : State) : Result := if s.flags.of then softInt b 4#8 s else complete b s (.ok s)

/-- The index lies outside the bounds; Config says whether the upper one belongs (R980). -/
def outOfBounds (i lo hi : Int) : Bool :=
  decide (i < lo) || (if Config.boundUpperInclusive then decide (hi < i) else decide (hi ≤ i))

/-- BOUND (R980). -/
def bound (b : Bound) (g : BitVec 3) (m : Addr) (s : State) : Result :=
  complete b s (do
    let w := b.osz.width
    let seg := m.segment b
    let off := m.offset s.gpr
    let lo ← s.readLoc w (.mem seg off)
    let hi ← s.readLoc w (.mem seg (b.offAfter off w.bytes))
    raiseIf (outOfBounds (s.reg w g).toInt lo.toInt hi.toInt) .br
    return s)

/-! ## The meanings, one for each row of the opcode table -/

/-- BOUND Gv,Ma, 62 (R980). -/
def execBoundGvMa (b : Bound) (g : BitVec 3) (m : Addr) (s : State) : Result :=
  bound b g m s

/-- Jcc Jb, 70+cc (R904). -/
def execJccJb (b : Bound) (cc : BitVec 4) (disp : Byte) (s : State) : Result :=
  branchIf (s.flags.cond cc) b (sext .w32 disp) s

/-- CALL Ap, 9A (R922). -/
def execCallAp (b : Bound) (off : Word) (sel : Half) (s : State) : Result :=
  callFar b off sel s

/-- RET Iw, C2 (R913). -/
def execRetIw (b : Bound) (imm : Half) (s : State) : Result :=
  retNear b imm s

/-- RET, C3 (R912). -/
def execRet (b : Bound) (s : State) : Result :=
  retNear b 0#16 s

/-- RETF Iw, CA (R925). -/
def execRetfIw (b : Bound) (imm : Half) (s : State) : Result :=
  retFar b imm s

/-- RETF, CB (R924). -/
def execRetf (b : Bound) (s : State) : Result :=
  retFar b 0#16 s

/-- INT3, CC (R971). -/
def execInt3 (b : Bound) (s : State) : Result :=
  softInt b 3#8 s

/-- INT Ib, CD (R970). -/
def execIntIb (b : Bound) (imm : Byte) (s : State) : Result :=
  softInt b imm s

/-- INTO, CE (R972). -/
def execInto (b : Bound) (s : State) : Result :=
  into b s

/-- IRET_IRETD, CF (R960). -/
def execIret (b : Bound) (s : State) : Result :=
  iret b s

/-- LOOPNE Jb, E0 (R909). -/
def execLoopneJb (b : Bound) (disp : Byte) (s : State) : Result :=
  loopIf (!s.flags.zf) b (sext .w32 disp) s

/-- LOOPE Jb, E1 (R908). -/
def execLoopeJb (b : Bound) (disp : Byte) (s : State) : Result :=
  loopIf s.flags.zf b (sext .w32 disp) s

/-- LOOP Jb, E2 (R907). -/
def execLoopJb (b : Bound) (disp : Byte) (s : State) : Result :=
  loopIf true b (sext .w32 disp) s

/-- JCXZ_JECXZ Jb, E3 (R906). -/
def execJcxzJb (b : Bound) (disp : Byte) (s : State) : Result :=
  branchIf (s.count b == 0#32) b (sext .w32 disp) s

/-- CALL Jz, E8 (R910). -/
def execCallJz (b : Bound) (disp : Word) (s : State) : Result :=
  callRel b (b.osz.sextRel disp) s

/-- JMP Jz, E9 (R902). -/
def execJmpJz (b : Bound) (disp : Word) (s : State) : Result :=
  jmpRel b (b.osz.sextRel disp) s

/-- JMP Ap, EA (R920). -/
def execJmpAp (b : Bound) (off : Word) (sel : Half) (s : State) : Result :=
  jmpFar b off sel s

/-- JMP Jb, EB (R901). -/
def execJmpJb (b : Bound) (disp : Byte) (s : State) : Result :=
  jmpRel b (sext .w32 disp) s

/-- CALL Ev, FF /2 (R911). -/
def execCallEv (b : Bound) (e : Rm) (s : State) : Result :=
  callRm b e s

/-- CALL Mp, FF /3 (R923). -/
def execCallMp (b : Bound) (m : Addr) (s : State) : Result :=
  callFarMem b m s

/-- JMP Ev, FF /4 (R903). -/
def execJmpEv (b : Bound) (e : Rm) (s : State) : Result :=
  jmpRm b e s

/-- JMP Mp, FF /5 (R921). -/
def execJmpMp (b : Bound) (m : Addr) (s : State) : Result :=
  jmpFarMem b m s

/-- Jcc Jz, 0F 80+cc (R905). -/
def execJccJz (b : Bound) (cc : BitVec 4) (disp : Word) (s : State) : Result :=
  branchIf (s.flags.cond cc) b (b.osz.sextRel disp) s

end Sys2Proof.Machine
end

