-- ==== Sys2Proof/Machine/StringIo.lean ====
section
/-! DEFINITION. String instructions, the repeat protocol, port I/O and its permission check (spec/46_string_io.md). -/
namespace Sys2Proof.Machine
open Sys2Proof

/-- `xSI` and `xDI` (R1000): the registers at address size, zero-extended. -/
def State.srcIndex (s : State) (b : Bound) : Word := b.asz.cut s.gpr.esi
def State.dstIndex (s : State) (b : Bound) : Word := b.asz.cut s.gpr.edi

/-- The source segment: the override, else DS (R1000). -/
def Bound.srcSeg (b : Bound) : SegReg := b.seg.getD .ds

/-- `Step(p)` for the register numbered r (R1001). -/
def State.stepIndex (s : State) (b : Bound) (r : BitVec 3) (w : Width) : State :=
  let n := BitVec.ofNat 32 w.bytes
  s.setAddrReg b r (if s.flags.df then s.gpr.get r - n else s.gpr.get r + n)

def State.stepSrc (s : State) (b : Bound) (w : Width) : State := s.stepIndex b 6#3 w
def State.stepDst (s : State) (b : Bound) (w : Width) : State := s.stepIndex b 7#3 w

/-- `StringStep(element)` (R1002): at most one element; a repeated instruction with more to do leaves EIP. -/
def stringStep (stop : State → Bool) (b : Bound) (s : State) (element : Except Stop State) : Result :=
  if b.rep == .none then complete b s element
  else if s.count b == 0#32 then completeAs .notTaken s (.ok (s.advance b))
  else finish s true (element.map fun t =>
    let c := b.asz.cut (s.count b - 1#32)
    let u := t.setAddrReg b 1#3 c
    if c == 0#32 || stop t then (u.advance b, .notTaken) else (u, .taken))

/-- `Stop()` of MOVS, LODS, STOS, INS, OUTS (R1002). -/
def noStop (_ : State) : Bool := false

/-- `Stop()` of CMPS and SCAS (R1003), on the flags the element wrote. -/
def zeroStop (b : Bound) (t : State) : Bool := if b.rep == .repne then t.flags.zf else !t.flags.zf

/-- MOVS (R1010). -/
def movs (w : Width) (b : Bound) (s : State) : Result :=
  stringStep noStop b s (do
    let v ← s.segRead (Bound.srcSeg b) (s.srcIndex b) w.bytes
    let t ← s.segWrite .es (s.dstIndex b) w.bytes v
    return (t.stepSrc b w).stepDst b w)

/-- CMPS (R1011): the source minus the destination. -/
def cmps (w : Width) (b : Bound) (s : State) : Result :=
  stringStep (zeroStop b) b s (do
    let x ← s.readLoc w (.mem (Bound.srcSeg b) (s.srcIndex b))
    let y ← s.readLoc w (.mem .es (s.dstIndex b))
    return ((s.setFlags (s.flags.sub x y false)).stepSrc b w).stepDst b w)

/-- SCAS (R1012): the accumulator minus the element. -/
def scas (w : Width) (b : Bound) (s : State) : Result :=
  stringStep (zeroStop b) b s (do
    let y ← s.readLoc w (.mem .es (s.dstIndex b))
    return (s.setFlags (s.flags.sub (s.reg w 0#3) y false)).stepDst b w)

/-- LODS (R1013). -/
def lods (w : Width) (b : Bound) (s : State) : Result :=
  stringStep noStop b s (do
    let v ← s.readLoc w (.mem (Bound.srcSeg b) (s.srcIndex b))
    return (s.setReg w 0#3 v).stepSrc b w)

/-- STOS (R1014). -/
def stos (w : Width) (b : Bound) (s : State) : Result :=
  stringStep noStop b s (do
    let t ← s.writeLoc w (.mem .es (s.dstIndex b)) (s.reg w 0#3)
    return t.stepDst b w)

/-! ## Ports -/

/-- `IoCheck(p, n)` (R1030). -/
def State.ioCheck (s : State) (port : Half) (n : Nat) : Except Stop Unit := do
  refuseIf (decide (0xFFFF < port.toNat + n - 1)) .ioWrap
  if !s.pe || decide (s.cpl ≤ s.flags.iopl) then .ok ()
  else do
    raiseIf (!(s.tr.type == 0x9#4 || s.tr.type == 0xB#4) || decide (s.tr.limit.toNat < 0x67)) (.gp 0#32)
    let mb ← s.memRead .read false (s.tr.base + 0x66#32) 2
    let q := mb + port.toNat / 8
    raiseIf (decide (s.tr.limit.toNat < q + 1)) (.gp 0#32)
    let bits ← s.memRead .read false (s.tr.base + BitVec.ofNat 32 q) 2
    raiseIf (decide (bits / 2 ^ (port.toNat % 8) % 2 ^ n ≠ 0)) (.gp 0#32)

/-- `IoRead(p, n)`: a draw (R14, R202). -/
def State.ioRead (s : State) (w : Width) : BitVec w.bits := s.drawWord.setWidth w.bits

/-- `IoWrite(p, n, v)`: a recorded event (R14, R263). -/
def State.ioWrite (s : State) (w : Width) (port : Half) (v : BitVec w.bits) : State :=
  { s with ioWrites := s.ioWrites ++ [⟨port, w.bytes, v.setWidth 32⟩] }

/-- DX, the port register (R105). -/
def State.dx (s : State) : Half := s.reg .w16 2#3

/-- INS (R1015): every check comes before the port is read. -/
def ins (w : Width) (b : Bound) (s : State) : Result :=
  stringStep noStop b s (do
    s.ioCheck s.dx w.bytes
    let t ← s.writeLoc w (.mem .es (s.dstIndex b)) (s.ioRead w)
    return t.stepDst b w)

/-- OUTS (R1016). -/
def outs (w : Width) (b : Bound) (s : State) : Result :=
  stringStep noStop b s (do
    s.ioCheck s.dx w.bytes
    let v ← s.readLoc w (.mem (Bound.srcSeg b) (s.srcIndex b))
    return (s.ioWrite w s.dx v).stepSrc b w)

/-- IN (R1020, R1021). -/
def inPort (w : Width) (b : Bound) (port : Half) (s : State) : Result :=
  complete b s (do
    s.ioCheck port w.bytes
    return s.setReg w 0#3 (s.ioRead w))

/-- OUT (R1022, R1023). -/
def outPort (w : Width) (b : Bound) (port : Half) (s : State) : Result :=
  complete b s (do
    s.ioCheck port w.bytes
    return s.ioWrite w port (s.reg w 0#3))

/-! ## The meanings, one for each row of the opcode table -/

/-- INSB, 6C (R1015). -/
def execInsb (b : Bound) (s : State) : Result :=
  ins .w8 b s

/-- INSW_INSD, 6D (R1015). -/
def execInsv (b : Bound) (s : State) : Result :=
  ins b.osz.width b s

/-- OUTSB, 6E (R1016). -/
def execOutsb (b : Bound) (s : State) : Result :=
  outs .w8 b s

/-- OUTSW_OUTSD, 6F (R1016). -/
def execOutsv (b : Bound) (s : State) : Result :=
  outs b.osz.width b s

/-- MOVSB, A4 (R1010). -/
def execMovsb (b : Bound) (s : State) : Result :=
  movs .w8 b s

/-- MOVSW_MOVSD, A5 (R1010). -/
def execMovsv (b : Bound) (s : State) : Result :=
  movs b.osz.width b s

/-- CMPSB, A6 (R1011). -/
def execCmpsb (b : Bound) (s : State) : Result :=
  cmps .w8 b s

/-- CMPSW_CMPSD, A7 (R1011). -/
def execCmpsv (b : Bound) (s : State) : Result :=
  cmps b.osz.width b s

/-- STOSB, AA (R1014). -/
def execStosb (b : Bound) (s : State) : Result :=
  stos .w8 b s

/-- STOSW_STOSD, AB (R1014). -/
def execStosv (b : Bound) (s : State) : Result :=
  stos b.osz.width b s

/-- LODSB, AC (R1013). -/
def execLodsb (b : Bound) (s : State) : Result :=
  lods .w8 b s

/-- LODSW_LODSD, AD (R1013). -/
def execLodsv (b : Bound) (s : State) : Result :=
  lods b.osz.width b s

/-- SCASB, AE (R1012). -/
def execScasb (b : Bound) (s : State) : Result :=
  scas .w8 b s

/-- SCASW_SCASD, AF (R1012). -/
def execScasv (b : Bound) (s : State) : Result :=
  scas b.osz.width b s

/-- IN AL,Ib, E4 (R1020). -/
def execInAlIb (b : Bound) (imm : Byte) (s : State) : Result :=
  inPort .w8 b (imm.setWidth 16) s

/-- IN eAX,Ib, E5 (R1020). -/
def execInEaxIb (b : Bound) (imm : Byte) (s : State) : Result :=
  inPort b.osz.width b (imm.setWidth 16) s

/-- OUT Ib,AL, E6 (R1022). -/
def execOutIbAl (b : Bound) (imm : Byte) (s : State) : Result :=
  outPort .w8 b (imm.setWidth 16) s

/-- OUT Ib,eAX, E7 (R1022). -/
def execOutIbEax (b : Bound) (imm : Byte) (s : State) : Result :=
  outPort b.osz.width b (imm.setWidth 16) s

/-- IN AL,DX, EC (R1021). -/
def execInAlDx (b : Bound) (s : State) : Result :=
  inPort .w8 b s.dx s

/-- IN eAX,DX, ED (R1021). -/
def execInEaxDx (b : Bound) (s : State) : Result :=
  inPort b.osz.width b s.dx s

/-- OUT DX,AL, EE (R1023). -/
def execOutDxAl (b : Bound) (s : State) : Result :=
  outPort .w8 b s.dx s

/-- OUT DX,eAX, EF (R1023). -/
def execOutDxEax (b : Bound) (s : State) : Result :=
  outPort b.osz.width b s.dx s

end Sys2Proof.Machine
end

