-- ==== Sys2Proof/Machine/System.lean ====
section
/-! DEFINITION. Flag control, halt, descriptor tables, control and debug registers, selector inspection,
identification, caches, x87 escape (spec/47_system.md). -/
namespace Sys2Proof.Machine
open Sys2Proof

/-- The privilege check: #GP(0) in protected mode at CPL > 0. -/
def State.privileged (s : State) : Except Stop Unit := raiseIf (s.pe && s.cpl != 0#2) (.gp 0#32)

/-- #UD in real mode (R352). -/
def State.protectedOnly (s : State) : Except Stop Unit := raiseIf (!s.pe) .ud

/-! ## Flag control and halt -/

/-- An instruction that only replaces flags (R430). -/
def setFlagsTo (f : Flags → Flags) (b : Bound) (s : State) : Result := complete b s (.ok (s.setFlags (f s.flags)))

/-- CLI and STI need CPL ≤ IOPL in protected mode (R1105, R1106). -/
def State.ioplCheck (s : State) : Except Stop Unit := raiseIf (s.pe && decide (s.flags.iopl < s.cpl)) (.gp 0#32)

/-- CLI (R1105). -/
def cli (b : Bound) (s : State) : Result :=
  complete b s (do
    s.ioplCheck
    return s.setFlags { s.flags with ifl := false })

/-- STI (R1106): a change of IF from 0 to 1 sets the interrupt shadow. -/
def sti (b : Bound) (s : State) : Result :=
  complete b s (do
    s.ioplCheck
    return (s.setFlags { s.flags with ifl := true }).shadowIf (!s.flags.ifl))

/-- HLT (R1110). -/
def hlt (b : Bound) (s : State) : Result :=
  completeAs .unknownTarget s (do
    s.privileged
    return { s.advance b with halted := true })

/-! ## Descriptor-table registers -/

/-- SGDT and SIDT (R1120, R1121): both parts are checked before the first is written; at operand size 16 the sixth byte
is a draw. -/
def storeTable (t : TableReg) (b : Bound) (m : Addr) (s : State) : Result :=
  complete b s (do
    let seg := m.segment b
    let off := m.offset s.gpr
    let off2 := b.offAfter off 2
    let base : Word := match b.osz with
      | .s16 => (s.drawHalf.setWidth 8 : Byte) ++ (t.base.setWidth 24 : BitVec 24)
      | .s32 => t.base
    s.segCheck seg true off 2
    s.segCheck seg true off2 4
    let s1 ← s.segWrite seg off 2 t.limit.toNat
    s1.segWrite seg off2 4 base.toNat)

/-- The image LGDT and LIDT read (R1122): 24 bits of base at operand size 16. -/
def State.readTable (s : State) (b : Bound) (m : Addr) : Except Stop TableReg := do
  s.privileged
  let seg := m.segment b
  let off := m.offset s.gpr
  let l ← s.segRead seg off 2
  let v ← s.segRead seg (b.offAfter off 2) 4
  let base : Word := BitVec.ofNat 32 v
  return ⟨if b.osz == .s16 then base &&& 0x00FFFFFF#32 else base, BitVec.ofNat 16 l⟩

/-- LGDT (R1122). -/
def lgdt (b : Bound) (m : Addr) (s : State) : Result :=
  complete b s (do
    let t ← s.readTable b m
    return { s.serialise with gdtr := t })

/-- LIDT (R1123). -/
def lidt (b : Bound) (m : Addr) (s : State) : Result :=
  complete b s (do
    let t ← s.readTable b m
    return { s.serialise with idtr := t })

/-- LDTR and TR loaded from a descriptor (R1124, R1125). -/
def SysSeg.ofDesc (sel : Half) (d : Desc) : SysSeg := ⟨sel, d.base, d.limit, d.type, d.p, true⟩

/-- LLDT (R1124). -/
def lldt (b : Bound) (e : Rm) (s : State) : Result :=
  complete b s (do
    s.protectedOnly
    s.privileged
    let sel ← s.readLoc .w16 (s.loc b e)
    if isNull sel then return { s.serialise with ldtr := { s.ldtr with selector := sel, valid := false } }
    else do
      raiseIf (BitVec.getLsbD sel 2) (.gp (selCode sel))
      let (_, d) ← s.lookup sel (.gp (selCode sel))
      raiseIf (d.s || d.type != 0x2#4) (.gp (selCode sel))
      raiseIf (!d.p) (.np (selCode sel))
      return { s.serialise with ldtr := .ofDesc sel d })

/-- LTR (R1125): the descriptor is marked busy. -/
def ltr (b : Bound) (e : Rm) (s : State) : Result :=
  complete b s (do
    s.protectedOnly
    s.privileged
    let sel ← s.readLoc .w16 (s.loc b e)
    raiseIf (isNull sel) (.gp 0#32)
    raiseIf (BitVec.getLsbD sel 2) (.gp (selCode sel))
    let (addr, d) ← s.lookup sel (.gp (selCode sel))
    raiseIf (d.s || !(d.type == 0x1#4 || d.type == 0x9#4)) (.gp (selCode sel))
    raiseIf (!d.p) (.np (selCode sel))
    let t ← s.memWrite false (addr + 5#32) 1 (d.rights ||| 2#8).toNat
    return { t.serialise with tr := { SysSeg.ofDesc sel d with type := d.type ||| 2#4 } })

/-- SLDT and STR (R1126, R1127). -/
def storeSys (r : SysSeg) (b : Bound) (e : Rm) (s : State) : Result :=
  complete b s (do
    s.protectedOnly
    s.storeSelector b e r.selector)

/-! ## Control and debug registers -/

/-- LMSW (R1128): PE can be set, not cleared. -/
def lmsw (b : Bound) (e : Rm) (s : State) : Result :=
  complete b s (do
    s.privileged
    let v ← s.readLoc .w16 (s.loc b e)
    return { s.serialise with cr0 := (s.cr0 &&& 0xFFFFFFF1#32) ||| (BitVec.setWidth 32 v &&& 0xF#32) })

/-- SMSW (R1129). -/
def smsw (b : Bound) (e : Rm) (s : State) : Result := complete b s (s.storeSelector b e (s.cr0.setWidth 16))

/-- CLTS (R1130). -/
def clts (b : Bound) (s : State) : Result :=
  complete b s (do
    s.privileged
    return { s.serialise with cr0 := s.cr0 &&& 0xFFFFFFF7#32 })

/-- One more signal to the paging unit (R17, R281). -/
def State.signal (s : State) (x : PagingSignal) : State := { s with pagingSignals := s.pagingSignals ++ [x] }

/-- A signal to the paging unit when some of the bits it sees changed (R281, R1131). -/
def State.signalIf (s : State) (c : Bool) : State := if c then s.signal .controlChange else s

/-- The six status flags undefined (R1131 to R1134). -/
def State.flagsUndefined (s : State) : State := s.setFlags (s.flags.undefined s.flagDraws)

/-- The control register written (R1131); a write to CR0 writes CR0.PG, which R17 signals whether it changes or not
(log 21). -/
def State.writeControl (s : State) (c : ControlReg) (v : Word) : Except Stop State :=
  match c with
  | .cr0 => do
    raiseIf (v.getLsbD 31 && !v.getLsbD 0) (.gp 0#32)
    raiseIf (v.getLsbD 29 && !v.getLsbD 30) (.gp 0#32)
    refuseIf (v &&& 0x1FFAFFC0#32 != 0#32) .cr0Reserved
    return (({ s with cr0 := v ||| 0x10#32 } : State).signal (.pgWrite (v.getLsbD 31))).signalIf
      ((s.cr0 ^^^ v) &&& 0x80010000#32 != 0#32)
  | .cr2 => .ok { s with cr2 := v }
  | .cr3 => .ok (({ s with cr3 := v } : State).signal (.cr3Write v))
  | .cr4 => do
    raiseIf (v &&& 0xFFFFFE00#32 != 0#32) (.gp 0#32)
    refuseIf (v &&& 0x3#32 != 0#32) .vmeUnsupported
    return ({ s with cr4 := v } : State).signalIf ((s.cr4 ^^^ v) &&& 0xB0#32 != 0#32)

/-- MOV Cd,Rd (R1131). -/
def movToControl (b : Bound) (c : ControlReg) (r : BitVec 3) (s : State) : Result :=
  complete b s (do
    s.privileged
    let t ← s.writeControl c (s.gpr.get r)
    return t.flagsUndefined.serialise)

/-- The control registers (R140 to R143). -/
def State.control (s : State) : ControlReg → Word
  | .cr0 => s.cr0
  | .cr2 => s.cr2
  | .cr3 => s.cr3
  | .cr4 => s.cr4

/-- MOV Rd,Cd (R1133). -/
def movFromControl (b : Bound) (r : BitVec 3) (c : ControlReg) (s : State) : Result :=
  complete b s (do
    s.privileged
    return (s.setReg .w32 r (s.control c)).flagsUndefined)

/-- DR4 and DR5 are #UD with CR4.DE (R170, R1132). -/
def State.debugExists (s : State) (n : BitVec 3) : Except Stop Unit :=
  raiseIf (s.cr4.getLsbD 3 && (n == 4#3 || n == 5#3)) .ud

/-- The debug registers; DR4 and DR5 are DR6 and DR7 (R170). -/
def State.debug (s : State) (n : BitVec 3) : Word :=
  match n.toNat with
  | 0 => s.dr0
  | 1 => s.dr1
  | 2 => s.dr2
  | 3 => s.dr3
  | 4 => s.dr6
  | 5 => s.dr7
  | 6 => s.dr6
  | _ => s.dr7

/-- DR6's fixed bits (R1132). -/
def State.writeDr6 (s : State) (v : Word) : State := { s with dr6 := (v &&& 0xE00F#32) ||| 0xFFFF0FF0#32 }

/-- DR7 with no breakpoint enabled (R1132). -/
def State.writeDr7 (s : State) (v : Word) : Except Stop State := do
  refuseIf (v &&& 0x20FF#32 != 0#32) .hwBreakpoint
  return { s with dr7 := (v &&& 0xFFFF03FF#32) ||| 0x400#32 }

/-- The debug register written (R1132). -/
def State.writeDebug (s : State) (n : BitVec 3) (v : Word) : Except Stop State :=
  match n.toNat with
  | 0 => .ok { s with dr0 := v }
  | 1 => .ok { s with dr1 := v }
  | 2 => .ok { s with dr2 := v }
  | 3 => .ok { s with dr3 := v }
  | 4 => .ok (s.writeDr6 v)
  | 5 => s.writeDr7 v
  | 6 => .ok (s.writeDr6 v)
  | _ => s.writeDr7 v

/-- MOV Dd,Rd (R1132). -/
def movToDebug (b : Bound) (d : BitVec 3) (r : BitVec 3) (s : State) : Result :=
  complete b s (do
    s.debugExists d
    s.privileged
    let t ← s.writeDebug d (s.gpr.get r)
    return t.flagsUndefined.serialise)

/-- MOV Rd,Dd (R1134). -/
def movFromDebug (b : Bound) (r : BitVec 3) (d : BitVec 3) (s : State) : Result :=
  complete b s (do
    s.debugExists d
    s.privileged
    return (s.setReg .w32 r (s.debug d)).flagsUndefined)

/-! ## Selector inspection -/

/-- ZF written, the others kept (R1140 to R1144). -/
def State.setZf (s : State) (z : Bool) : State := s.setFlags { s.flags with zf := z }

/-- ARPL (R1140): a memory operand is checked for writing in both cases. -/
def arpl (b : Bound) (e : Rm) (g : BitVec 3) (s : State) : Result :=
  complete b s (do
    s.protectedOnly
    let l := s.loc b e
    let d ← s.readDst .w16 l
    let v := s.reg .w16 g
    if decide (rpl d < rpl v) then do
      let t ← s.writeLoc .w16 l ((d &&& 0xFFFC#16) ||| (rpl v).setWidth 16)
      return t.setZf true
    else return s.setZf false)

/-- The descriptor of a selector that is not null and whose DescAddr succeeds (R1141). -/
def State.inspect (s : State) (sel : Half) : Except Stop (Option Desc) :=
  if isNull sel then .ok none
  else match s.descAddr sel with
    | none => .ok none
    | some addr => do
      let d ← s.readDesc addr
      return some d

/-- The descriptor may be seen from CPL and RPL; a conforming code segment always (R1141). -/
def Desc.visible (d : Desc) (cpl : BitVec 2) (sel : Half) : Bool :=
  (d.isCode && d.conforming) || (decide (cpl ≤ d.dpl) && decide (rpl sel ≤ d.dpl))

/-- System types LAR accepts (R1141). -/
def larType (t : BitVec 4) : Bool :=
  t == 0x1#4 || t == 0x2#4 || t == 0x3#4 || t == 0x4#4 || t == 0x5#4 || t == 0x9#4 || t == 0xB#4 || t == 0xC#4

/-- System types LSL accepts (R1142). -/
def lslType (t : BitVec 4) : Bool := t == 0x1#4 || t == 0x2#4 || t == 0x3#4 || t == 0x9#4 || t == 0xB#4

/-- The access rights LAR gives (R1141). -/
def Desc.accessRights (d : Desc) (w : Width) : BitVec w.bits :=
  ((d.raw.extractLsb' 32 32) &&& (if w == .w32 then 0x00F0FF00#32 else 0xFF00#32)).setWidth w.bits

/-- LAR and LSL (R1141, R1142): the value on success, ZF = 0 and nothing else on failure. -/
def inspectInto (types : BitVec 4 → Bool) (value : Desc → (w : Width) → BitVec w.bits) (b : Bound) (g : BitVec 3) (e : Rm)
    (s : State) : Result :=
  complete b s (do
    s.protectedOnly
    let sel ← s.readLoc .w16 (s.loc b e)
    let d ← s.inspect sel
    match d with
    | none => return s.setZf false
    | some d =>
      if (d.s || types d.type) && d.visible s.cpl sel then
        return (s.setReg b.osz.width g (value d b.osz.width)).setZf true
      else return s.setZf false)

/-- LSL's value (R1142). -/
def Desc.limitAt (d : Desc) (w : Width) : BitVec w.bits := d.limit.setWidth w.bits

/-- A segment VERR accepts: data or readable code (R1143). -/
def Desc.readable (d : Desc) : Bool := d.s && (!d.type.getLsbD 3 || d.type.getLsbD 1)

/-- VERR and VERW (R1143, R1144): no privilege needed. -/
def verify (good : Desc → Bool) (b : Bound) (e : Rm) (s : State) : Result :=
  complete b s (do
    s.protectedOnly
    let sel ← s.readLoc .w16 (s.loc b e)
    let d ← s.inspect sel
    match d with
    | none => return s.setZf false
    | some d => return s.setZf (good d && d.visible s.cpl sel))

/-! ## Identification, time stamp, MSRs -/

/-- CPUID (R1150). -/
def cpuid (b : Bound) (s : State) : Result :=
  let (a, bx, c, d) := Config.cpuidTable s.gpr.eax
  complete b s (.ok { s.serialise with gpr := { s.gpr with eax := a, ebx := bx, ecx := c, edx := d } })

/-- EDX:EAX from the draw `TscRead` (R1151). -/
def State.readTsc (s : State) : State :=
  { s with gpr := { s.gpr with edx := s.drawBits.extractLsb' 32 32, eax := s.drawBits.setWidth 32 } }

/-- RDTSC (R1151). -/
def rdtsc (b : Bound) (s : State) : Result :=
  complete b s (do
    raiseIf (s.cr4.getLsbD 2 && s.pe && s.cpl != 0#2) (.gp 0#32)
    return s.readTsc)

/-- The one MSR (R171, R1152). -/
def State.msrCheck (s : State) : Except Stop Unit := do
  s.privileged
  raiseIf (s.gpr.ecx != 0x10#32) (.gp 0#32)

/-- RDMSR (R1152). -/
def rdmsr (b : Bound) (s : State) : Result :=
  complete b s (do
    s.msrCheck
    return s.readTsc)

/-- WRMSR (R1153): accepted, no observable effect. -/
def wrmsr (b : Bound) (s : State) : Result :=
  complete b s (do
    s.msrCheck
    return s.serialise)

/-! ## Caches, UD2, x87 -/

/-- INVD (R1160): privileged, then refused. -/
def invd (b : Bound) (s : State) : Result :=
  complete b s (do
    s.privileged
    .error (.refuse .invdDataLoss))

/-- WBINVD (R1161). -/
def wbinvd (b : Bound) (s : State) : Result :=
  complete b s (do
    s.privileged
    return s.serialise)

/-- INVLPG (R1162). -/
def invlpg (b : Bound) (m : Addr) (s : State) : Result :=
  complete b s (do
    s.privileged
    return (s.signal (.invlpg (s.linear (m.segment b) (m.offset s.gpr)))).serialise)

/-- UD2 and RSM (R1170, R1173). -/
def undefinedOpcode (b : Bound) (s : State) : Result := complete b s (.error (.raise .ud))

/-- ESC (R1171): #NM with EM or TS, else refused. -/
def escape (b : Bound) (s : State) : Result :=
  complete b s (do
    raiseIf (s.cr0.getLsbD 2 || s.cr0.getLsbD 3) .nm
    .error (.refuse .fpuUnsupported))

/-- WAIT (R1172). -/
def wait (b : Bound) (s : State) : Result :=
  complete b s (do
    raiseIf (s.cr0.getLsbD 3 && s.cr0.getLsbD 1) .nm
    return s)

/-! ## The meanings, one for each row of the opcode table -/

/-- ARPL Ew,Gw, 63 (R1140). -/
def execArplEwGw (b : Bound) (e : Rm) (g : BitVec 3) (s : State) : Result :=
  arpl b e g s

/-- WAIT_FWAIT, 9B (R1172). -/
def execWait (b : Bound) (s : State) : Result :=
  wait b s

/-- ESC x87, D8+r (R1171). -/
def execEsc (b : Bound) (_op : BitVec 3) (_g : BitVec 3) (_e : Rm) (s : State) : Result :=
  escape b s

/-- HLT, F4 (R1110). -/
def execHlt (b : Bound) (s : State) : Result :=
  hlt b s

/-- CMC, F5 (R1102). -/
def execCmc (b : Bound) (s : State) : Result :=
  setFlagsTo (fun f => { f with cf := !f.cf }) b s

/-- CLC, F8 (R1100). -/
def execClc (b : Bound) (s : State) : Result :=
  setFlagsTo (fun f => { f with cf := false }) b s

/-- STC, F9 (R1101). -/
def execStc (b : Bound) (s : State) : Result :=
  setFlagsTo (fun f => { f with cf := true }) b s

/-- CLI, FA (R1105). -/
def execCli (b : Bound) (s : State) : Result :=
  cli b s

/-- STI, FB (R1106). -/
def execSti (b : Bound) (s : State) : Result :=
  sti b s

/-- CLD, FC (R1103). -/
def execCld (b : Bound) (s : State) : Result :=
  setFlagsTo (fun f => { f with df := false }) b s

/-- STD, FD (R1104). -/
def execStd (b : Bound) (s : State) : Result :=
  setFlagsTo (fun f => { f with df := true }) b s

/-- SLDT Ew, 0F 00 /0 (R1126). -/
def execSldtEw (b : Bound) (e : Rm) (s : State) : Result :=
  storeSys s.ldtr b e s

/-- STR Ew, 0F 00 /1 (R1127). -/
def execStrEw (b : Bound) (e : Rm) (s : State) : Result :=
  storeSys s.tr b e s

/-- LLDT Ew, 0F 00 /2 (R1124). -/
def execLldtEw (b : Bound) (e : Rm) (s : State) : Result :=
  lldt b e s

/-- LTR Ew, 0F 00 /3 (R1125). -/
def execLtrEw (b : Bound) (e : Rm) (s : State) : Result :=
  ltr b e s

/-- VERR Ew, 0F 00 /4 (R1143). -/
def execVerrEw (b : Bound) (e : Rm) (s : State) : Result :=
  verify Desc.readable b e s

/-- VERW Ew, 0F 00 /5 (R1144). -/
def execVerwEw (b : Bound) (e : Rm) (s : State) : Result :=
  verify Desc.isWritableData b e s

/-- SGDT Ms, 0F 01 /0 (R1120). -/
def execSgdtMs (b : Bound) (m : Addr) (s : State) : Result :=
  storeTable s.gdtr b m s

/-- SIDT Ms, 0F 01 /1 (R1121). -/
def execSidtMs (b : Bound) (m : Addr) (s : State) : Result :=
  storeTable s.idtr b m s

/-- LGDT Ms, 0F 01 /2 (R1122). -/
def execLgdtMs (b : Bound) (m : Addr) (s : State) : Result :=
  lgdt b m s

/-- LIDT Ms, 0F 01 /3 (R1123). -/
def execLidtMs (b : Bound) (m : Addr) (s : State) : Result :=
  lidt b m s

/-- SMSW Ew, 0F 01 /4 (R1129). -/
def execSmswEw (b : Bound) (e : Rm) (s : State) : Result :=
  smsw b e s

/-- LMSW Ew, 0F 01 /6 (R1128). -/
def execLmswEw (b : Bound) (e : Rm) (s : State) : Result :=
  lmsw b e s

/-- INVLPG M, 0F 01 /7 (R1162). -/
def execInvlpgM (b : Bound) (m : Addr) (s : State) : Result :=
  invlpg b m s

/-- LAR Gv,Ew, 0F 02 (R1141). -/
def execLarGvEw (b : Bound) (g : BitVec 3) (e : Rm) (s : State) : Result :=
  inspectInto larType Desc.accessRights b g e s

/-- LSL Gv,Ew, 0F 03 (R1142). -/
def execLslGvEw (b : Bound) (g : BitVec 3) (e : Rm) (s : State) : Result :=
  inspectInto lslType Desc.limitAt b g e s

/-- CLTS, 0F 06 (R1130). -/
def execClts (b : Bound) (s : State) : Result :=
  clts b s

/-- INVD, 0F 08 (R1160). -/
def execInvd (b : Bound) (s : State) : Result :=
  invd b s

/-- WBINVD, 0F 09 (R1161). -/
def execWbinvd (b : Bound) (s : State) : Result :=
  wbinvd b s

/-- UD2, 0F 0B (R1170). -/
def execUd2 (b : Bound) (s : State) : Result :=
  undefinedOpcode b s

/-- MOV Rd,Cd, 0F 20 (R1133). -/
def execMovRdCd (b : Bound) (r : BitVec 3) (c : ControlReg) (s : State) : Result :=
  movFromControl b r c s

/-- MOV Rd,Dd, 0F 21 (R1134). -/
def execMovRdDd (b : Bound) (r : BitVec 3) (d : BitVec 3) (s : State) : Result :=
  movFromDebug b r d s

/-- MOV Cd,Rd, 0F 22 (R1131). -/
def execMovCdRd (b : Bound) (c : ControlReg) (r : BitVec 3) (s : State) : Result :=
  movToControl b c r s

/-- MOV Dd,Rd, 0F 23 (R1132). -/
def execMovDdRd (b : Bound) (d : BitVec 3) (r : BitVec 3) (s : State) : Result :=
  movToDebug b d r s

/-- WRMSR, 0F 30 (R1153). -/
def execWrmsr (b : Bound) (s : State) : Result :=
  wrmsr b s

/-- RDTSC, 0F 31 (R1151). -/
def execRdtsc (b : Bound) (s : State) : Result :=
  rdtsc b s

/-- RDMSR, 0F 32 (R1152). -/
def execRdmsr (b : Bound) (s : State) : Result :=
  rdmsr b s

/-- CPUID, 0F A2 (R1150). -/
def execCpuid (b : Bound) (s : State) : Result :=
  cpuid b s

/-- RSM, 0F AA (R1173). -/
def execRsm (b : Bound) (s : State) : Result :=
  undefinedOpcode b s

end Sys2Proof.Machine
end

