-- ==== Sys2Proof/Machine/Dispatch.lean ====
section
/-! DEFINITION. Dispatch: every instruction to its meaning, one arm for each constructor of Instr. -/
namespace Sys2Proof.Machine
open Sys2Proof

def exec (i : Instr) (s : State) : Host.Outcome State Fault Refusal :=
  match i with
  | .addEbGb b e g => Sys2Proof.Machine.execAddEbGb b e g s
  | .addEvGv b e g => Sys2Proof.Machine.execAddEvGv b e g s
  | .addGbEb b g e => Sys2Proof.Machine.execAddGbEb b g e s
  | .addGvEv b g e => Sys2Proof.Machine.execAddGvEv b g e s
  | .addAlIb b imm => Sys2Proof.Machine.execAddAlIb b imm s
  | .addEaxIz b imm => Sys2Proof.Machine.execAddEaxIz b imm s
  | .pushEs b => Sys2Proof.Machine.execPushEs b s
  | .popEs b => Sys2Proof.Machine.execPopEs b s
  | .orEbGb b e g => Sys2Proof.Machine.execOrEbGb b e g s
  | .orEvGv b e g => Sys2Proof.Machine.execOrEvGv b e g s
  | .orGbEb b g e => Sys2Proof.Machine.execOrGbEb b g e s
  | .orGvEv b g e => Sys2Proof.Machine.execOrGvEv b g e s
  | .orAlIb b imm => Sys2Proof.Machine.execOrAlIb b imm s
  | .orEaxIz b imm => Sys2Proof.Machine.execOrEaxIz b imm s
  | .pushCs b => Sys2Proof.Machine.execPushCs b s
  | .adcEbGb b e g => Sys2Proof.Machine.execAdcEbGb b e g s
  | .adcEvGv b e g => Sys2Proof.Machine.execAdcEvGv b e g s
  | .adcGbEb b g e => Sys2Proof.Machine.execAdcGbEb b g e s
  | .adcGvEv b g e => Sys2Proof.Machine.execAdcGvEv b g e s
  | .adcAlIb b imm => Sys2Proof.Machine.execAdcAlIb b imm s
  | .adcEaxIz b imm => Sys2Proof.Machine.execAdcEaxIz b imm s
  | .pushSs b => Sys2Proof.Machine.execPushSs b s
  | .popSs b => Sys2Proof.Machine.execPopSs b s
  | .sbbEbGb b e g => Sys2Proof.Machine.execSbbEbGb b e g s
  | .sbbEvGv b e g => Sys2Proof.Machine.execSbbEvGv b e g s
  | .sbbGbEb b g e => Sys2Proof.Machine.execSbbGbEb b g e s
  | .sbbGvEv b g e => Sys2Proof.Machine.execSbbGvEv b g e s
  | .sbbAlIb b imm => Sys2Proof.Machine.execSbbAlIb b imm s
  | .sbbEaxIz b imm => Sys2Proof.Machine.execSbbEaxIz b imm s
  | .pushDs b => Sys2Proof.Machine.execPushDs b s
  | .popDs b => Sys2Proof.Machine.execPopDs b s
  | .andEbGb b e g => Sys2Proof.Machine.execAndEbGb b e g s
  | .andEvGv b e g => Sys2Proof.Machine.execAndEvGv b e g s
  | .andGbEb b g e => Sys2Proof.Machine.execAndGbEb b g e s
  | .andGvEv b g e => Sys2Proof.Machine.execAndGvEv b g e s
  | .andAlIb b imm => Sys2Proof.Machine.execAndAlIb b imm s
  | .andEaxIz b imm => Sys2Proof.Machine.execAndEaxIz b imm s
  | .daa b => Sys2Proof.Machine.execDaa b s
  | .subEbGb b e g => Sys2Proof.Machine.execSubEbGb b e g s
  | .subEvGv b e g => Sys2Proof.Machine.execSubEvGv b e g s
  | .subGbEb b g e => Sys2Proof.Machine.execSubGbEb b g e s
  | .subGvEv b g e => Sys2Proof.Machine.execSubGvEv b g e s
  | .subAlIb b imm => Sys2Proof.Machine.execSubAlIb b imm s
  | .subEaxIz b imm => Sys2Proof.Machine.execSubEaxIz b imm s
  | .das b => Sys2Proof.Machine.execDas b s
  | .xorEbGb b e g => Sys2Proof.Machine.execXorEbGb b e g s
  | .xorEvGv b e g => Sys2Proof.Machine.execXorEvGv b e g s
  | .xorGbEb b g e => Sys2Proof.Machine.execXorGbEb b g e s
  | .xorGvEv b g e => Sys2Proof.Machine.execXorGvEv b g e s
  | .xorAlIb b imm => Sys2Proof.Machine.execXorAlIb b imm s
  | .xorEaxIz b imm => Sys2Proof.Machine.execXorEaxIz b imm s
  | .aaa b => Sys2Proof.Machine.execAaa b s
  | .cmpEbGb b e g => Sys2Proof.Machine.execCmpEbGb b e g s
  | .cmpEvGv b e g => Sys2Proof.Machine.execCmpEvGv b e g s
  | .cmpGbEb b g e => Sys2Proof.Machine.execCmpGbEb b g e s
  | .cmpGvEv b g e => Sys2Proof.Machine.execCmpGvEv b g e s
  | .cmpAlIb b imm => Sys2Proof.Machine.execCmpAlIb b imm s
  | .cmpEaxIz b imm => Sys2Proof.Machine.execCmpEaxIz b imm s
  | .aas b => Sys2Proof.Machine.execAas b s
  | .incZv b r => Sys2Proof.Machine.execIncZv b r s
  | .decZv b r => Sys2Proof.Machine.execDecZv b r s
  | .pushZv b r => Sys2Proof.Machine.execPushZv b r s
  | .popZv b r => Sys2Proof.Machine.execPopZv b r s
  | .pusha b => Sys2Proof.Machine.execPusha b s
  | .popa b => Sys2Proof.Machine.execPopa b s
  | .boundGvMa b g m => Sys2Proof.Machine.execBoundGvMa b g m s
  | .arplEwGw b e g => Sys2Proof.Machine.execArplEwGw b e g s
  | .pushIz b imm => Sys2Proof.Machine.execPushIz b imm s
  | .imulGvEvIz b g e imm => Sys2Proof.Machine.execImulGvEvIz b g e imm s
  | .pushIbs b imm => Sys2Proof.Machine.execPushIbs b imm s
  | .imulGvEvIbs b g e imm => Sys2Proof.Machine.execImulGvEvIbs b g e imm s
  | .insb b => Sys2Proof.Machine.execInsb b s
  | .insv b => Sys2Proof.Machine.execInsv b s
  | .outsb b => Sys2Proof.Machine.execOutsb b s
  | .outsv b => Sys2Proof.Machine.execOutsv b s
  | .jccJb b cc disp => Sys2Proof.Machine.execJccJb b cc disp s
  | .addEbIb b e imm => Sys2Proof.Machine.execAddEbIb b e imm s
  | .orEbIb b e imm => Sys2Proof.Machine.execOrEbIb b e imm s
  | .adcEbIb b e imm => Sys2Proof.Machine.execAdcEbIb b e imm s
  | .sbbEbIb b e imm => Sys2Proof.Machine.execSbbEbIb b e imm s
  | .andEbIb b e imm => Sys2Proof.Machine.execAndEbIb b e imm s
  | .subEbIb b e imm => Sys2Proof.Machine.execSubEbIb b e imm s
  | .xorEbIb b e imm => Sys2Proof.Machine.execXorEbIb b e imm s
  | .cmpEbIb b e imm => Sys2Proof.Machine.execCmpEbIb b e imm s
  | .addEvIz b e imm => Sys2Proof.Machine.execAddEvIz b e imm s
  | .orEvIz b e imm => Sys2Proof.Machine.execOrEvIz b e imm s
  | .adcEvIz b e imm => Sys2Proof.Machine.execAdcEvIz b e imm s
  | .sbbEvIz b e imm => Sys2Proof.Machine.execSbbEvIz b e imm s
  | .andEvIz b e imm => Sys2Proof.Machine.execAndEvIz b e imm s
  | .subEvIz b e imm => Sys2Proof.Machine.execSubEvIz b e imm s
  | .xorEvIz b e imm => Sys2Proof.Machine.execXorEvIz b e imm s
  | .cmpEvIz b e imm => Sys2Proof.Machine.execCmpEvIz b e imm s
  | .addEbIb82 b e imm => Sys2Proof.Machine.execAddEbIb82 b e imm s
  | .orEbIb82 b e imm => Sys2Proof.Machine.execOrEbIb82 b e imm s
  | .adcEbIb82 b e imm => Sys2Proof.Machine.execAdcEbIb82 b e imm s
  | .sbbEbIb82 b e imm => Sys2Proof.Machine.execSbbEbIb82 b e imm s
  | .andEbIb82 b e imm => Sys2Proof.Machine.execAndEbIb82 b e imm s
  | .subEbIb82 b e imm => Sys2Proof.Machine.execSubEbIb82 b e imm s
  | .xorEbIb82 b e imm => Sys2Proof.Machine.execXorEbIb82 b e imm s
  | .cmpEbIb82 b e imm => Sys2Proof.Machine.execCmpEbIb82 b e imm s
  | .addEvIbs b e imm => Sys2Proof.Machine.execAddEvIbs b e imm s
  | .orEvIbs b e imm => Sys2Proof.Machine.execOrEvIbs b e imm s
  | .adcEvIbs b e imm => Sys2Proof.Machine.execAdcEvIbs b e imm s
  | .sbbEvIbs b e imm => Sys2Proof.Machine.execSbbEvIbs b e imm s
  | .andEvIbs b e imm => Sys2Proof.Machine.execAndEvIbs b e imm s
  | .subEvIbs b e imm => Sys2Proof.Machine.execSubEvIbs b e imm s
  | .xorEvIbs b e imm => Sys2Proof.Machine.execXorEvIbs b e imm s
  | .cmpEvIbs b e imm => Sys2Proof.Machine.execCmpEvIbs b e imm s
  | .testEbGb b e g => Sys2Proof.Machine.execTestEbGb b e g s
  | .testEvGv b e g => Sys2Proof.Machine.execTestEvGv b e g s
  | .xchgEbGb b e g => Sys2Proof.Machine.execXchgEbGb b e g s
  | .xchgEvGv b e g => Sys2Proof.Machine.execXchgEvGv b e g s
  | .movEbGb b e g => Sys2Proof.Machine.execMovEbGb b e g s
  | .movEvGv b e g => Sys2Proof.Machine.execMovEvGv b e g s
  | .movGbEb b g e => Sys2Proof.Machine.execMovGbEb b g e s
  | .movGvEv b g e => Sys2Proof.Machine.execMovGvEv b g e s
  | .movEwSw b e sreg => Sys2Proof.Machine.execMovEwSw b e sreg s
  | .leaGvM b g m => Sys2Proof.Machine.execLeaGvM b g m s
  | .movSwEw b sreg e => Sys2Proof.Machine.execMovSwEw b sreg e s
  | .popEv b e => Sys2Proof.Machine.execPopEv b e s
  | .nop b => Sys2Proof.Machine.execNop b s
  | .xchgEaxR1 b => Sys2Proof.Machine.execXchgEaxR1 b s
  | .xchgEaxR2 b => Sys2Proof.Machine.execXchgEaxR2 b s
  | .xchgEaxR3 b => Sys2Proof.Machine.execXchgEaxR3 b s
  | .xchgEaxR4 b => Sys2Proof.Machine.execXchgEaxR4 b s
  | .xchgEaxR5 b => Sys2Proof.Machine.execXchgEaxR5 b s
  | .xchgEaxR6 b => Sys2Proof.Machine.execXchgEaxR6 b s
  | .xchgEaxR7 b => Sys2Proof.Machine.execXchgEaxR7 b s
  | .cbw b => Sys2Proof.Machine.execCbw b s
  | .cwd b => Sys2Proof.Machine.execCwd b s
  | .callAp b off sel => Sys2Proof.Machine.execCallAp b off sel s
  | .wait b => Sys2Proof.Machine.execWait b s
  | .pushf b => Sys2Proof.Machine.execPushf b s
  | .popf b => Sys2Proof.Machine.execPopf b s
  | .sahf b => Sys2Proof.Machine.execSahf b s
  | .lahf b => Sys2Proof.Machine.execLahf b s
  | .movAlOb b moffs => Sys2Proof.Machine.execMovAlOb b moffs s
  | .movEaxOv b moffs => Sys2Proof.Machine.execMovEaxOv b moffs s
  | .movObAl b moffs => Sys2Proof.Machine.execMovObAl b moffs s
  | .movOvEax b moffs => Sys2Proof.Machine.execMovOvEax b moffs s
  | .movsb b => Sys2Proof.Machine.execMovsb b s
  | .movsv b => Sys2Proof.Machine.execMovsv b s
  | .cmpsb b => Sys2Proof.Machine.execCmpsb b s
  | .cmpsv b => Sys2Proof.Machine.execCmpsv b s
  | .testAlIb b imm => Sys2Proof.Machine.execTestAlIb b imm s
  | .testEaxIz b imm => Sys2Proof.Machine.execTestEaxIz b imm s
  | .stosb b => Sys2Proof.Machine.execStosb b s
  | .stosv b => Sys2Proof.Machine.execStosv b s
  | .lodsb b => Sys2Proof.Machine.execLodsb b s
  | .lodsv b => Sys2Proof.Machine.execLodsv b s
  | .scasb b => Sys2Proof.Machine.execScasb b s
  | .scasv b => Sys2Proof.Machine.execScasv b s
  | .movZbIb b r imm => Sys2Proof.Machine.execMovZbIb b r imm s
  | .movZvIz b r imm => Sys2Proof.Machine.execMovZvIz b r imm s
  | .rolEbIb b e imm => Sys2Proof.Machine.execRolEbIb b e imm s
  | .rorEbIb b e imm => Sys2Proof.Machine.execRorEbIb b e imm s
  | .rclEbIb b e imm => Sys2Proof.Machine.execRclEbIb b e imm s
  | .rcrEbIb b e imm => Sys2Proof.Machine.execRcrEbIb b e imm s
  | .shlEbIb b e imm => Sys2Proof.Machine.execShlEbIb b e imm s
  | .shrEbIb b e imm => Sys2Proof.Machine.execShrEbIb b e imm s
  | .sarEbIb b e imm => Sys2Proof.Machine.execSarEbIb b e imm s
  | .rolEvIb b e imm => Sys2Proof.Machine.execRolEvIb b e imm s
  | .rorEvIb b e imm => Sys2Proof.Machine.execRorEvIb b e imm s
  | .rclEvIb b e imm => Sys2Proof.Machine.execRclEvIb b e imm s
  | .rcrEvIb b e imm => Sys2Proof.Machine.execRcrEvIb b e imm s
  | .shlEvIb b e imm => Sys2Proof.Machine.execShlEvIb b e imm s
  | .shrEvIb b e imm => Sys2Proof.Machine.execShrEvIb b e imm s
  | .sarEvIb b e imm => Sys2Proof.Machine.execSarEvIb b e imm s
  | .rolEb1 b e => Sys2Proof.Machine.execRolEb1 b e s
  | .rorEb1 b e => Sys2Proof.Machine.execRorEb1 b e s
  | .rclEb1 b e => Sys2Proof.Machine.execRclEb1 b e s
  | .rcrEb1 b e => Sys2Proof.Machine.execRcrEb1 b e s
  | .shlEb1 b e => Sys2Proof.Machine.execShlEb1 b e s
  | .shrEb1 b e => Sys2Proof.Machine.execShrEb1 b e s
  | .sarEb1 b e => Sys2Proof.Machine.execSarEb1 b e s
  | .rolEv1 b e => Sys2Proof.Machine.execRolEv1 b e s
  | .rorEv1 b e => Sys2Proof.Machine.execRorEv1 b e s
  | .rclEv1 b e => Sys2Proof.Machine.execRclEv1 b e s
  | .rcrEv1 b e => Sys2Proof.Machine.execRcrEv1 b e s
  | .shlEv1 b e => Sys2Proof.Machine.execShlEv1 b e s
  | .shrEv1 b e => Sys2Proof.Machine.execShrEv1 b e s
  | .sarEv1 b e => Sys2Proof.Machine.execSarEv1 b e s
  | .rolEbCl b e => Sys2Proof.Machine.execRolEbCl b e s
  | .rorEbCl b e => Sys2Proof.Machine.execRorEbCl b e s
  | .rclEbCl b e => Sys2Proof.Machine.execRclEbCl b e s
  | .rcrEbCl b e => Sys2Proof.Machine.execRcrEbCl b e s
  | .shlEbCl b e => Sys2Proof.Machine.execShlEbCl b e s
  | .shrEbCl b e => Sys2Proof.Machine.execShrEbCl b e s
  | .sarEbCl b e => Sys2Proof.Machine.execSarEbCl b e s
  | .rolEvCl b e => Sys2Proof.Machine.execRolEvCl b e s
  | .rorEvCl b e => Sys2Proof.Machine.execRorEvCl b e s
  | .rclEvCl b e => Sys2Proof.Machine.execRclEvCl b e s
  | .rcrEvCl b e => Sys2Proof.Machine.execRcrEvCl b e s
  | .shlEvCl b e => Sys2Proof.Machine.execShlEvCl b e s
  | .shrEvCl b e => Sys2Proof.Machine.execShrEvCl b e s
  | .sarEvCl b e => Sys2Proof.Machine.execSarEvCl b e s
  | .retIw b imm => Sys2Proof.Machine.execRetIw b imm s
  | .ret b => Sys2Proof.Machine.execRet b s
  | .lesGvMp b g m => Sys2Proof.Machine.execLesGvMp b g m s
  | .ldsGvMp b g m => Sys2Proof.Machine.execLdsGvMp b g m s
  | .movEbIb b e imm => Sys2Proof.Machine.execMovEbIb b e imm s
  | .movEvIz b e imm => Sys2Proof.Machine.execMovEvIz b e imm s
  | .enterIwIb b size level => Sys2Proof.Machine.execEnterIwIb b size level s
  | .leave b => Sys2Proof.Machine.execLeave b s
  | .retfIw b imm => Sys2Proof.Machine.execRetfIw b imm s
  | .retf b => Sys2Proof.Machine.execRetf b s
  | .int3 b => Sys2Proof.Machine.execInt3 b s
  | .intIb b imm => Sys2Proof.Machine.execIntIb b imm s
  | .into b => Sys2Proof.Machine.execInto b s
  | .iret b => Sys2Proof.Machine.execIret b s
  | .aamIb b imm => Sys2Proof.Machine.execAamIb b imm s
  | .aadIb b imm => Sys2Proof.Machine.execAadIb b imm s
  | .xlat b => Sys2Proof.Machine.execXlat b s
  | .esc b op g e => Sys2Proof.Machine.execEsc b op g e s
  | .loopneJb b disp => Sys2Proof.Machine.execLoopneJb b disp s
  | .loopeJb b disp => Sys2Proof.Machine.execLoopeJb b disp s
  | .loopJb b disp => Sys2Proof.Machine.execLoopJb b disp s
  | .jcxzJb b disp => Sys2Proof.Machine.execJcxzJb b disp s
  | .inAlIb b imm => Sys2Proof.Machine.execInAlIb b imm s
  | .inEaxIb b imm => Sys2Proof.Machine.execInEaxIb b imm s
  | .outIbAl b imm => Sys2Proof.Machine.execOutIbAl b imm s
  | .outIbEax b imm => Sys2Proof.Machine.execOutIbEax b imm s
  | .callJz b disp => Sys2Proof.Machine.execCallJz b disp s
  | .jmpJz b disp => Sys2Proof.Machine.execJmpJz b disp s
  | .jmpAp b off sel => Sys2Proof.Machine.execJmpAp b off sel s
  | .jmpJb b disp => Sys2Proof.Machine.execJmpJb b disp s
  | .inAlDx b => Sys2Proof.Machine.execInAlDx b s
  | .inEaxDx b => Sys2Proof.Machine.execInEaxDx b s
  | .outDxAl b => Sys2Proof.Machine.execOutDxAl b s
  | .outDxEax b => Sys2Proof.Machine.execOutDxEax b s
  | .hlt b => Sys2Proof.Machine.execHlt b s
  | .cmc b => Sys2Proof.Machine.execCmc b s
  | .testEbIb b e imm => Sys2Proof.Machine.execTestEbIb b e imm s
  | .notEb b e => Sys2Proof.Machine.execNotEb b e s
  | .negEb b e => Sys2Proof.Machine.execNegEb b e s
  | .mulEb b e => Sys2Proof.Machine.execMulEb b e s
  | .imulEb b e => Sys2Proof.Machine.execImulEb b e s
  | .divEb b e => Sys2Proof.Machine.execDivEb b e s
  | .idivEb b e => Sys2Proof.Machine.execIdivEb b e s
  | .testEvIz b e imm => Sys2Proof.Machine.execTestEvIz b e imm s
  | .notEv b e => Sys2Proof.Machine.execNotEv b e s
  | .negEv b e => Sys2Proof.Machine.execNegEv b e s
  | .mulEv b e => Sys2Proof.Machine.execMulEv b e s
  | .imulEv b e => Sys2Proof.Machine.execImulEv b e s
  | .divEv b e => Sys2Proof.Machine.execDivEv b e s
  | .idivEv b e => Sys2Proof.Machine.execIdivEv b e s
  | .clc b => Sys2Proof.Machine.execClc b s
  | .stc b => Sys2Proof.Machine.execStc b s
  | .cli b => Sys2Proof.Machine.execCli b s
  | .sti b => Sys2Proof.Machine.execSti b s
  | .cld b => Sys2Proof.Machine.execCld b s
  | .std b => Sys2Proof.Machine.execStd b s
  | .incEb b e => Sys2Proof.Machine.execIncEb b e s
  | .decEb b e => Sys2Proof.Machine.execDecEb b e s
  | .incEv b e => Sys2Proof.Machine.execIncEv b e s
  | .decEv b e => Sys2Proof.Machine.execDecEv b e s
  | .callEv b e => Sys2Proof.Machine.execCallEv b e s
  | .callMp b m => Sys2Proof.Machine.execCallMp b m s
  | .jmpEv b e => Sys2Proof.Machine.execJmpEv b e s
  | .jmpMp b m => Sys2Proof.Machine.execJmpMp b m s
  | .pushEv b e => Sys2Proof.Machine.execPushEv b e s
  | .sldtEw b e => Sys2Proof.Machine.execSldtEw b e s
  | .strEw b e => Sys2Proof.Machine.execStrEw b e s
  | .lldtEw b e => Sys2Proof.Machine.execLldtEw b e s
  | .ltrEw b e => Sys2Proof.Machine.execLtrEw b e s
  | .verrEw b e => Sys2Proof.Machine.execVerrEw b e s
  | .verwEw b e => Sys2Proof.Machine.execVerwEw b e s
  | .sgdtMs b m => Sys2Proof.Machine.execSgdtMs b m s
  | .sidtMs b m => Sys2Proof.Machine.execSidtMs b m s
  | .lgdtMs b m => Sys2Proof.Machine.execLgdtMs b m s
  | .lidtMs b m => Sys2Proof.Machine.execLidtMs b m s
  | .smswEw b e => Sys2Proof.Machine.execSmswEw b e s
  | .lmswEw b e => Sys2Proof.Machine.execLmswEw b e s
  | .invlpgM b m => Sys2Proof.Machine.execInvlpgM b m s
  | .larGvEw b g e => Sys2Proof.Machine.execLarGvEw b g e s
  | .lslGvEw b g e => Sys2Proof.Machine.execLslGvEw b g e s
  | .clts b => Sys2Proof.Machine.execClts b s
  | .invd b => Sys2Proof.Machine.execInvd b s
  | .wbinvd b => Sys2Proof.Machine.execWbinvd b s
  | .ud2 b => Sys2Proof.Machine.execUd2 b s
  | .movRdCd b r c => Sys2Proof.Machine.execMovRdCd b r c s
  | .movRdDd b r d => Sys2Proof.Machine.execMovRdDd b r d s
  | .movCdRd b c r => Sys2Proof.Machine.execMovCdRd b c r s
  | .movDdRd b d r => Sys2Proof.Machine.execMovDdRd b d r s
  | .wrmsr b => Sys2Proof.Machine.execWrmsr b s
  | .rdtsc b => Sys2Proof.Machine.execRdtsc b s
  | .rdmsr b => Sys2Proof.Machine.execRdmsr b s
  | .cmovccGvEv b cc g e => Sys2Proof.Machine.execCmovccGvEv b cc g e s
  | .jccJz b cc disp => Sys2Proof.Machine.execJccJz b cc disp s
  | .setccEb b cc e => Sys2Proof.Machine.execSetccEb b cc e s
  | .pushFs b => Sys2Proof.Machine.execPushFs b s
  | .popFs b => Sys2Proof.Machine.execPopFs b s
  | .cpuid b => Sys2Proof.Machine.execCpuid b s
  | .btEvGv b e g => Sys2Proof.Machine.execBtEvGv b e g s
  | .shldEvGvIb b e g imm => Sys2Proof.Machine.execShldEvGvIb b e g imm s
  | .shldEvGvCl b e g => Sys2Proof.Machine.execShldEvGvCl b e g s
  | .pushGs b => Sys2Proof.Machine.execPushGs b s
  | .popGs b => Sys2Proof.Machine.execPopGs b s
  | .rsm b => Sys2Proof.Machine.execRsm b s
  | .btsEvGv b e g => Sys2Proof.Machine.execBtsEvGv b e g s
  | .shrdEvGvIb b e g imm => Sys2Proof.Machine.execShrdEvGvIb b e g imm s
  | .shrdEvGvCl b e g => Sys2Proof.Machine.execShrdEvGvCl b e g s
  | .imulGvEv b g e => Sys2Proof.Machine.execImulGvEv b g e s
  | .cmpxchgEbGb b e g => Sys2Proof.Machine.execCmpxchgEbGb b e g s
  | .cmpxchgEvGv b e g => Sys2Proof.Machine.execCmpxchgEvGv b e g s
  | .lssGvMp b g m => Sys2Proof.Machine.execLssGvMp b g m s
  | .btrEvGv b e g => Sys2Proof.Machine.execBtrEvGv b e g s
  | .lfsGvMp b g m => Sys2Proof.Machine.execLfsGvMp b g m s
  | .lgsGvMp b g m => Sys2Proof.Machine.execLgsGvMp b g m s
  | .movzxGvEb b g e => Sys2Proof.Machine.execMovzxGvEb b g e s
  | .movzxGvEw b g e => Sys2Proof.Machine.execMovzxGvEw b g e s
  | .btEvIb b e imm => Sys2Proof.Machine.execBtEvIb b e imm s
  | .btsEvIb b e imm => Sys2Proof.Machine.execBtsEvIb b e imm s
  | .btrEvIb b e imm => Sys2Proof.Machine.execBtrEvIb b e imm s
  | .btcEvIb b e imm => Sys2Proof.Machine.execBtcEvIb b e imm s
  | .btcEvGv b e g => Sys2Proof.Machine.execBtcEvGv b e g s
  | .bsfGvEv b g e => Sys2Proof.Machine.execBsfGvEv b g e s
  | .bsrGvEv b g e => Sys2Proof.Machine.execBsrGvEv b g e s
  | .movsxGvEb b g e => Sys2Proof.Machine.execMovsxGvEb b g e s
  | .movsxGvEw b g e => Sys2Proof.Machine.execMovsxGvEw b g e s
  | .xaddEbGb b e g => Sys2Proof.Machine.execXaddEbGb b e g s
  | .xaddEvGv b e g => Sys2Proof.Machine.execXaddEvGv b e g s
  | .cmpxchg8bMq b m => Sys2Proof.Machine.execCmpxchg8bMq b m s
  | .bswapZd b r => Sys2Proof.Machine.execBswapZd b r s

end Sys2Proof.Machine
end

