-- ==== Sys2Proof/Machine/Fetch.lean ====
section
/-! DEFINITION. Instruction fetch (spec/20_memory.md R230), one instruction, and the boundary events of the step
(spec/00_scope.md R19, spec/60_exceptions.md R1350). -/
namespace Sys2Proof.Machine
open Sys2Proof

/-- The linear address of byte k of the instruction at EIP (R230). -/
def State.fetchAddr (s : State) (k : Nat) : Word := s.cs.base + BitVec.ofNat 32 (s.eip.toNat + k)

/-- `FetchByte(k)` (R230). -/
def State.fetchByte (s : State) (k : Nat) : Except Stop Byte :=
  if s.cs.limit.toNat < s.eip.toNat + k then
    if s.pe then .error (.raise (.gp 0#32)) else .error (.refuse .realModeLimit)
  else if s.smcDirty.contains (s.fetchAddr k).toNat then .error (.refuse .smcHazard)
  else do
    let p ← s.phys .fetch (isUser s.cpl) (s.fetchAddr k)
    return s.mem.read p

/-- What decoding reads of the machine besides bytes (R305, R351, R352). -/
def State.decodeMode (s : State) : DecodeMode := ⟨s.cs.db, s.pe, s.cr4.getLsbD 3⟩

/-- A decode stop as an exception or a refusal (R354). -/
def stopOf : DecodeStop Stop → Stop
  | .ud => .raise .ud
  | .tooLong => .raise (.gp 0#32)
  | .prefixConflict => .refuse .prefixConflict
  | .repOnNonString => .refuse .repOnNonString
  | .port e => e

/-- The next instruction fetched, decoded and executed; a fetch or decode fault is delivered like any other (R231). -/
noncomputable def runInstruction (s : State) : Result :=
  match decode s.decodeMode s.fetchByte with
  | .ok i => exec i s
  | .error d => finish s true (.error (stopOf d))

/-- The state after RESET (R1400): every register and hidden bit as State.reset has it; memory, the recorded outputs and
the model's own fields stay (log 20), and no paging signal is added (log 21). -/
def State.resetTo (s : State) : State :=
  { State.reset with
    mem := s.mem, ioWrites := s.ioWrites, pagingSignals := s.pagingSignals, tick := s.tick, inputs := s.inputs }

/-- The input of this step (log 4). -/
def State.input (s : State) : BoundaryInput := s.inputs.headD .quiet

/-- The state a step works on: the input taken, the counter advanced, no classification yet. -/
def State.beginStep (s : State) : State :=
  { s with inputs := s.inputs.tail, tick := s.tick + 1, classOut := none }

/-- Delivery of the pending single-step trap, which stands for a postponed one too: the handler is not stepped (R1340;
log 29). -/
def deliverTrap (s : State) : Result :=
  deliver { s with dr6 := s.dr6 ||| 0x4000#32, pendingTrapDB := false, trapPostponed := false } ⟨1#8, .trap, none⟩ s.eip

/-- Delivery of an NMI (R1322). -/
def deliverNmi (s : State) : Result := deliver { s with nmiBlocked := true } ⟨2#8, .nmi, none⟩ s.eip

/-- Delivery of INTR with its vector (R1321). -/
def deliverIntr (s : State) (v : Byte) : Result := deliver s ⟨v, .intr, none⟩ s.eip

/-- NMI is taken (R1322). -/
def State.takesNmi (s : State) (x : BoundaryInput) : Bool := x.nmi && !s.nmiBlocked && !s.intShadow

/-- The vector of an INTR that is taken (R1321). -/
def State.takesIntr (s : State) (x : BoundaryInput) : Option Byte :=
  if s.flags.ifl && !s.intShadow then x.intr else none

/-- The state the next instruction starts on: the shadow ends (R19, R1341), and a trap postponed by the instruction before
is due at the next boundary, whatever this instruction does (R1340; log 29). -/
def State.beginInstruction (s : State) : State :=
  { s with intShadow := false, pendingTrapDB := s.pendingTrapDB || s.trapPostponed, trapPostponed := false }

/-- The first of the boundary events and the instruction that applies (R19, R1350), s being begun. -/
noncomputable def boundary (s : State) (x : BoundaryInput) : Result :=
  if x.reset then .next s.resetTo
  else if s.shutdown then .next s
  else if s.pendingTrapDB then deliverTrap s
  else if s.takesNmi x then deliverNmi s
  else match s.takesIntr x with
    | some v => deliverIntr s v
    | none =>
      if s.halted then .next s
      else runInstruction s.beginInstruction

/-- The physical address a fetch of byte k reads, where paging lets it (R230). -/
def State.fetchPhys (s : State) (k : Nat) : Nat :=
  match s.phys .fetch (isUser s.cpl) (s.fetchAddr k) with
  | .ok p => p
  | .error _ => (s.fetchAddr k).toNat

/-- Bytes stored where the instruction at EIP is fetched, and no stored byte left unsettled there (R270). -/
def State.placeBytes (s : State) : Nat → List Byte → State
  | _, [] => s
  | k, v :: vs =>
    let t := s.placeBytes (k + 1) vs
    { t with
      mem := t.mem.write (s.beginStep.fetchPhys k) v
      smcDirty := t.smcDirty.filter (fun a => a != (s.fetchAddr k).toNat) }

end Sys2Proof.Machine
end

