-- ==== Sys2Proof/Machine/Step.lean ====
section
/-! DEFINITION. The step of the block (spec/00_scope.md R19), and how the host places an instruction. -/
namespace Sys2Proof.Machine
open Sys2Proof

/-- One step at an instruction boundary (R19). -/
noncomputable def step (s : State) : Host.Outcome State Fault Refusal := boundary s.beginStep s.input

/-- The state with an instruction stored where step fetches the next one (log 19). -/
def State.withFetchWord (s : State) (nbits w : Nat) : State := s.placeBytes 0 (fetchBytes nbits w)

end Sys2Proof.Machine
end

