-- ==== Sys2Proof/Machine/Flow.lean ====
section
/-! DEFINITION. The static classification capability of an instruction (spec/30_encoding.md R362, spec/40_flags.md
R471; log 22): it can alter control flow, whatever its operands hold at run time. -/
namespace Sys2Proof

/-- The capability output of R471: a class other than none is possible, a fault counting where it can come from something
else than an access to a memory or stack operand (a divisor, a selector, a port, a privilege check), or R471 lists the
instruction (log 22). -/
def Instr.canAlterFlow : Instr → Bool
  | .addEbGb _ _ _ => false
  | .addEvGv _ _ _ => false
  | .addGbEb _ _ _ => false
  | .addGvEv _ _ _ => false
  | .addAlIb _ _ => false
  | .addEaxIz _ _ => false
  | .pushEs _ => false
  | .popEs _ => true
  | .orEbGb _ _ _ => false
  | .orEvGv _ _ _ => false
  | .orGbEb _ _ _ => false
  | .orGvEv _ _ _ => false
  | .orAlIb _ _ => false
  | .orEaxIz _ _ => false
  | .pushCs _ => false
  | .adcEbGb _ _ _ => false
  | .adcEvGv _ _ _ => false
  | .adcGbEb _ _ _ => false
  | .adcGvEv _ _ _ => false
  | .adcAlIb _ _ => false
  | .adcEaxIz _ _ => false
  | .pushSs _ => false
  | .popSs _ => true
  | .sbbEbGb _ _ _ => false
  | .sbbEvGv _ _ _ => false
  | .sbbGbEb _ _ _ => false
  | .sbbGvEv _ _ _ => false
  | .sbbAlIb _ _ => false
  | .sbbEaxIz _ _ => false
  | .pushDs _ => false
  | .popDs _ => true
  | .andEbGb _ _ _ => false
  | .andEvGv _ _ _ => false
  | .andGbEb _ _ _ => false
  | .andGvEv _ _ _ => false
  | .andAlIb _ _ => false
  | .andEaxIz _ _ => false
  | .daa _ => false
  | .subEbGb _ _ _ => false
  | .subEvGv _ _ _ => false
  | .subGbEb _ _ _ => false
  | .subGvEv _ _ _ => false
  | .subAlIb _ _ => false
  | .subEaxIz _ _ => false
  | .das _ => false
  | .xorEbGb _ _ _ => false
  | .xorEvGv _ _ _ => false
  | .xorGbEb _ _ _ => false
  | .xorGvEv _ _ _ => false
  | .xorAlIb _ _ => false
  | .xorEaxIz _ _ => false
  | .aaa _ => false
  | .cmpEbGb _ _ _ => false
  | .cmpEvGv _ _ _ => false
  | .cmpGbEb _ _ _ => false
  | .cmpGvEv _ _ _ => false
  | .cmpAlIb _ _ => false
  | .cmpEaxIz _ _ => false
  | .aas _ => false
  | .incZv _ _ => false
  | .decZv _ _ => false
  | .pushZv _ _ => false
  | .popZv _ _ => false
  | .pusha _ => false
  | .popa _ => false
  | .boundGvMa _ _ _ => true
  | .arplEwGw _ _ _ => false
  | .pushIz _ _ => false
  | .imulGvEvIz _ _ _ _ => false
  | .pushIbs _ _ => false
  | .imulGvEvIbs _ _ _ _ => false
  | .insb _ => true
  | .insv _ => true
  | .outsb _ => true
  | .outsv _ => true
  | .jccJb _ _ _ => true
  | .addEbIb _ _ _ => false
  | .orEbIb _ _ _ => false
  | .adcEbIb _ _ _ => false
  | .sbbEbIb _ _ _ => false
  | .andEbIb _ _ _ => false
  | .subEbIb _ _ _ => false
  | .xorEbIb _ _ _ => false
  | .cmpEbIb _ _ _ => false
  | .addEvIz _ _ _ => false
  | .orEvIz _ _ _ => false
  | .adcEvIz _ _ _ => false
  | .sbbEvIz _ _ _ => false
  | .andEvIz _ _ _ => false
  | .subEvIz _ _ _ => false
  | .xorEvIz _ _ _ => false
  | .cmpEvIz _ _ _ => false
  | .addEbIb82 _ _ _ => false
  | .orEbIb82 _ _ _ => false
  | .adcEbIb82 _ _ _ => false
  | .sbbEbIb82 _ _ _ => false
  | .andEbIb82 _ _ _ => false
  | .subEbIb82 _ _ _ => false
  | .xorEbIb82 _ _ _ => false
  | .cmpEbIb82 _ _ _ => false
  | .addEvIbs _ _ _ => false
  | .orEvIbs _ _ _ => false
  | .adcEvIbs _ _ _ => false
  | .sbbEvIbs _ _ _ => false
  | .andEvIbs _ _ _ => false
  | .subEvIbs _ _ _ => false
  | .xorEvIbs _ _ _ => false
  | .cmpEvIbs _ _ _ => false
  | .testEbGb _ _ _ => false
  | .testEvGv _ _ _ => false
  | .xchgEbGb _ _ _ => false
  | .xchgEvGv _ _ _ => false
  | .movEbGb _ _ _ => false
  | .movEvGv _ _ _ => false
  | .movGbEb _ _ _ => false
  | .movGvEv _ _ _ => false
  | .movEwSw _ _ _ => false
  | .leaGvM _ _ _ => false
  | .movSwEw _ _ _ => true
  | .popEv _ _ => false
  | .nop _ => false
  | .xchgEaxR1 _ => false
  | .xchgEaxR2 _ => false
  | .xchgEaxR3 _ => false
  | .xchgEaxR4 _ => false
  | .xchgEaxR5 _ => false
  | .xchgEaxR6 _ => false
  | .xchgEaxR7 _ => false
  | .cbw _ => false
  | .cwd _ => false
  | .callAp _ _ _ => true
  | .wait _ => true
  | .pushf _ => false
  | .popf _ => true
  | .sahf _ => false
  | .lahf _ => false
  | .movAlOb _ _ => false
  | .movEaxOv _ _ => false
  | .movObAl _ _ => false
  | .movOvEax _ _ => false
  | .movsb b => b.rep != .none
  | .movsv b => b.rep != .none
  | .cmpsb b => b.rep != .none
  | .cmpsv b => b.rep != .none
  | .testAlIb _ _ => false
  | .testEaxIz _ _ => false
  | .stosb b => b.rep != .none
  | .stosv b => b.rep != .none
  | .lodsb b => b.rep != .none
  | .lodsv b => b.rep != .none
  | .scasb b => b.rep != .none
  | .scasv b => b.rep != .none
  | .movZbIb _ _ _ => false
  | .movZvIz _ _ _ => false
  | .rolEbIb _ _ _ => false
  | .rorEbIb _ _ _ => false
  | .rclEbIb _ _ _ => false
  | .rcrEbIb _ _ _ => false
  | .shlEbIb _ _ _ => false
  | .shrEbIb _ _ _ => false
  | .sarEbIb _ _ _ => false
  | .rolEvIb _ _ _ => false
  | .rorEvIb _ _ _ => false
  | .rclEvIb _ _ _ => false
  | .rcrEvIb _ _ _ => false
  | .shlEvIb _ _ _ => false
  | .shrEvIb _ _ _ => false
  | .sarEvIb _ _ _ => false
  | .rolEb1 _ _ => false
  | .rorEb1 _ _ => false
  | .rclEb1 _ _ => false
  | .rcrEb1 _ _ => false
  | .shlEb1 _ _ => false
  | .shrEb1 _ _ => false
  | .sarEb1 _ _ => false
  | .rolEv1 _ _ => false
  | .rorEv1 _ _ => false
  | .rclEv1 _ _ => false
  | .rcrEv1 _ _ => false
  | .shlEv1 _ _ => false
  | .shrEv1 _ _ => false
  | .sarEv1 _ _ => false
  | .rolEbCl _ _ => false
  | .rorEbCl _ _ => false
  | .rclEbCl _ _ => false
  | .rcrEbCl _ _ => false
  | .shlEbCl _ _ => false
  | .shrEbCl _ _ => false
  | .sarEbCl _ _ => false
  | .rolEvCl _ _ => false
  | .rorEvCl _ _ => false
  | .rclEvCl _ _ => false
  | .rcrEvCl _ _ => false
  | .shlEvCl _ _ => false
  | .shrEvCl _ _ => false
  | .sarEvCl _ _ => false
  | .retIw _ _ => true
  | .ret _ => true
  | .lesGvMp _ _ _ => true
  | .ldsGvMp _ _ _ => true
  | .movEbIb _ _ _ => false
  | .movEvIz _ _ _ => false
  | .enterIwIb _ _ _ => false
  | .leave _ => false
  | .retfIw _ _ => true
  | .retf _ => true
  | .int3 _ => true
  | .intIb _ _ => true
  | .into _ => true
  | .iret _ => true
  | .aamIb _ _ => true
  | .aadIb _ _ => false
  | .xlat _ => false
  | .esc _ _ _ _ => true
  | .loopneJb _ _ => true
  | .loopeJb _ _ => true
  | .loopJb _ _ => true
  | .jcxzJb _ _ => true
  | .inAlIb _ _ => true
  | .inEaxIb _ _ => true
  | .outIbAl _ _ => true
  | .outIbEax _ _ => true
  | .callJz _ _ => true
  | .jmpJz _ _ => true
  | .jmpAp _ _ _ => true
  | .jmpJb _ _ => true
  | .inAlDx _ => true
  | .inEaxDx _ => true
  | .outDxAl _ => true
  | .outDxEax _ => true
  | .hlt _ => true
  | .cmc _ => false
  | .testEbIb _ _ _ => false
  | .notEb _ _ => false
  | .negEb _ _ => false
  | .mulEb _ _ => false
  | .imulEb _ _ => false
  | .divEb _ _ => true
  | .idivEb _ _ => true
  | .testEvIz _ _ _ => false
  | .notEv _ _ => false
  | .negEv _ _ => false
  | .mulEv _ _ => false
  | .imulEv _ _ => false
  | .divEv _ _ => true
  | .idivEv _ _ => true
  | .clc _ => false
  | .stc _ => false
  | .cli _ => true
  | .sti _ => true
  | .cld _ => false
  | .std _ => false
  | .incEb _ _ => false
  | .decEb _ _ => false
  | .incEv _ _ => false
  | .decEv _ _ => false
  | .callEv _ _ => true
  | .callMp _ _ => true
  | .jmpEv _ _ => true
  | .jmpMp _ _ => true
  | .pushEv _ _ => false
  | .sldtEw _ _ => false
  | .strEw _ _ => false
  | .lldtEw _ _ => true
  | .ltrEw _ _ => true
  | .verrEw _ _ => false
  | .verwEw _ _ => false
  | .sgdtMs _ _ => false
  | .sidtMs _ _ => false
  | .lgdtMs _ _ => true
  | .lidtMs _ _ => true
  | .smswEw _ _ => false
  | .lmswEw _ _ => true
  | .invlpgM _ _ => true
  | .larGvEw _ _ _ => false
  | .lslGvEw _ _ _ => false
  | .clts _ => true
  | .invd _ => true
  | .wbinvd _ => true
  | .ud2 _ => true
  | .movRdCd _ _ _ => true
  | .movRdDd _ _ _ => true
  | .movCdRd _ _ _ => true
  | .movDdRd _ _ _ => true
  | .wrmsr _ => true
  | .rdtsc _ => true
  | .rdmsr _ => true
  | .cmovccGvEv _ _ _ _ => false
  | .jccJz _ _ _ => true
  | .setccEb _ _ _ => false
  | .pushFs _ => false
  | .popFs _ => true
  | .cpuid _ => false
  | .btEvGv _ _ _ => false
  | .shldEvGvIb _ _ _ _ => false
  | .shldEvGvCl _ _ _ => false
  | .pushGs _ => false
  | .popGs _ => true
  | .rsm _ => true
  | .btsEvGv _ _ _ => false
  | .shrdEvGvIb _ _ _ _ => false
  | .shrdEvGvCl _ _ _ => false
  | .imulGvEv _ _ _ => false
  | .cmpxchgEbGb _ _ _ => false
  | .cmpxchgEvGv _ _ _ => false
  | .lssGvMp _ _ _ => true
  | .btrEvGv _ _ _ => false
  | .lfsGvMp _ _ _ => true
  | .lgsGvMp _ _ _ => true
  | .movzxGvEb _ _ _ => false
  | .movzxGvEw _ _ _ => false
  | .btEvIb _ _ _ => false
  | .btsEvIb _ _ _ => false
  | .btrEvIb _ _ _ => false
  | .btcEvIb _ _ _ => false
  | .btcEvGv _ _ _ => false
  | .bsfGvEv _ _ _ => false
  | .bsrGvEv _ _ _ => false
  | .movsxGvEb _ _ _ => false
  | .movsxGvEw _ _ _ => false
  | .xaddEbGb _ _ _ => false
  | .xaddEvGv _ _ _ => false
  | .cmpxchg8bMq _ _ => false
  | .bswapZd _ _ => false

end Sys2Proof
end

