-- ==== Sys2Proof/Safety.lean ====
section
/-! DEFINITION. The invariants of the machine that claims are stated with. -/
namespace Sys2Proof.Machine
open Sys2Proof

/-- A list of addresses rises and stays below 2^32. -/
def rising : Nat → List Nat → Bool
  | _, [] => true
  | lo, a :: t => decide (lo ≤ a) && decide (a < 2 ^ 32) && rising (a + 1) t

/-- Memory and the set of stored addresses are in their canonical forms. -/
def State.canonical (s : State) : Bool := s.mem.wf && rising 0 s.smcDirty

/-- The mode is a legal one: CPL 0 in real mode (spec/10_state.md R160), VM never set (R134), paging only with
protection (R140), NW only with CD, ET 1, no reserved bit of CR0 (R140, R145) or CR4 (R143). -/
def State.legalMode (s : State) : Bool :=
  (s.pe || s.cpl == 0#2) && !s.flags.vm && (!s.pg || s.pe) && (!s.cr0.getLsbD 29 || s.cr0.getLsbD 30)
    && s.cr0 &&& 0x1FFAFFD0#32 == 0x10#32 && s.cr4 &&& 0xFFFFFE03#32 == 0#32

/-- The fixed bits of DR6 and DR7 read as R170 and R1132 say, and no breakpoint is enabled. -/
def State.debugFixed (s : State) : Bool :=
  s.dr6 &&& 0xFFFF1FF0#32 == 0xFFFF0FF0#32 && s.dr7 &&& 0x0000FCFF#32 == 0x400#32

/-- CS is a code segment and SS a writable data segment, neither of them null (R222, R251, R252). -/
def State.segmentsShaped (s : State) : Bool :=
  s.cs.valid && s.cs.type.getLsbD 3 && s.ss.valid && !s.ss.type.getLsbD 3 && s.ss.type.getLsbD 1

/-- No event is half delivered (R1310), and TR holds a busy TSS (R151, R1125). -/
def State.settled (s : State) : Bool := s.delivering == none && (s.tr.type == 0x3#4 || s.tr.type == 0xB#4)

end Sys2Proof.Machine
end

