-- ==== Sys2Proof/Certificates/Slice0/Obligations.lean ====
section
/-! DEFINITION. The statements for the provers, after the few words they are written in. -/
namespace Sys2Proof.Claims
open Sys2Proof Sys2Proof.Machine

/-! ## Words of the statements -/

/-- What an instruction of class none that changed s into u leaves: EIP after its bytes (R111), RF cleared and the
single-step trap due when TF was set (R19, R1340), the class output (R470). -/
def done (b : Bound) (s u : State) : State :=
  { u with
    eip := s.eip + BitVec.ofNat 32 b.len
    flags := { u.flags with rf := false }
    pendingTrapDB := u.pendingTrapDB || s.flags.tf
    classOut := some .none }

/-- The same with the single-step trap postponed: MOV SS and POP SS (R1340). -/
def doneShadowed (b : Bound) (s u : State) : State :=
  { done b s u with pendingTrapDB := u.pendingTrapDB, trapPostponed := s.flags.tf }

/-- What an instruction of another class leaves; the classes of R270 settle the stored bytes. -/
def doneAs (c : FlowClass) (s u : State) : State :=
  { u with
    flags := { u.flags with rf := false }
    pendingTrapDB := u.pendingTrapDB || s.flags.tf
    classOut := some c
    smcDirty := if c = .notTaken then u.smcDirty else [] }

/-- EIP after the instruction (R111). -/
def nextEip (b : Bound) (s : State) : Word := s.eip + BitVec.ofNat 32 b.len

/-- An instruction that reads and rewrites one operand (R326, R224): whenever the operand can be read for writing, it
can be written, and the instruction completes with the new value and flags. -/
def Rewrites (i : Instr) (b : Bound) (s : State) (w : Width) (l : Loc) (g : BitVec w.bits → BitVec w.bits × Flags) :
    Prop :=
  ∀ a, s.readDst w l = .ok a → ∃ t, s.writeLoc w l (g a).1 = .ok t ∧ exec i s = .next (done b s (t.setFlags (g a).2))

/-- An instruction of R500 or R604 with its destination and its source value. -/
def AluRuns (op : Alu) (i : Instr) (b : Bound) (s : State) (w : Width) (l : Loc) (x : BitVec w.bits) : Prop :=
  if op = .cmp ∨ op = .test then
    ∀ a, s.readLoc w l = .ok a → exec i s = .next (done b s (s.setFlags (op.eval s.flags a x).2))
  else Rewrites i b s w l (fun a => op.eval s.flags a x)

/-- The stack offset at a distance d from the stack pointer, at the width of SS.db (R840, R841). -/
def stackAt (s : State) (d : Word) : Word :=
  if s.ss.db then s.gpr.esp + d else ((s.gpr.esp.setWidth 16 : Half) + d.setWidth 16).setWidth 32

/-- A stack distance of k slots of a size. -/
def slots (z : Size) (k : Nat) : Word := BitVec.ofNat 32 (k * z.bytes)

/-- An instruction that pushes one value (R840): it completes whenever the store below the stack pointer can be made. -/
def Pushes (i : Instr) (b : Bound) (s : State) (z : Size) (v : Word) : Prop :=
  ∀ t, s.segWrite .ss (stackAt s (0#32 - slots z 1)) z.bytes v.toNat = .ok t →
    exec i s = .next (done b s (t.setSp (stackAt s (0#32 - slots z 1))))

/-- The value in a slot k slots above the stack pointer is v (R841). -/
def StackHolds (s : State) (z : Size) (k : Nat) (v : Word) : Prop :=
  s.segRead .ss (stackAt s (slots z k)) z.bytes = .ok v.toNat ∧ v.toNat < 2 ^ (8 * z.bytes)

/-- The stack pointer moved up by a distance (R841). -/
def popped (s : State) (d : Word) : State := s.setSp (stackAt s d)

/-- A near-branch target at operand size (R900). -/
def target (z : Size) (t : Word) : Word := if z = .s16 then (t.setWidth 16 : Half).setWidth 32 else t

/-- A selector names a descriptor, and this one (R240). -/
def Names (s : State) (sel : Half) (addr : Word) (d : Desc) : Prop :=
  isNull sel = false ∧ s.descAddr sel = some addr ∧ s.readDesc addr = .ok d

/-- The checks of a code descriptor by a direct far JMP or CALL pass (R930). -/
def FarCodeOk (s : State) (sel : Half) (d : Desc) : Prop :=
  d.s = true ∧ d.type.getLsbD 3 = true ∧ d.p = true ∧
    (if d.type.getLsbD 2 = true then d.dpl ≤ s.cpl else rpl sel ≤ s.cpl ∧ d.dpl = s.cpl)

/-- The checks of a call gate and of its target's descriptor pass (R940). -/
def GateOk (s : State) (sel : Half) (g t : Desc) (addr : Word) : Prop :=
  g.s = false ∧ (g.type = 0x4#4 ∨ g.type = 0xC#4) ∧ s.cpl ≤ g.dpl ∧ rpl sel ≤ g.dpl ∧ g.p = true ∧
    Names s g.gateSelector addr t ∧ t.s = true ∧ t.type.getLsbD 3 = true ∧ t.dpl ≤ s.cpl ∧ t.p = true ∧
    g.gateOffset ≤ t.limit

/-- The checks of a returning CS selector pass (R950). -/
def ReturnOk (s : State) (sel : Half) (addr : Word) (d : Desc) : Prop :=
  Names s sel addr d ∧ d.s = true ∧ d.type.getLsbD 3 = true ∧ s.cpl ≤ rpl sel ∧ d.p = true ∧
    (if d.type.getLsbD 2 = true then d.dpl ≤ rpl sel else d.dpl = rpl sel)

/-- The checks of a stack selector for privilege level n pass (R942, R950, R1315). -/
def StackOk (s : State) (sel : Half) (n : BitVec 2) (addr : Word) (d : Desc) : Prop :=
  Names s sel addr d ∧ rpl sel = n ∧ d.dpl = n ∧ d.s = true ∧ d.type.getLsbD 3 = false ∧ d.type.getLsbD 1 = true ∧
    d.p = true

/-- CS as a transfer loads it (R929). -/
def loadedCS (sel : Half) (d : Desc) (n : BitVec 2) : SegCache := .ofDesc ((sel &&& 0xFFFC#16) ||| n.setWidth 16) d

/-- Real-mode entry to a handler (R1312): the vector read from the table, three 16-bit pushes, IF, TF, AC and RF
cleared, and NT by R130 (log 28). -/
def RealEntry (s : State) (e : Event) (eip : Word) (u : State) : Prop :=
  s.pe = false ∧ 4 * e.vector.toNat + 3 ≤ s.idtr.limit.toNat ∧ ∃ ip cs t,
    s.memRead .read false (s.idtr.base + e.vector.setWidth 32 * 4#32) 2 = .ok ip ∧
    s.memRead .read false (s.idtr.base + e.vector.setWidth 32 * 4#32 + 2#32) 2 = .ok cs ∧
    ({ s with halted := false, smcDirty := [], delivering := some e.cls } : State).pushAll .s16
      [s.flags.image, s.cs.selector.setWidth 32, eip] = .ok t ∧
    u = { t with
      cs := { s.cs with
        selector := BitVec.ofNat 16 cs, base := ((BitVec.ofNat 16 cs).setWidth 32 : Word) <<< 4, valid := true }
      eip := BitVec.ofNat 32 ip
      flags := { s.flags with ifl := false, tf := false, nt := false, ac := false, rf := false }
      delivering := none }

/-- The gate of an event and the code segment it names pass their checks (R1313, R1314). -/
def VectorOk (s : State) (e : Event) (g t : Desc) (addr : Word) : Prop :=
  8 * e.vector.toNat + 7 ≤ s.idtr.limit.toNat ∧ s.readDesc (s.idtr.base + e.vector.setWidth 32 * 8#32) = .ok g ∧
    g.s = false ∧ (g.type = 0x6#4 ∨ g.type = 0x7#4 ∨ g.type = 0xE#4 ∨ g.type = 0xF#4) ∧
    (e.kind = .soft → s.cpl ≤ g.dpl) ∧ g.p = true ∧ Names s g.gateSelector addr t ∧ t.s = true ∧
    t.type.getLsbD 3 = true ∧ t.dpl ≤ s.cpl ∧ t.p = true ∧ g.gateOffset ≤ t.limit

/-- The flags in a protected-mode handler (R1317): an interrupt gate clears IF, a trap gate leaves it. -/
def handlerFlags (f : Flags) (g : Desc) : Flags :=
  { f with
    tf := false, nt := false, rf := false, vm := false
    ifl := if g.type = 0x6#4 ∨ g.type = 0xE#4 then false else f.ifl }

/-- Protected-mode entry to a handler at the same level (R1316). -/
def SameEntry (s : State) (e : Event) (eip : Word) (u : State) : Prop :=
  s.pe = true ∧ ∃ g t addr s1 s2, VectorOk s e g t addr ∧ (t.type.getLsbD 2 = true ∨ t.dpl = s.cpl) ∧
    ({ s with halted := false, smcDirty := [], delivering := some e.cls } : State).pushAll g.gateSize
      ([s.flags.image, slot g.gateSize s.drawHalf2 s.cs.selector, eip] ++ e.err.toList) = .ok s1 ∧
    s1.setAccessed addr t = .ok s2 ∧
    u = { s2 with
      cs := loadedCS g.gateSelector t s.cpl, eip := g.gateOffset, flags := handlerFlags s.flags g, delivering := none }

/-- Protected-mode entry to a handler at a more privileged level, on the stack the TSS names (R1315). -/
def InnerEntry (s : State) (e : Event) (eip : Word) (u : State) : Prop :=
  s.pe = true ∧ ∃ g t addr ss1 esp1 saddr d s1 s2 s3, VectorOk s e g t addr ∧ t.type.getLsbD 2 = false ∧
    t.dpl < s.cpl ∧ s.stackFromTSS t.dpl e.ext = .ok (ss1, esp1) ∧ StackOk s ss1 t.dpl saddr d ∧
    ({ s with halted := false, smcDirty := [], delivering := some e.cls } : State).setAccessed saddr d = .ok s1 ∧
    (({ s1 with ss := .ofDesc ss1 d, cpl := t.dpl } : State).setSp esp1).pushAll g.gateSize
      ([slot g.gateSize s.drawHalf s.ss.selector, s.gpr.esp, s.flags.image, slot g.gateSize s.drawHalf2 s.cs.selector, eip]
        ++ e.err.toList)
      = .ok s2 ∧
    s2.setAccessed addr t = .ok s3 ∧
    u = { s3 with
      cs := loadedCS g.gateSelector t t.dpl, cpl := t.dpl, eip := g.gateOffset, flags := handlerFlags s.flags g
      delivering := none }

/-- The handler of an event is entered, leaving u. -/
def Enters (s : State) (e : Event) (eip : Word) (u : State) : Prop :=
  RealEntry s e eip u ∨ SameEntry s e eip u ∨ InnerEntry s e eip u

/-- The steps of a string instruction, u being what its element makes of s (R1002). -/
def StringRuns (i : Instr) (b : Bound) (s u : State) (stop : Bool) : Prop :=
  let c := s.count b - 1#32
  let v := u.setAddrReg b 1#3 c
  (b.rep = .none → exec i s = .next (done b s u)) ∧
  (b.rep ≠ .none → s.count b ≠ 0#32 → exec i s = .next (if c = 0#32 ∨ stop = true
    then doneAs .notTaken s { v with eip := nextEip b s } else doneAs .taken s v))

/-- The string pointers after one element (R1001). -/
def stepped (b : Bound) (w : Width) (s : State) (r : BitVec 3) (p : Word) : State :=
  s.setAddrReg b r (if s.flags.df then p - BitVec.ofNat 32 w.bytes else p + BitVec.ofNat 32 w.bytes)

/-- An offset register at address size, zero-extended (R1000). -/
def indexOf (b : Bound) (v : Word) : Word := if b.asz = .s16 then (v.setWidth 16 : Half).setWidth 32 else v

/-- The I/O permission check passes (R1030). -/
def PortAllowed (s : State) (p : Half) (n : Nat) : Prop :=
  p.toNat + n - 1 ≤ 0xFFFF ∧ (s.pe = false ∨ s.cpl ≤ s.flags.iopl ∨
    ((s.tr.type = 0x9#4 ∨ s.tr.type = 0xB#4) ∧ 0x67 ≤ s.tr.limit.toNat ∧ ∃ mb bits,
      s.memRead .read false (s.tr.base + 0x66#32) 2 = .ok mb ∧ mb + p.toNat / 8 + 1 ≤ s.tr.limit.toNat ∧
      s.memRead .read false (s.tr.base + BitVec.ofNat 32 (mb + p.toNat / 8)) 2 = .ok bits ∧
      ∀ k < n, bits.testBit (p.toNat % 8 + k) = false))

/-- The descriptor may be inspected (R1141 to R1144). -/
def Visible (s : State) (sel : Half) (d : Desc) : Prop := s.cpl ≤ d.dpl ∧ rpl sel ≤ d.dpl

end Sys2Proof.Claims

section
open Sys2Proof Sys2Proof.Machine Sys2Proof.Claims

/-- Decoding an encoded well-formed instruction gives it back, whatever bytes follow (R300, R301, R305, R310, R320,
R322, R323, R330, R340, R341, R342, R360). -/
def Obligations.DecodeEncode : Prop :=
  ∀ (m : DecodeMode) (i : Instr) (rest : List Byte), i.wf m = true → decodeBytes m (encode m i ++ rest) = .ok i

/-- What the decoder gives is well-formed, at most 15 bytes long, and depends on exactly those bytes (R230, R300,
R302, R303, R304, R307, R360). -/
def Obligations.DecodeSound : Prop :=
  ∀ (ε : Type) (m : DecodeMode) (p : Port ε) (i : Instr), decode m p = .ok i →
    i.wf m = true ∧ 1 ≤ i.bound.len ∧ i.bound.len ≤ 15 ∧ (∀ k < i.bound.len, ∃ v, p k = .ok v) ∧
      ∀ q : Port ε, (∀ k < i.bound.len, q k = p k) → decode m q = .ok i

/-- Words written out from the encodings of the spec decode to their instructions (R310, R320, R322, R323, R330, R340,
R342, R501, R822, R920). -/
def Obligations.DecodeWords : Prop :=
  decodeBytes ⟨true, true, false⟩ [0x83, 0xC0, 0x01] = .ok (.addEvIbs ⟨.s32, .s32, none, .none, false, 3⟩ (.reg 0) 1) ∧
  decodeBytes ⟨true, true, false⟩ [0x66, 0x83, 0xE8, 0x01]
    = .ok (.subEvIbs ⟨.s16, .s32, none, .none, false, 4⟩ (.reg 0) 1) ∧
  decodeBytes ⟨true, true, false⟩ [0xF3, 0xA4] = .ok (.movsb ⟨.s32, .s32, none, .rep, false, 2⟩) ∧
  decodeBytes ⟨true, true, false⟩ [0x8D, 0x44, 0x8B, 0x08]
    = .ok (.leaGvM ⟨.s32, .s32, none, .none, false, 4⟩ 0 (.sib 2 1 3 (.d8 8))) ∧
  decodeBytes ⟨true, true, false⟩ [0x0F, 0xB1, 0x0E]
    = .ok (.cmpxchgEvGv ⟨.s32, .s32, none, .none, false, 3⟩ (.mem (.a32 6 .none)) 1) ∧
  decodeBytes ⟨true, true, false⟩ [0xF0, 0x01, 0x03]
    = .ok (.addEvGv ⟨.s32, .s32, none, .none, true, 3⟩ (.mem (.a32 3 .none)) 0) ∧
  decodeBytes ⟨true, true, false⟩ [0x0F, 0x22, 0xC0] = .ok (.movCdRd ⟨.s32, .s32, none, .none, false, 3⟩ .cr0 0) ∧
  decodeBytes ⟨false, false, false⟩ [0xEA, 0x00, 0x7C, 0x00, 0x00]
    = .ok (.jmpAp ⟨.s16, .s16, none, .none, false, 5⟩ 0x7C00 0) ∧
  decodeBytes ⟨false, false, false⟩ [0x2E, 0x8B, 0x47, 0x08]
    = .ok (.movGvEv ⟨.s16, .s16, some .cs, .none, false, 4⟩ 0 (.mem (.a16 7 (.d8 8))))

/-- Encodings that are no instruction: unlisted opcodes, illegal forms and missing registers raise #UD, a sixteenth
byte #GP(0) (R307, R350, R351, R352, R354). The groups of R350, R351 and R352 are said of encodings without prefixes,
the length limit of fifteen size prefixes. That a real-mode form of R352 is refused already in decoding is log 8. -/
def Obligations.IllegalEncodings : Prop :=
  ((∀ (m : DecodeMode) (p : Port Stop), ∀ b ∈ ([0xD6, 0xF1] : List Byte), p 0 = .ok b → decode m p = .error .ud) ∧
   (∀ (m : DecodeMode) (p : Port Stop), ∀ b ∈ ([
       0x04, 0x05, 0x07, 0x0A, 0x0C, 0x0D, 0x0E, 0x0F, 0x10, 0x11, 0x12, 0x13, 0x14, 0x15, 0x16, 0x17, 0x18, 0x19,
       0x1A, 0x1B, 0x1C, 0x1D, 0x1E, 0x1F, 0x24, 0x25, 0x26, 0x27, 0x28, 0x29, 0x2A, 0x2B, 0x2C, 0x2D, 0x2E, 0x2F,
       0x33, 0x34, 0x35, 0x36, 0x37, 0x38, 0x39, 0x3A, 0x3B, 0x3C, 0x3D, 0x3E, 0x3F, 0x50, 0x51, 0x52, 0x53, 0x54,
       0x55, 0x56, 0x57, 0x58, 0x59, 0x5A, 0x5B, 0x5C, 0x5D, 0x5E, 0x5F, 0x60, 0x61, 0x62, 0x63, 0x64, 0x65, 0x66,
       0x67, 0x68, 0x69, 0x6A, 0x6B, 0x6C, 0x6D, 0x6E, 0x6F, 0x70, 0x71, 0x72, 0x73, 0x74, 0x75, 0x76, 0x77, 0x78,
       0x79, 0x7A, 0x7B, 0x7C, 0x7D, 0x7E, 0x7F, 0xA6, 0xA7, 0xAE, 0xB8, 0xB9, 0xC2, 0xC3, 0xC4, 0xC5, 0xC6, 0xD0,
       0xD1, 0xD2, 0xD3, 0xD4, 0xD5, 0xD6, 0xD7, 0xD8, 0xD9, 0xDA, 0xDB, 0xDC, 0xDD, 0xDE, 0xDF, 0xE0, 0xE1, 0xE2,
       0xE3, 0xE4, 0xE5, 0xE6, 0xE7, 0xE8, 0xE9, 0xEA, 0xEB, 0xEC, 0xED, 0xEE, 0xEF, 0xF0, 0xF1, 0xF2, 0xF3, 0xF4,
       0xF5, 0xF6, 0xF7, 0xF8, 0xF9, 0xFA, 0xFB, 0xFC, 0xFD, 0xFE, 0xFF] : List (Byte)),
     p 0 = .ok 0x0F → p 1 = .ok b → decode m p = .error .ud) ∧
   (∀ (m : DecodeMode) (p : Port Stop) (mb : Byte), ∀ x ∈ ([(0xC0, [6]), (0xC1, [6]), (0xD0, [6]), (0xD1, [6]), (0xD2, [6]),
       (0xD3, [6]), (0xF6, [1]), (0xF7, [1]), (0xFE, [2, 3, 4, 5, 6, 7]), (0xFF, [7]), (0xC6, [1, 2, 3, 4, 5, 6, 7]),
       (0xC7, [1, 2, 3, 4, 5, 6, 7]), (0x8F, [1, 2, 3, 4, 5, 6, 7])] : List (Byte × List (BitVec 3))),
     p 0 = .ok x.1 → p 1 = .ok mb → mb.extractLsb' 3 3 ∈ x.2 → decode m p = .error .ud) ∧
   (∀ (m : DecodeMode) (p : Port Stop) (mb : Byte), ∀ x ∈ ([(0x00, [6, 7]), (0x01, [5]), (0xBA, [0, 1, 2, 3]),
       (0xC7, [0, 2, 3, 4, 5, 6, 7])] : List (Byte × List (BitVec 3))),
     p 0 = .ok 0x0F → p 1 = .ok x.1 → p 2 = .ok mb → mb.extractLsb' 3 3 ∈ x.2 → decode m p = .error .ud) ∧
   (∀ s : State, decode s.decodeMode s.fetchByte = .error .ud → runInstruction s = deliverFault s .ud)) ∧
  ((∀ (m : DecodeMode) (p : Port Stop) (mb : Byte), mb.extractLsb' 6 2 = 3#2 →
     (∀ b ∈ ([0x8D, 0xC4, 0xC5, 0x62] : List Byte), p 0 = .ok b → p 1 = .ok mb → decode m p = .error .ud) ∧
     (p 0 = .ok 0xFF → p 1 = .ok mb → mb.extractLsb' 3 3 ∈ ([3, 5] : List (BitVec 3)) → decode m p = .error .ud) ∧
     (p 0 = .ok 0x0F →
       (∀ b ∈ ([0xB2, 0xB4, 0xB5] : List Byte), p 1 = .ok b → p 2 = .ok mb → decode m p = .error .ud) ∧
       (p 1 = .ok 0x01 → p 2 = .ok mb → mb.extractLsb' 3 3 ∈ ([0, 1, 2, 3, 7] : List (BitVec 3)) → decode m p = .error .ud) ∧
       (p 1 = .ok 0xC7 → p 2 = .ok mb → mb.extractLsb' 3 3 = 1#3 → decode m p = .error .ud))) ∧
   (∀ (m : DecodeMode) (p : Port Stop) (mb : Byte),
     (p 0 = .ok 0x8E → p 1 = .ok mb → mb.extractLsb' 3 3 ∈ ([1, 6, 7] : List (BitVec 3)) → decode m p = .error .ud) ∧
     (p 0 = .ok 0x8C → p 1 = .ok mb → mb.extractLsb' 3 3 ∈ ([6, 7] : List (BitVec 3)) → decode m p = .error .ud) ∧
     (p 0 = .ok 0x0F → p 2 = .ok mb →
       (∀ b ∈ ([0x20, 0x22] : List Byte), p 1 = .ok b → mb.extractLsb' 3 3 ∈ ([1, 5, 6, 7] : List (BitVec 3)) →
         decode m p = .error .ud) ∧
       (∀ b ∈ ([0x21, 0x23] : List Byte), p 1 = .ok b → m.de = true → mb.extractLsb' 3 3 ∈ ([4, 5] : List (BitVec 3)) →
         decode m p = .error .ud))) ∧
   (∀ (m : DecodeMode) (p : Port Stop) (mb : Byte), m.pe = false →
     (p 0 = .ok 0x63 → decode m p = .error .ud) ∧
     (p 0 = .ok 0x0F → p 1 = .ok 0x00 → p 2 = .ok mb → decode m p = .error .ud) ∧
     (∀ b ∈ ([0x02, 0x03] : List Byte), p 0 = .ok 0x0F → p 1 = .ok b → decode m p = .error .ud))) ∧
  ((∀ s : State, (∀ k < 15, s.fetchByte k = .ok 0x66 ∨ s.fetchByte k = .ok 0x67) →
     runInstruction s = deliverFault s (.gp 0#32)) ∧
   (∀ (m : DecodeMode) (p : Port Stop) (i : Instr), decode m p = .ok i → i.bound.len ≤ 15))

/-- The state after RESET holds the values the spec gives, and the first fetch is at 0xFFFFFFF0 (R19, R113, R124,
R195, R1400, R1401). EDX is the parameter of log 2. What a step with RESET asserted keeps beside memory (the recorded
outputs, the counter, the inputs still to come) is log 20, and one input a step is log 4. That RESET adds no paging
signal is log 21, and that it clears the record of a postponed trap log 29. -/
def Obligations.ResetState : Prop :=
  (∀ r : BitVec 3, State.reset.gpr.get r = if r = 2#3 then Config.resetEdx else 0#32) ∧
  State.reset.eip = 0x0000FFF0#32 ∧ State.reset.flags.image = 0x00000002#32 ∧
  State.reset.cs = ⟨0xF000#16, 0xFFFF0000#32, 0xFFFF#32, 0xB#4, true, 0#2, true, false, false, false, true⟩ ∧
  (∀ r : SegReg, r ≠ .cs →
    State.reset.seg r = ⟨0#16, 0#32, 0xFFFF#32, 0x3#4, true, 0#2, true, false, false, false, true⟩) ∧
  State.reset.cr0 = 0x60000010#32 ∧ State.reset.cr2 = 0#32 ∧ State.reset.cr3 = 0#32 ∧ State.reset.cr4 = 0#32 ∧
  State.reset.gdtr = ⟨0#32, 0xFFFF#16⟩ ∧ State.reset.idtr = ⟨0#32, 0xFFFF#16⟩ ∧
  State.reset.ldtr = ⟨0#16, 0#32, 0xFFFF#32, 0x2#4, true, true⟩ ∧
  State.reset.tr = ⟨0#16, 0#32, 0xFFFF#32, 0x3#4, true, true⟩ ∧
  State.reset.dr0 = 0#32 ∧ State.reset.dr1 = 0#32 ∧ State.reset.dr2 = 0#32 ∧ State.reset.dr3 = 0#32 ∧
  State.reset.dr6 = 0xFFFF0FF0#32 ∧ State.reset.dr7 = 0x00000400#32 ∧ State.reset.tsc = 0#64 ∧ State.reset.cpl = 0#2 ∧
  State.reset.intShadow = false ∧ State.reset.pendingTrapDB = false ∧ State.reset.trapPostponed = false ∧ State.reset.halted = false ∧
  State.reset.shutdown = false ∧ State.reset.nmiBlocked = false ∧ State.reset.delivering = none ∧
  State.reset.smcDirty = [] ∧ State.reset.fetchAddr 0 = 0xFFFFFFF0#32 ∧
  (∀ s : State, s.input.reset = true → step s = .next { State.reset with
    mem := s.mem, ioWrites := s.ioWrites, pagingSignals := s.pagingSignals, tick := s.tick + 1, inputs := s.inputs.tail })

/-- Narrow register views alias their register; a flags-image write sets the masked bits and never the reserved ones
(R102, R103, R104, R132, R431). -/
def Obligations.StorageViews : Prop :=
  (∀ (g : Gpr) (r q : BitVec 3),
     (∀ v : Half, (g.write .w16 r v).get q = if q = r then (g.get r).extractLsb' 16 16 ++ v else g.get q) ∧
     (∀ v : Byte, r.toNat < 4 → (g.write .w8 r v).get q = if q = r then (g.get r).extractLsb' 8 24 ++ v else g.get q) ∧
     (∀ v : Byte, 4 ≤ r.toNat → (g.write .w8 r v).get q =
       if q = r - 4#3 then (g.get q).extractLsb' 16 16 ++ v ++ (g.get q).extractLsb' 0 8 else g.get q) ∧
     (∀ v : Word, (g.write .w32 r v).read .w16 r = v.extractLsb' 0 16 ∧
       (r.toNat < 4 → (g.write .w32 r v).read .w8 r = v.extractLsb' 0 8 ∧
         (g.write .w32 r v).read .w8 (r + 4#3) = v.extractLsb' 8 8))) ∧
  (∀ (f : Flags) (v m : Word) (i : Nat), i < 32 → (f.setImage v m).image.getLsbD i =
     if i = 1 then true
     else if i = 3 ∨ i = 5 ∨ i = 15 ∨ 22 ≤ i then false
     else if m.getLsbD i = true then v.getLsbD i
     else f.image.getLsbD i)

/-- The sixteen conditions read the flags as their table says; SETcc and CMOVcc act by them (R460, R630, R826). -/
def Obligations.Conditions : Prop :=
  (∀ f : Flags,
     f.cond 0 = f.of ∧ f.cond 1 = !f.of ∧ f.cond 2 = f.cf ∧ f.cond 3 = !f.cf ∧ f.cond 4 = f.zf ∧ f.cond 5 = !f.zf ∧
     f.cond 6 = (f.cf || f.zf) ∧ f.cond 7 = (!f.cf && !f.zf) ∧ f.cond 8 = f.sf ∧ f.cond 9 = !f.sf ∧ f.cond 10 = f.pf ∧
     f.cond 11 = !f.pf ∧ f.cond 12 = (f.sf ^^ f.of) ∧ f.cond 13 = !(f.sf ^^ f.of) ∧ f.cond 14 = (f.zf || (f.sf ^^ f.of)) ∧
     f.cond 15 = (!f.zf && !(f.sf ^^ f.of))) ∧
  (∀ (b : Bound) (cc : BitVec 4) (e : Rm) (g : BitVec 3) (s : State),
     (∀ t, s.writeLoc .w8 (s.loc b e) (if s.flags.cond cc then 1 else 0) = .ok t →
       exec (.setccEb b cc e) s = .next (done b s t)) ∧
     (∀ v, s.readLoc b.osz.width (s.loc b e) = .ok v →
       exec (.cmovccGvEv b cc g e) s = .next (done b s (if s.flags.cond cc then s.setReg b.osz.width g v else s))) ∧
     (∀ x, s.readLoc b.osz.width (s.loc b e) = .error (.raise x) → exec (.cmovccGvEv b cc g e) s = deliverFault s x))

/-- Carry is unsigned overflow, overflow is signed overflow and auxiliary carry is the carry out of bit 3, for ADD,
ADC, SUB, SBB, CMP (R403, R410, R411, R412, R413, R414, R501, R502, R503, R504, R505). -/
def Obligations.ArithmeticFlags : Prop :=
  (∀ (w : Width) (f : Flags) (a b : BitVec w.bits),
     (∀ p ∈ ([(.add, false), (.adc, f.cf)] : List (Alu × Bool)),
       let c := p.2.toNat
       let r := (p.1.eval f a b).1
       let t := a.toInt + b.toInt + (c : Int)
       r.toNat = (a.toNat + b.toNat + c) % 2 ^ w.bits ∧
       (p.1.eval f a b).2 = { f with
         cf := decide (2 ^ w.bits ≤ a.toNat + b.toNat + c)
         of := decide (t < -(2 ^ (w.bits - 1) : Int) ∨ (2 ^ (w.bits - 1) : Int) ≤ t)
         af := decide (16 ≤ a.toNat % 16 + b.toNat % 16 + c)
         zf := decide (r.toNat = 0), sf := decide (r.toInt < 0), pf := parity (r.setWidth 8) }) ∧
     (∀ p ∈ ([(.sub, false), (.cmp, false), (.sbb, f.cf)] : List (Alu × Bool)),
       let c := p.2.toNat
       let r := (p.1.eval f a b).1
       let t := a.toInt - b.toInt - (c : Int)
       (r.toNat : Int) = ((a.toNat : Int) - b.toNat - c) % (2 ^ w.bits : Int) ∧
       (p.1.eval f a b).2 = { f with
         cf := decide (a.toNat < b.toNat + c)
         of := decide (t < -(2 ^ (w.bits - 1) : Int) ∨ (2 ^ (w.bits - 1) : Int) ≤ t)
         af := decide (a.toNat % 16 < b.toNat % 16 + c)
         zf := decide (r.toNat = 0), sf := decide (r.toInt < 0), pf := parity (r.setWidth 8) })) ∧
  (∀ b : Byte, parity b = decide (((List.range 8).countP fun i => b.getLsbD i) % 2 = 0))

/-- AND, OR, XOR, TEST clear OF, CF and AF; INC and DEC keep CF; NEG has the flags of 0 minus the operand (R415, R416,
R417). -/
def Obligations.LogicAndStepFlags : Prop :=
  (∀ (w : Width) (f : Flags) (a b : BitVec w.bits), ∀ p ∈ ([(.and, fun x y => x && y), (.test, fun x y => x && y),
       (.or, fun x y => x || y), (.xor, fun x y => x ^^ y)] : List (Alu × (Bool → Bool → Bool))),
     (∀ i < w.bits, (p.1.eval f a b).1.getLsbD i = p.2 (a.getLsbD i) (b.getLsbD i)) ∧
     (p.1.eval f a b).2 = { f with
       of := false, cf := false, af := false
       zf := decide ((p.1.eval f a b).1 = 0#_), sf := (p.1.eval f a b).1.msb
       pf := parity ((p.1.eval f a b).1.setWidth 8) }) ∧
  (∀ (w : Width) (f : Flags) (a : BitVec w.bits),
     f.inc (a + 1#_) = { f.add a 1#_ false with cf := f.cf } ∧ f.dec (a - 1#_) = { f.sub a 1#_ false with cf := f.cf } ∧
     (f.inc (a + 1#_)).of = decide ((a + 1#_).toNat = 2 ^ (w.bits - 1)) ∧
     (f.inc (a + 1#_)).af = decide ((a + 1#_).toNat % 16 = 0) ∧
     (f.dec (a - 1#_)).of = decide ((a - 1#_).toNat = 2 ^ (w.bits - 1) - 1) ∧
     (f.dec (a - 1#_)).af = decide ((a - 1#_).toNat % 16 = 15) ∧
     f.sub 0#_ a false = { f with
       cf := decide (a.toNat ≠ 0), of := decide (a.toNat = 2 ^ (w.bits - 1)), af := decide (a.toNat % 16 ≠ 0)
       zf := decide (a.toNat = 0), sf := (0#_ - a).msb, pf := parity ((0#_ - a).setWidth 8) })

/-- The segment check has the outcome the rule gives, in its order (R222). -/
def Obligations.SegmentCheck : Prop :=
  ∀ (s : State) (r : SegReg) (wr : Bool) (off : Word) (n : Nat),
    let c := s.seg r
    let last := off.toNat + n - 1
    let fault : Exc := if r = .ss then .ss 0#32 else .gp 0#32
    let badType := if wr = true then c.type.getLsbD 3 = true ∨ c.type.getLsbD 1 = false
      else c.type.getLsbD 3 = true ∧ c.type.getLsbD 1 = false
    let badLimit := if c.type.getLsbD 3 = false ∧ c.type.getLsbD 2 = true
      then off.toNat ≤ c.limit.toNat ∨ (if c.db = true then 0xFFFFFFFF else 0xFFFF) < last
      else c.limit.toNat < last
    (s.pe = false → s.segCheck r wr off n =
      if c.limit.toNat < last then .error (.refuse .realModeLimit) else .ok ()) ∧
    (s.pe = true → c.valid = false → s.segCheck r wr off n = .error (.raise (.gp 0#32))) ∧
    (s.pe = true → c.valid = true → badType ∨ badLimit → s.segCheck r wr off n = .error (.raise fault)) ∧
    (s.pe = true → c.valid = true → ¬badType → ¬badLimit → s.segCheck r wr off n =
      if s.cr0.getLsbD 18 = true ∧ s.flags.ac = true ∧ s.cpl = 3#2 ∧ off.toNat % n ≠ 0 then .error (.raise .ac) else .ok ()) ∧
    s.segRead r off n = (do s.segCheck r false off n; s.memRead .read (s.cpl == 3#2) (c.base + off) n)

/-- A memory operand that passes its checks reads the bytes at base plus offset, little-endian and wrapping, with no
alignment needed (R201, R205, R206, R210, R213, R220, R222, R224). -/
def Obligations.OperandRead : Prop :=
  ∀ (s : State) (w : Width) (r : SegReg) (off : Word), s.pg = false →
    let at' := fun (k : Nat) => ((s.seg r).base + off + BitVec.ofNat 32 k).toNat
    (s.segCheck r false off w.bytes = .ok () → ∃ v, s.readLoc w (.mem r off) = .ok v ∧
      ∀ k < w.bytes, ∀ j < 8, v.getLsbD (8 * k + j) = (s.mem.read (at' k)).getLsbD j) ∧
    (s.segCheck r true off w.bytes = .ok () → ∃ v, s.readDst w (.mem r off) = .ok v ∧
      ∀ k < w.bytes, ∀ j < 8, v.getLsbD (8 * k + j) = (s.mem.read (at' k)).getLsbD j)

/-- A store writes its own bytes at base plus offset and nothing else, and records them as stored (R205, R206, R210,
R211, R223, R270, R326). -/
def Obligations.OperandWrite : Prop :=
  (∀ (s t : State) (w : Width) (r : SegReg) (off : Word) (v : BitVec w.bits), s.writeLoc w (.mem r off) v = .ok t →
     (∃ ps, s.physAll .write (s.cpl == 3#2) ((s.seg r).base + off) w.bytes = .ok ps ∧
       ∀ a, a ∉ ps → t.mem.read a = s.mem.read a) ∧
     t = { s with mem := t.mem, smcDirty := t.smcDirty } ∧
     (∀ a, a ∈ t.smcDirty ↔ a ∈ s.smcDirty ∨ ∃ k < w.bytes, a = ((s.seg r).base + off + BitVec.ofNat 32 k).toNat) ∧
     (s.pg = false → s.physAll .write (s.cpl == 3#2) ((s.seg r).base + off) w.bytes
       = .ok ((List.range w.bytes).map fun k => ((s.seg r).base + off + BitVec.ofNat 32 k).toNat)) ∧
     (s.pg = false → s.mem.wf = true → ∀ k < w.bytes,
       t.mem.read ((s.seg r).base + off + BitVec.ofNat 32 k).toNat = v.extractLsb' (8 * k) 8) ∧
     (∀ x : BitVec w.bits, ∃ u, s.writeLoc w (.mem r off) x = .ok u)) ∧
  ((∀ (s : State) (w : Width) (r : SegReg) (off : Word) (v : BitVec w.bits), s.pg = false →
     (s.segCheck r true off w.bytes = .ok () → ∃ t, s.writeLoc w (.mem r off) v = .ok t) ∧
     (∀ e, s.segCheck r true off w.bytes = .error e → s.writeLoc w (.mem r off) v = .error e) ∧
     (∀ e, s.segCheck r false off w.bytes = .error e → s.readLoc w (.mem r off) = .error e)) ∧
   (∀ (s : State) (w : Width) (q : BitVec 3) (v : BitVec w.bits), s.readLoc w (.reg q) = .ok (s.reg w q) ∧
     s.readDst w (.reg q) = .ok (s.reg w q) ∧ s.writeLoc w (.reg q) v = .ok (s.setReg w q v)))

/-- The offset of a memory operand wraps at the address size, and BP, EBP or ESP as base selects SS unless overridden
(R220, R221, R306, R320, R321, R322, R323). -/
def Obligations.EffectiveAddress : Prop :=
  ∀ (g : Gpr) (b : Bound),
    let h := fun (r : BitVec 3) => (g.get r).extractLsb' 0 16
    (∀ d : Disp16, ∀ p ∈ ([(0, h 3 + h 6, .ds), (1, h 3 + h 7, .ds), (2, h 5 + h 6, .ss), (3, h 5 + h 7, .ss), (4, h 6, .ds),
        (5, h 7, .ds), (7, h 3, .ds)] : List (BitVec 3 × Half × SegReg)),
      Addr.offset g (.a16 p.1 d) = (p.2.1 + d.value).setWidth 32 ∧ Addr.segment b (.a16 p.1 d) = b.seg.getD p.2.2) ∧
    (∀ d : Byte, Addr.offset g (.a16 6 (.d8 d)) = (h 5 + d.signExtend 16).setWidth 32 ∧
      Addr.segment b (.a16 6 (.d8 d)) = b.seg.getD .ss) ∧
    (∀ d : Half, Addr.offset g (.a16 6 (.d16 d)) = (h 5 + d).setWidth 32 ∧
      Addr.segment b (.a16 6 (.d16 d)) = b.seg.getD .ss ∧ Addr.offset g (.abs16 d) = d.setWidth 32 ∧
      Addr.segment b (.abs16 d) = b.seg.getD .ds) ∧
    (∀ (r : BitVec 3) (d : Disp32), Addr.offset g (.a32 r d) = g.get r + d.value ∧
      Addr.segment b (.a32 r d) = b.seg.getD (if r = 5#3 then .ss else .ds)) ∧
    (∀ (ss : BitVec 2) (i r : BitVec 3) (d : Disp32),
      Addr.offset g (.sib ss i r d) = g.get r + (if i = 4#3 then 0#32 else g.get i * BitVec.ofNat 32 (2 ^ ss.toNat)) + d.value ∧
      Addr.segment b (.sib ss i r d) = b.seg.getD (if r = 4#3 ∨ r = 5#3 then .ss else .ds)) ∧
    (∀ d : Word, Addr.offset g (.abs32 d) = d ∧ Addr.segment b (.abs32 d) = b.seg.getD .ds ∧
      ∀ (ss : BitVec 2) (i : BitVec 3), Addr.segment b (.sibAbs ss i d) = b.seg.getD .ds ∧
        Addr.offset g (.sibAbs ss i d) = d + (if i = 4#3 then 0#32 else g.get i * BitVec.ofNat 32 (2 ^ ss.toNat)))

/-- Every form of ADD, OR, ADC, SBB, AND, SUB, XOR, CMP and TEST completes with the result and flags of its operation
(R111, R224, R326, R330, R500, R600, R604). -/
def Obligations.AluForms : Prop :=
  ∀ (b : Bound) (e : Rm) (g : BitVec 3) (s : State),
    (∀ p ∈ ([
        (.addEbGb, .add), (.orEbGb, .or), (.adcEbGb, .adc), (.sbbEbGb, .sbb), (.andEbGb, .and), (.subEbGb, .sub),
        (.xorEbGb, .xor), (.cmpEbGb, .cmp), (.testEbGb, .test)] : List ((Bound → Rm → BitVec 3 → Instr) × Alu)),
      AluRuns p.2 (p.1 b e g) b s .w8 (s.loc b e) (s.reg .w8 g)) ∧
    (∀ p ∈ ([
        (.addEvGv, .add), (.orEvGv, .or), (.adcEvGv, .adc), (.sbbEvGv, .sbb), (.andEvGv, .and), (.subEvGv, .sub),
        (.xorEvGv, .xor), (.cmpEvGv, .cmp), (.testEvGv, .test)] : List ((Bound → Rm → BitVec 3 → Instr) × Alu)),
      AluRuns p.2 (p.1 b e g) b s b.osz.width (s.loc b e) (s.reg b.osz.width g)) ∧
    (∀ p ∈ ([
        (.addGbEb, .add), (.orGbEb, .or), (.adcGbEb, .adc), (.sbbGbEb, .sbb), (.andGbEb, .and), (.subGbEb, .sub),
        (.xorGbEb, .xor), (.cmpGbEb, .cmp)] : List ((Bound → BitVec 3 → Rm → Instr) × Alu)),
      ∀ x, s.readLoc .w8 (s.loc b e) = .ok x → AluRuns p.2 (p.1 b g e) b s .w8 (.reg g) x) ∧
    (∀ p ∈ ([
        (.addGvEv, .add), (.orGvEv, .or), (.adcGvEv, .adc), (.sbbGvEv, .sbb), (.andGvEv, .and), (.subGvEv, .sub),
        (.xorGvEv, .xor), (.cmpGvEv, .cmp)] : List ((Bound → BitVec 3 → Rm → Instr) × Alu)),
      ∀ x, s.readLoc b.osz.width (s.loc b e) = .ok x → AluRuns p.2 (p.1 b g e) b s b.osz.width (.reg g) x) ∧
    (∀ p ∈ ([
        (.addAlIb, .add), (.orAlIb, .or), (.adcAlIb, .adc), (.sbbAlIb, .sbb), (.andAlIb, .and), (.subAlIb, .sub),
        (.xorAlIb, .xor), (.cmpAlIb, .cmp), (.testAlIb, .test)] : List ((Bound → Byte → Instr) × Alu)),
      ∀ imm, AluRuns p.2 (p.1 b imm) b s .w8 (.reg 0) imm) ∧
    (∀ p ∈ ([
        (.addEaxIz, .add), (.orEaxIz, .or), (.adcEaxIz, .adc), (.sbbEaxIz, .sbb), (.andEaxIz, .and),
        (.subEaxIz, .sub), (.xorEaxIz, .xor), (.cmpEaxIz, .cmp), (.testEaxIz, .test)] : List ((Bound → Word → Instr) × Alu)),
      ∀ imm, AluRuns p.2 (p.1 b imm) b s b.osz.width (.reg 0) (imm.setWidth _)) ∧
    (∀ p ∈ ([
        (.addEbIb, .add), (.orEbIb, .or), (.adcEbIb, .adc), (.sbbEbIb, .sbb), (.andEbIb, .and), (.subEbIb, .sub),
        (.xorEbIb, .xor), (.cmpEbIb, .cmp), (.testEbIb, .test), (.addEbIb82, .add), (.orEbIb82, .or),
        (.adcEbIb82, .adc), (.sbbEbIb82, .sbb), (.andEbIb82, .and), (.subEbIb82, .sub), (.xorEbIb82, .xor),
        (.cmpEbIb82, .cmp)] : List ((Bound → Rm → Byte → Instr) × Alu)),
      ∀ imm, AluRuns p.2 (p.1 b e imm) b s .w8 (s.loc b e) imm) ∧
    (∀ p ∈ ([
        (.addEvIz, .add), (.orEvIz, .or), (.adcEvIz, .adc), (.sbbEvIz, .sbb), (.andEvIz, .and), (.subEvIz, .sub),
        (.xorEvIz, .xor), (.cmpEvIz, .cmp), (.testEvIz, .test)] : List ((Bound → Rm → Word → Instr) × Alu)),
      ∀ imm, AluRuns p.2 (p.1 b e imm) b s b.osz.width (s.loc b e) (imm.setWidth _)) ∧
    (∀ p ∈ ([
        (.addEvIbs, .add), (.orEvIbs, .or), (.adcEvIbs, .adc), (.sbbEvIbs, .sbb), (.andEvIbs, .and),
        (.subEvIbs, .sub), (.xorEvIbs, .xor), (.cmpEvIbs, .cmp)] : List ((Bound → Rm → Byte → Instr) × Alu)),
      ∀ imm, AluRuns p.2 (p.1 b e imm) b s b.osz.width (s.loc b e) (imm.signExtend _))

/-- Every form of INC, DEC, NEG and NOT completes with its result and flags (R506, R507, R508, R605). -/
def Obligations.UnaryForms : Prop :=
  ∀ (b : Bound) (e : Rm) (r : BitVec 3) (s : State),
    Rewrites (.incEb b e) b s .w8 (s.loc b e) (fun a => (a + 1, s.flags.inc (a + 1))) ∧
    Rewrites (.decEb b e) b s .w8 (s.loc b e) (fun a => (a - 1, s.flags.dec (a - 1))) ∧
    Rewrites (.negEb b e) b s .w8 (s.loc b e) (fun a => (0 - a, s.flags.sub 0 a false)) ∧
    Rewrites (.notEb b e) b s .w8 (s.loc b e) (fun a => (~~~a, s.flags)) ∧
    Rewrites (.incEv b e) b s b.osz.width (s.loc b e) (fun a => (a + 1#_, s.flags.inc (a + 1#_))) ∧
    Rewrites (.decEv b e) b s b.osz.width (s.loc b e) (fun a => (a - 1#_, s.flags.dec (a - 1#_))) ∧
    Rewrites (.negEv b e) b s b.osz.width (s.loc b e) (fun a => (0#_ - a, s.flags.sub 0#_ a false)) ∧
    Rewrites (.notEv b e) b s b.osz.width (s.loc b e) (fun a => (~~~a, s.flags)) ∧
    Rewrites (.incZv b r) b s b.osz.width (.reg r) (fun a => (a + 1#_, s.flags.inc (a + 1#_))) ∧
    Rewrites (.decZv b r) b s b.osz.width (.reg r) (fun a => (a - 1#_, s.flags.dec (a - 1#_)))

/-- MUL and IMUL write the exact product, or its truncation, and CF = OF say whether it fits (R418, R509, R510, R511,
R512). -/
def Obligations.Multiply : Prop :=
  ∀ (b : Bound) (e : Rm) (g : BitVec 3) (s : State),
    let mulFlags := fun (c : Bool) => { s.flags with
      cf := c, of := c, sf := s.flagDraws.sf, zf := s.flagDraws.zf, af := s.flagDraws.af, pf := s.flagDraws.pf }
    (∀ p ∈ ([(.mulEb, .w8), (.mulEv, b.osz.width)] : List ((Bound → Rm → Instr) × Width)), ∀ v,
      s.readLoc p.2 (s.loc b e) = .ok v → ∃ hi lo : BitVec p.2.bits,
        hi.toNat * 2 ^ p.2.bits + lo.toNat = (s.reg p.2 0).toNat * v.toNat ∧
        exec (p.1 b e) s = .next (done b s ((s.setAccPair p.2 hi lo).setFlags (mulFlags (decide (hi.toNat ≠ 0)))))) ∧
    (∀ p ∈ ([(.imulEb, .w8), (.imulEv, b.osz.width)] : List ((Bound → Rm → Instr) × Width)), ∀ v,
      s.readLoc p.2 (s.loc b e) = .ok v → ∃ hi lo : BitVec p.2.bits,
        hi.toInt * 2 ^ p.2.bits + lo.toNat = (s.reg p.2 0).toInt * v.toInt ∧
        exec (p.1 b e) s = .next (done b s ((s.setAccPair p.2 hi lo).setFlags
          (mulFlags (decide (lo.toInt ≠ (s.reg p.2 0).toInt * v.toInt)))))) ∧
    (∀ v, s.readLoc b.osz.width (s.loc b e) = .ok v → ∃ r : BitVec b.osz.width.bits,
        (∃ k : Int, r.toInt = (s.reg b.osz.width g).toInt * v.toInt + k * 2 ^ b.osz.width.bits) ∧
        exec (.imulGvEv b g e) s = .next (done b s ((s.setReg b.osz.width g r).setFlags
          (mulFlags (decide (r.toInt ≠ (s.reg b.osz.width g).toInt * v.toInt)))))) ∧
    (∀ v imm, s.readLoc b.osz.width (s.loc b e) = .ok v → ∃ r : BitVec b.osz.width.bits,
        (∃ k : Int, r.toInt = v.toInt * (imm.setWidth b.osz.width.bits).toInt + k * 2 ^ b.osz.width.bits) ∧
        exec (.imulGvEvIz b g e imm) s = .next (done b s ((s.setReg b.osz.width g r).setFlags
          (mulFlags (decide (r.toInt ≠ v.toInt * (imm.setWidth b.osz.width.bits).toInt)))))) ∧
    (∀ (v : BitVec b.osz.width.bits) (imm : Byte), s.readLoc b.osz.width (s.loc b e) = .ok v →
      ∃ r : BitVec b.osz.width.bits,
        (∃ k : Int, r.toInt = v.toInt * imm.toInt + k * 2 ^ b.osz.width.bits) ∧
        exec (.imulGvEvIbs b g e imm) s = .next (done b s ((s.setReg b.osz.width g r).setFlags
          (mulFlags (decide (r.toInt ≠ v.toInt * imm.toInt))))))

/-- DIV and IDIV give quotient and remainder, truncating toward zero, or raise #DE with nothing written (R23, R404,
R513, R514). -/
def Obligations.Divide : Prop :=
  ∀ (b : Bound) (e : Rm) (s : State),
    (∀ p ∈ ([(.divEb, .w8), (.divEv, b.osz.width)] : List ((Bound → Rm → Instr) × Width)), ∀ d,
      s.readLoc p.2 (s.loc b e) = .ok d →
        (d.toNat = 0 → exec (p.1 b e) s = deliverFault s .de) ∧
        (d.toNat ≠ 0 → ∃ q r, s.accPair p.2 = q * d.toNat + r ∧ r < d.toNat ∧ exec (p.1 b e) s =
          if 2 ^ p.2.bits ≤ q then deliverFault s .de
          else .next (done b s ((s.setAccPair p.2 (BitVec.ofNat _ r) (BitVec.ofNat _ q)).setFlags
            (s.flags.undefined s.flagDraws))))) ∧
    (∀ p ∈ ([(.idivEb, .w8), (.idivEv, b.osz.width)] : List ((Bound → Rm → Instr) × Width)), ∀ d,
      s.readLoc p.2 (s.loc b e) = .ok d →
        let n : Int := if 2 ^ (2 * p.2.bits - 1) ≤ s.accPair p.2 then (s.accPair p.2 : Int) - 2 ^ (2 * p.2.bits)
          else s.accPair p.2
        (d.toInt = 0 → exec (p.1 b e) s = deliverFault s .de) ∧
        (d.toInt ≠ 0 → ∃ q r : Int, n = q * d.toInt + r ∧ r.natAbs < d.toInt.natAbs ∧ (r = 0 ∨ (r < 0 ↔ n < 0)) ∧
          exec (p.1 b e) s =
            if q < -(2 ^ (p.2.bits - 1) : Int) ∨ (2 ^ (p.2.bits - 1) : Int) ≤ q then deliverFault s .de
            else .next (done b s ((s.setAccPair p.2 (BitVec.ofInt _ r) (BitVec.ofInt _ q)).setFlags
              (s.flags.undefined s.flagDraws)))))

/-- DAA, DAS, AAA, AAS, AAM and AAD complete with the adjusted AL and AH and their flags (R515, R516, R517, R518,
R519, R520). -/
def Obligations.DecimalAdjust : Prop :=
  ∀ (b : Bound) (imm : Byte) (s : State),
    let al : Byte := s.gpr.eax.setWidth 8
    let ah : Byte := s.gpr.eax.extractLsb' 8 8
    let low : Bool := decide (9 < al.toNat % 16) || s.flags.af
    let high : Bool := decide (0x99 < al.toNat) || s.flags.cf
    let sum : Byte := al + (if low then 6 else 0) + (if high then 0x60 else 0)
    let dif : Byte := al - (if low then 6 else 0) - (if high then 0x60 else 0)
    let d := s.flagDraws
    let szp := fun (r : Byte) => { s.flags with
      sf := r.msb, zf := decide (r = 0), pf := parity r, of := d.of, af := d.af, cf := d.cf }
    let ascii := { s.flags with of := d.of, sf := d.sf, zf := d.zf, pf := d.pf, af := low, cf := low }
    exec (.daa b) s = .next (done b s ((s.setReg .w8 0 sum).setFlags { szp sum with cf := high, af := low })) ∧
    exec (.das b) s = .next (done b s ((s.setReg .w8 0 dif).setFlags
      { szp dif with cf := (low && (s.flags.cf || decide (al.toNat < 6))) || high, af := low })) ∧
    exec (.aaa b) s = .next (done b s (((s.setReg .w8 4 (if low then ah + 1 + (if decide (0xFA ≤ al.toNat) && s.drawAdjust
      then 1 else 0) else ah)).setReg .w8 0 (BitVec.ofNat 8 ((if low then al + 6 else al).toNat % 16))).setFlags ascii)) ∧
    exec (.aas b) s = .next (done b s (((s.setReg .w8 4 (if low then ah - 1 - (if decide (al.toNat < 6) && s.drawAdjust
      then 1 else 0) else ah)).setReg .w8 0 (BitVec.ofNat 8 ((if low then al - 6 else al).toNat % 16))).setFlags ascii)) ∧
    exec (.aamIb b imm) s = (if imm = 0 then deliverFault s .de else .next (done b s (((s.setReg .w8 4
      (BitVec.ofNat 8 (al.toNat / imm.toNat))).setReg .w8 0 (BitVec.ofNat 8 (al.toNat % imm.toNat))).setFlags
      (szp (BitVec.ofNat 8 (al.toNat % imm.toNat)))))) ∧
    exec (.aadIb b imm) s = .next (done b s (((s.setReg .w8 0 (al + ah * imm)).setReg .w8 4 0).setFlags
      (szp (al + ah * imm))))

/-- CMPXCHG, CMPXCHG8B and XADD complete, writing the destination in every case (R521, R522, R523). -/
def Obligations.CompareExchange : Prop :=
  ∀ (b : Bound) (e : Rm) (g : BitVec 3) (s : State),
    (∀ p ∈ ([(.cmpxchgEbGb, .w8), (.cmpxchgEvGv, b.osz.width)] : List ((Bound → Rm → BitVec 3 → Instr) × Width)), ∀ d,
      s.readDst p.2 (s.loc b e) = .ok d →
        (s.reg p.2 0 = d → ∃ t, s.writeLoc p.2 (s.loc b e) (s.reg p.2 g) = .ok t ∧
          exec (p.1 b e g) s = .next (done b s (t.setFlags (s.flags.sub (s.reg p.2 0) d false)))) ∧
        (s.reg p.2 0 ≠ d → ∃ t, s.writeLoc p.2 (s.loc b e) d = .ok t ∧
          exec (p.1 b e g) s = .next (done b s ((t.setReg p.2 0 d).setFlags (s.flags.sub (s.reg p.2 0) d false))))) ∧
    (∀ p ∈ ([(.xaddEbGb, .w8), (.xaddEvGv, b.osz.width)] : List ((Bound → Rm → BitVec 3 → Instr) × Width)), ∀ d,
      s.readDst p.2 (s.loc b e) = .ok d → ∃ t,
        (s.setReg p.2 g d).writeLoc p.2 (s.loc b e) (d + s.reg p.2 g) = .ok t ∧
        exec (p.1 b e g) s = .next (done b s (t.setFlags (s.flags.add d (s.reg p.2 g) false)))) ∧
    (∀ (m : Addr) (v : Nat), s.segReadRmw (m.segment b) (m.offset s.gpr) 8 = .ok v →
      (s.gpr.edx.toNat * 2 ^ 32 + s.gpr.eax.toNat = v → ∃ t,
        s.segWrite (m.segment b) (m.offset s.gpr) 8 (s.gpr.ecx.toNat * 2 ^ 32 + s.gpr.ebx.toNat) = .ok t ∧
        exec (.cmpxchg8bMq b m) s = .next (done b s (t.setFlags { s.flags with zf := true }))) ∧
      (s.gpr.edx.toNat * 2 ^ 32 + s.gpr.eax.toNat ≠ v → ∃ t,
        s.segWrite (m.segment b) (m.offset s.gpr) 8 v = .ok t ∧
        exec (.cmpxchg8bMq b m) s = .next (done b s (((t.setReg .w32 2 (BitVec.ofNat 32 (v / 2 ^ 32))).setReg .w32 0
          (BitVec.ofNat 32 v)).setFlags { s.flags with zf := false }))))

/-- BT, BTS, BTR, BTC reach their bit, in memory at a signed distance; BSF and BSR find the lowest and highest set bit
(R610, R611, R612, R613, R614, R620, R621). -/
def Obligations.BitInstructions : Prop :=
  (∀ (b : Bound) (e : Rm) (g : BitVec 3) (imm : Byte) (s : State),
     let w := b.osz.width
     let fl := fun (c : Bool) => { s.flags with
       cf := c, of := s.flagDraws.of, sf := s.flagDraws.sf, af := s.flagDraws.af, pf := s.flagDraws.pf }
     let tests := fun (i : Instr) (l : Loc) (n : Nat) => ∀ v, s.readLoc w l = .ok v →
       exec i s = .next (done b s (s.setFlags (fl (v.getLsbD n))))
     let edits := fun (i : Instr) (l : Loc) (n : Nat) (x : Bool → Bool) => ∀ v, s.readDst w l = .ok v → ∃ t r,
       s.writeLoc w l r = .ok t ∧ (∀ j < w.bits, r.getLsbD j = if j = n then x (v.getLsbD n) else v.getLsbD j) ∧
       exec i s = .next (done b s (t.setFlags (fl (v.getLsbD n))))
     (tests (.btEvIb b e imm) (s.loc b e) (imm.toNat % w.bits) ∧
       edits (.btsEvIb b e imm) (s.loc b e) (imm.toNat % w.bits) (fun _ => true) ∧
       edits (.btrEvIb b e imm) (s.loc b e) (imm.toNat % w.bits) (fun _ => false) ∧
       edits (.btcEvIb b e imm) (s.loc b e) (imm.toNat % w.bits) (fun c => !c)) ∧
     ∃ (q : Int) (n : Nat), n < w.bits ∧ (s.reg w g).toInt = q * w.bits + n ∧
       let l : Loc := match e with
         | .reg r => .reg r
         | .mem a => .mem (a.segment b) (b.asz.cut (a.offset s.gpr + BitVec.ofInt 32 (q * w.bytes)))
       tests (.btEvGv b e g) l n ∧ edits (.btsEvGv b e g) l n (fun _ => true) ∧
       edits (.btrEvGv b e g) l n (fun _ => false) ∧ edits (.btcEvGv b e g) l n (fun c => !c)) ∧
  (∀ (b : Bound) (e : Rm) (g : BitVec 3) (s : State) (v : BitVec b.osz.width.bits),
     s.readLoc b.osz.width (s.loc b e) = .ok v →
     let w := b.osz.width
     let fl := fun (z : Bool) => { s.flags.undefined s.flagDraws with zf := z }
     (v.toNat = 0 → ∀ i ∈ ([.bsfGvEv b g e, .bsrGvEv b g e] : List Instr),
       exec i s = .next (done b s ((s.setReg w g (s.drawWord.setWidth _)).setFlags (fl true)))) ∧
     (v.toNat ≠ 0 → ∃ lo hi, lo < w.bits ∧ hi < w.bits ∧ v.getLsbD lo = true ∧ v.getLsbD hi = true ∧
       (∀ j < w.bits, v.getLsbD j = true → lo ≤ j ∧ j ≤ hi) ∧
       exec (.bsfGvEv b g e) s = .next (done b s ((s.setReg w g (BitVec.ofNat _ lo)).setFlags (fl false))) ∧
       exec (.bsrGvEv b g e) s = .next (done b s ((s.setReg w g (BitVec.ofNat _ hi)).setFlags (fl false)))))

/-- Every shift and rotate form completes; a masked count of 0 writes the operand back and keeps every flag (R419,
R700, R701, R702, R703, R704, R705, R706, R707). -/
def Obligations.ShiftForms : Prop :=
  ∀ (b : Bound) (e : Rm) (imm : Byte) (s : State),
    let runs := fun (op : ShiftOp) (i : Instr) (w : Width) (count : Byte) =>
      (count.toNat % 32 = 0 → ∀ d, s.readDst w (s.loc b e) = .ok d →
        ∃ t, s.writeLoc w (s.loc b e) d = .ok t ∧ exec i s = .next (done b s t)) ∧
      (count.toNat % 32 ≠ 0 →
        Rewrites i b s w (s.loc b e) (fun d => op.eval s.flags s.flagDraws d (count.toNat % 32)))
    (∀ p ∈ ([
        (.rolEbIb, .rol), (.rorEbIb, .ror), (.rclEbIb, .rcl), (.rcrEbIb, .rcr), (.shlEbIb, .shl),
        (.shrEbIb, .shr), (.sarEbIb, .sar)] : List ((Bound → Rm → Byte → Instr) × ShiftOp)),
      runs p.2 (p.1 b e imm) .w8 imm) ∧
    (∀ p ∈ ([
        (.rolEvIb, .rol), (.rorEvIb, .ror), (.rclEvIb, .rcl), (.rcrEvIb, .rcr), (.shlEvIb, .shl),
        (.shrEvIb, .shr), (.sarEvIb, .sar)] : List ((Bound → Rm → Byte → Instr) × ShiftOp)),
      runs p.2 (p.1 b e imm) b.osz.width imm) ∧
    (∀ p ∈ ([
        (.rolEb1, .rol), (.rorEb1, .ror), (.rclEb1, .rcl), (.rcrEb1, .rcr), (.shlEb1, .shl), (.shrEb1, .shr),
        (.sarEb1, .sar)] : List ((Bound → Rm → Instr) × ShiftOp)),
      runs p.2 (p.1 b e) .w8 1) ∧
    (∀ p ∈ ([
        (.rolEv1, .rol), (.rorEv1, .ror), (.rclEv1, .rcl), (.rcrEv1, .rcr), (.shlEv1, .shl), (.shrEv1, .shr),
        (.sarEv1, .sar)] : List ((Bound → Rm → Instr) × ShiftOp)),
      runs p.2 (p.1 b e) b.osz.width 1) ∧
    (∀ p ∈ ([
        (.rolEbCl, .rol), (.rorEbCl, .ror), (.rclEbCl, .rcl), (.rcrEbCl, .rcr), (.shlEbCl, .shl),
        (.shrEbCl, .shr), (.sarEbCl, .sar)] : List ((Bound → Rm → Instr) × ShiftOp)),
      runs p.2 (p.1 b e) .w8 (s.reg .w8 1)) ∧
    (∀ p ∈ ([
        (.rolEvCl, .rol), (.rorEvCl, .ror), (.rclEvCl, .rcl), (.rcrEvCl, .rcr), (.shlEvCl, .shl),
        (.shrEvCl, .shr), (.sarEvCl, .sar)] : List ((Bound → Rm → Instr) × ShiftOp)),
      runs p.2 (p.1 b e) b.osz.width (s.reg .w8 1))

/-- The results and carries of the shifts and rotates are the arithmetic ones, bit for bit (R419, R700, R701, R702,
R703, R704, R705, R706, R707). -/
def Obligations.ShiftValues : Prop :=
  ∀ (w : Width) (f : Flags) (dr : FlagDraws) (d : BitVec w.bits) (c : Nat), 1 ≤ c → c < 32 →
    let n := w.bits
    let of := fun (x : Bool) => if c = 1 then x else dr.of
    let szp := fun (r : BitVec w.bits) (cf o : Bool) => { f with
      cf := cf, of := of o, af := dr.af, zf := decide (r.toNat = 0), sf := r.msb, pf := parity (r.setWidth 8) }
    (∃ r, ShiftOp.shl.eval f dr d c = (r, szp r (if c < n then d.getLsbD (n - c) else dr.cf)
        (r.msb ^^ (if c < n then d.getLsbD (n - c) else dr.cf))) ∧ r.toNat = d.toNat * 2 ^ c % 2 ^ n) ∧
    (∃ r, ShiftOp.shr.eval f dr d c = (r, szp r (if c < n then d.getLsbD (c - 1) else dr.cf) d.msb) ∧
      r.toNat = d.toNat / 2 ^ c) ∧
    (∃ r, ShiftOp.sar.eval f dr d c = (r, szp r (if c < n then d.getLsbD (c - 1) else d.msb) false) ∧
      r.toInt = d.toInt / 2 ^ c) ∧
    (∃ r, ShiftOp.rol.eval f dr d c = (r, { f with cf := r.getLsbD 0, of := of (r.msb ^^ r.getLsbD 0) }) ∧
      ∀ i < n, r.getLsbD ((i + c) % n) = d.getLsbD i) ∧
    (∃ r, ShiftOp.ror.eval f dr d c = (r, { f with cf := r.msb, of := of (r.msb ^^ r.getLsbD (n - 2)) }) ∧
      ∀ i < n, r.getLsbD i = d.getLsbD ((i + c) % n)) ∧
    (let bit := fun (cf : Bool) (x : BitVec w.bits) (i : Nat) => if i = n then cf else x.getLsbD i;
      (∃ r cf, ShiftOp.rcl.eval f dr d c = (r, { f with cf := cf, of := of (r.msb ^^ cf) }) ∧
        ∀ i ≤ n, bit cf r ((i + c) % (n + 1)) = bit f.cf d i) ∧
      (∃ r cf, ShiftOp.rcr.eval f dr d c = (r, { f with cf := cf, of := of (r.msb ^^ r.getLsbD (n - 2)) }) ∧
        ∀ i ≤ n, bit cf r i = bit f.cf d ((i + c) % (n + 1))))

/-- SHLD and SHRD shift in the bits of the source register; a count above the width leaves everything free (R700,
R710, R711). -/
def Obligations.DoubleShifts : Prop :=
  ∀ (b : Bound) (e : Rm) (g : BitVec 3) (imm : Byte) (s : State),
    let w := b.osz.width
    let n := w.bits
    let x := s.reg w g
    let dr := s.flagDraws
    let fl := fun (d r : BitVec w.bits) (c : Nat) (cf : Bool) => { s.flags with
      cf := cf, of := if c = 1 then r.msb ^^ d.msb else dr.of, af := dr.af
      zf := decide (r.toNat = 0), sf := r.msb, pf := parity (r.setWidth 8) }
    ∀ p ∈ ([(.shldEvGvIb b e g imm, true, imm), (.shldEvGvCl b e g, true, s.reg .w8 1),
        (.shrdEvGvIb b e g imm, false, imm), (.shrdEvGvCl b e g, false, s.reg .w8 1)] : List (Instr × Bool × Byte)),
      let c := p.2.2.toNat % 32
      ∀ d, s.readDst w (s.loc b e) = .ok d →
        (c = 0 → ∃ t, s.writeLoc w (s.loc b e) d = .ok t ∧ exec p.1 s = .next (done b s t)) ∧
        (1 ≤ c → c ≤ n → ∃ t r, s.writeLoc w (s.loc b e) r = .ok t ∧
          r.toNat = (if p.2.1 then (d.toNat * 2 ^ n + x.toNat) * 2 ^ c / 2 ^ n else (x.toNat * 2 ^ n + d.toNat) / 2 ^ c) % 2 ^ n ∧
          exec p.1 s = .next (done b s (t.setFlags
            (fl d r c (if p.2.1 then d.getLsbD (n - c) else d.getLsbD (c - 1)))))) ∧
        (n < c → ∃ t, s.writeLoc w (s.loc b e) (s.drawWord.setWidth _) = .ok t ∧
          exec p.1 s = .next (done b s (t.setFlags (s.flags.undefined dr))))

/-- Every MOV completes with the source value and no flag changed; XCHG swaps its operands (R800, R801, R802, R803,
R810, R820). -/
def Obligations.Moves : Prop :=
  (∀ (b : Bound) (e : Rm) (g r : BitVec 3) (sr : SegReg) (s : State),
     let w := b.osz.width
     let moffs := fun (o : Word) => Loc.mem (b.seg.getD .ds) o
     (∀ t, s.writeLoc .w8 (s.loc b e) (s.reg .w8 g) = .ok t → exec (.movEbGb b e g) s = .next (done b s t)) ∧
     (∀ t, s.writeLoc w (s.loc b e) (s.reg w g) = .ok t → exec (.movEvGv b e g) s = .next (done b s t)) ∧
     (∀ v, s.readLoc .w8 (s.loc b e) = .ok v → exec (.movGbEb b g e) s = .next (done b s (s.setReg .w8 g v))) ∧
     (∀ v, s.readLoc w (s.loc b e) = .ok v → exec (.movGvEv b g e) s = .next (done b s (s.setReg w g v))) ∧
     (∀ imm, exec (.movZbIb b r imm) s = .next (done b s (s.setReg .w8 r imm))) ∧
     (∀ imm, exec (.movZvIz b r imm) s = .next (done b s (s.setReg w r (imm.setWidth _)))) ∧
     (∀ imm t, s.writeLoc .w8 (s.loc b e) imm = .ok t → exec (.movEbIb b e imm) s = .next (done b s t)) ∧
     (∀ (imm : Word) t, s.writeLoc w (s.loc b e) (imm.setWidth _) = .ok t →
       exec (.movEvIz b e imm) s = .next (done b s t)) ∧
     (∀ o v, s.readLoc .w8 (moffs o) = .ok v → exec (.movAlOb b o) s = .next (done b s (s.setReg .w8 0 v))) ∧
     (∀ o v, s.readLoc w (moffs o) = .ok v → exec (.movEaxOv b o) s = .next (done b s (s.setReg w 0 v))) ∧
     (∀ o t, s.writeLoc .w8 (moffs o) (s.reg .w8 0) = .ok t → exec (.movObAl b o) s = .next (done b s t)) ∧
     (∀ o t, s.writeLoc w (moffs o) (s.reg w 0) = .ok t → exec (.movOvEax b o) s = .next (done b s t)) ∧
     (exec (.movEwSw b (.reg r) sr) s = .next (done b s (if b.osz = .s16 then s.setReg .w16 r (s.seg sr).selector
       else s.setReg .w32 r (s.drawHalf ++ (s.seg sr).selector)))) ∧
     (∀ a t, s.segWrite (a.segment b) (a.offset s.gpr) 2 (s.seg sr).selector.toNat = .ok t →
       exec (.movEwSw b (.mem a) sr) s = .next (done b s t))) ∧
  (∀ (b : Bound) (e : Rm) (g : BitVec 3) (s : State),
     (∀ p ∈ ([(.xchgEbGb, .w8), (.xchgEvGv, b.osz.width)] : List ((Bound → Rm → BitVec 3 → Instr) × Width)), ∀ a,
       s.readDst p.2 (s.loc b e) = .ok a → ∃ t, s.writeLoc p.2 (s.loc b e) (s.reg p.2 g) = .ok t ∧
         exec (p.1 b e g) s = .next (done b s (t.setReg p.2 g a))) ∧
     (∀ p ∈ ([(.xchgEaxR1, 1), (.xchgEaxR2, 2), (.xchgEaxR3, 3), (.xchgEaxR4, 4), (.xchgEaxR5, 5), (.xchgEaxR6, 6),
         (.xchgEaxR7, 7)] : List ((Bound → Instr) × BitVec 3)),
       exec (p.1 b) s = .next (done b s ((s.setReg b.osz.width p.2 (s.reg b.osz.width 0)).setReg b.osz.width 0
         (s.reg b.osz.width p.2)))))

/-- MOVZX, MOVSX, LEA, CBW, CWDE, CWD, CDQ, BSWAP, XLAT, LAHF, SAHF and NOP complete with their values (R815, R816,
R821, R822, R823, R824, R825, R827, R828, R829). -/
def Obligations.RegisterMoves : Prop :=
  ∀ (b : Bound) (e : Rm) (m : Addr) (g r : BitVec 3) (s : State),
    let w := b.osz.width
    (∀ v, s.readLoc .w8 (s.loc b e) = .ok v → ∃ x y : BitVec w.bits, x.toNat = v.toNat ∧ y.toInt = v.toInt ∧
      exec (.movzxGvEb b g e) s = .next (done b s (s.setReg w g x)) ∧
      exec (.movsxGvEb b g e) s = .next (done b s (s.setReg w g y))) ∧
    (∀ v, s.readLoc .w16 (s.loc b e) = .ok v → ∃ x y : BitVec w.bits, x.toNat = v.toNat ∧ y.toInt = v.toInt ∧
      exec (.movzxGvEw b g e) s = .next (done b s (s.setReg w g x)) ∧
      exec (.movsxGvEw b g e) s = .next (done b s (s.setReg w g y))) ∧
    exec (.leaGvM b g m) s = .next (done b s (s.setReg w g ((m.offset s.gpr).setWidth _))) ∧
    (∃ (x : Half) (y : Word), x.toInt = (s.reg .w8 0).toInt ∧ y.toInt = (s.reg .w16 0).toInt ∧
      exec (.cbw b) s = .next (done b s (if b.osz = .s16 then s.setReg .w16 0 x else s.setReg .w32 0 y))) ∧
    exec (.cwd b) s = .next (done b s (if b.osz = .s16
      then s.setReg .w16 2 (if (s.reg .w16 0).getLsbD 15 then 0xFFFF else 0)
      else s.setReg .w32 2 (if s.gpr.eax.getLsbD 31 then 0xFFFFFFFF else 0))) ∧
    (∃ x : Word, (∀ k < 4, x.extractLsb' (8 * k) 8 = (s.gpr.get r).extractLsb' (8 * (3 - k)) 8) ∧
      exec (.bswapZd b r) s = .next (done b s (if b.osz = .s16 then s.setReg .w16 r s.drawHalf
        else s.setReg .w32 r x))) ∧
    (∀ v, s.readLoc .w8 (.mem (b.seg.getD .ds) (if b.asz = .s16
        then ((s.gpr.ebx.setWidth 16 : Half) + (s.reg .w8 0).setWidth 16).setWidth 32
        else s.gpr.ebx + (s.reg .w8 0).setWidth 32)) = .ok v →
      exec (.xlat b) s = .next (done b s (s.setReg .w8 0 v))) ∧
    exec (.lahf b) s = .next (done b s (s.setReg .w8 4 (BitVec.ofBoolListLE
      [s.flags.cf, true, s.flags.pf, false, s.flags.af, false, s.flags.zf, s.flags.sf]))) ∧
    exec (.sahf b) s = .next (done b s (s.setFlags { s.flags with
      sf := s.gpr.eax.getLsbD 15, zf := s.gpr.eax.getLsbD 14, af := s.gpr.eax.getLsbD 12, pf := s.gpr.eax.getLsbD 10
      cf := s.gpr.eax.getLsbD 8 })) ∧
    exec (.nop b) s = .next (done b s s)

/-- MOV, POP and far-pointer loads of a segment register complete; in real mode the base becomes the selector times 16
(R123, R811, R812, R813, R848, R859, R860, R861, R862, R863, R864). POP SS wraps and writes the stack pointer at the
width of the new SS.db: log 12. The selector of a far pointer lies at an offset cut to the address size: log 11. The
record of a trap that MOV SS and POP SS postpone, and when it is taken, is log 29. -/
def Obligations.SegmentLoads : Prop :=
  ∀ (b : Bound) (e : Rm) (m : Addr) (g : BitVec 3) (s : State),
    (∀ (r : SegReg) (sel : Half), s.pe = false → s.loadSegReg r sel = .ok (s.setSeg r { s.seg r with
      selector := sel, base := (sel.setWidth 32 : Word) <<< 4, valid := true })) ∧
    (∀ (r : SegReg) sel t, r ≠ .cs → s.readLoc .w16 (s.loc b e) = .ok sel → s.loadSegReg r sel = .ok t →
      exec (.movSwEw b r e) s = .next (if r = .ss then doneShadowed b s { t with intShadow := true } else done b s t)) ∧
    exec (.movSwEw b .cs e) s = deliverFault s .ud ∧
    (∀ p ∈ ([(.popEs, .es), (.popSs, .ss), (.popDs, .ds), (.popFs, .fs), (.popGs, .gs)] : List ((Bound → Instr) × SegReg)),
      ∀ v t, StackHolds s b.osz 0 v → s.loadSegReg p.2 (v.setWidth 16) = .ok t →
        let u := t.setSp (stackAt s 0#32 + slots b.osz 1)
        exec (p.1 b) s = .next (if p.2 = .ss then doneShadowed b s { u with intShadow := true } else done b s u)) ∧
    (∀ p ∈ ([(.lesGvMp, .es), (.ldsGvMp, .ds), (.lssGvMp, .ss), (.lfsGvMp, .fs), (.lgsGvMp, .gs)] : List
        ((Bound → BitVec 3 → Addr → Instr) × SegReg)), ∀ off sel t,
      s.segRead (m.segment b) (m.offset s.gpr) b.osz.bytes = .ok off →
      s.segRead (m.segment b) (indexOf b (m.offset s.gpr + BitVec.ofNat 32 b.osz.bytes)) 2 = .ok sel →
      s.loadSegReg p.2 (BitVec.ofNat 16 sel) = .ok t →
      exec (p.1 b g m) s = .next (done b s (t.setReg b.osz.width g (BitVec.ofNat _ off))))

/-- A protected-mode load of a data or stack segment register checks its descriptor and fills the cache from it (R121,
R240, R241, R242, R247, R250, R251). -/
def Obligations.ProtectedSegmentLoad : Prop :=
  ∀ (s : State) (r : SegReg) (sel : Half), s.pe = true → r ≠ .cs →
    let code : Word := (sel &&& 0xFFFC#16).setWidth 32
    (isNull sel = true → r ≠ .ss → s.loadSegReg r sel = .ok (s.setSeg r { s.seg r with selector := sel, valid := false })) ∧
    (isNull sel = true → r = .ss → s.loadSegReg r sel = .error (.raise (.gp 0#32))) ∧
    (isNull sel = false → s.descAddr sel = none → s.loadSegReg r sel = .error (.raise (.gp code))) ∧
    (∀ addr d, Names s sel addr d →
      let kind := d.s = true ∧ (d.type.getLsbD 3 = true → d.type.getLsbD 1 = true)
      let level := d.type.getLsbD 3 = true ∧ d.type.getLsbD 2 = true ∨ rpl sel ≤ d.dpl ∧ s.cpl ≤ d.dpl
      let stack := rpl sel = s.cpl ∧ d.s = true ∧ d.type.getLsbD 3 = false ∧ d.type.getLsbD 1 = true ∧ d.dpl = s.cpl
      (¬(if r = .ss then stack else kind ∧ level) → s.loadSegReg r sel = .error (.raise (.gp code))) ∧
      ((if r = .ss then stack else kind ∧ level) → d.p = false →
        s.loadSegReg r sel = .error (.raise (if r = .ss then .ss code else .np code))) ∧
      ((if r = .ss then stack else kind ∧ level) → d.p = true → ∀ t, s.setAccessed addr d = .ok t →
        s.loadSegReg r sel = .ok (t.setSeg r ⟨sel, d.base, d.limit, d.type ||| 1#4, true, d.dpl, true, d.db, d.g, d.avl,
          true⟩)))

/-- Every PUSH stores its value below the stack pointer, POP and LEAVE load from it, at the width of SS.db (R840,
R841, R842, R843, R844, R845, R846, R847, R851, R854). Upper halves of 32-bit selector slots are draws: log 3. -/
def Obligations.PushPopForms : Prop :=
  (∀ (b : Bound) (e : Rm) (r : BitVec 3) (s : State),
     Pushes (.pushZv b r) b s b.osz (s.gpr.get r) ∧
     (∀ v, s.readLoc b.osz.width (s.loc b e) = .ok v → Pushes (.pushEv b e) b s b.osz (v.setWidth 32)) ∧
     (∀ imm, Pushes (.pushIz b imm) b s b.osz imm) ∧ (∀ imm, Pushes (.pushIbs b imm) b s b.osz (imm.signExtend 32)) ∧
     (∀ p ∈ ([(.pushEs, .es), (.pushCs, .cs), (.pushSs, .ss), (.pushDs, .ds), (.pushFs, .fs), (.pushGs, .gs)] : List
         ((Bound → Instr) × SegReg)), Pushes (p.1 b) b s b.osz (slot b.osz s.drawHalf (s.seg p.2).selector)) ∧
     Pushes (.pushf b) b s b.osz (s.flags.image &&& 0xFFFCFFFF#32)) ∧
  (∀ (b : Bound) (e : Rm) (r : BitVec 3) (s : State) (v : Word),
     (StackHolds s b.osz 0 v → exec (.popZv b r) s
       = .next (done b s ((popped s (slots b.osz 1)).setReg b.osz.width r (v.setWidth _)))) ∧
     (StackHolds s b.osz 0 v → ∀ t,
       (popped s (slots b.osz 1)).writeLoc b.osz.width
         (resolve b { s.gpr with esp := stackAt s (slots b.osz 1) } e) (v.setWidth _) = .ok t →
       exec (.popEv b e) s = .next (done b s t)) ∧
     (∀ bp : Word, bp = (if s.ss.db then s.gpr.ebp else (s.gpr.ebp.setWidth 16 : Half).setWidth 32) →
       s.segRead .ss bp b.osz.bytes = .ok v.toNat → exec (.leave b) s = .next (done b s
         ((s.setSp (if s.ss.db then bp + slots b.osz 1 else ((bp + slots b.osz 1).setWidth 16 : Half).setWidth 32)).setReg
           b.osz.width 5 (v.setWidth _)))))

/-- POPF and IRET write the flags their privilege allows: IOPL only at CPL 0, IF only with CPL <= IOPL, VM never
(R431, R852, R961). -/
def Obligations.StackFlags : Prop :=
  (∀ (b : Bound) (s : State) (v : Word), StackHolds s b.osz 0 v →
     let big := decide (b.osz = .s32)
     let f := s.flags
     let io : Bool := !s.pe || decide (s.cpl ≤ f.iopl)
     let top : Bool := !s.pe || s.cpl == 0#2
     exec (.popf b) s = .next (done b s ((popped s (slots b.osz 1)).setFlags
       { cf := v.getLsbD 0, pf := v.getLsbD 2, af := v.getLsbD 4, zf := v.getLsbD 6, sf := v.getLsbD 7, tf := v.getLsbD 8
         ifl := if io then v.getLsbD 9 else f.ifl, df := v.getLsbD 10, of := v.getLsbD 11
         iopl := if top then v.extractLsb' 12 2 else f.iopl, nt := v.getLsbD 14, rf := false, vm := f.vm
         ac := if big then v.getLsbD 18 else f.ac, vif := f.vif, vip := f.vip
         id := if big then v.getLsbD 21 else f.id }))) ∧
  (∀ (s : State) (z : Size) (v : Word),
     let big := decide (z = .s32)
     let f := s.flags
     let top : Bool := s.cpl == 0#2
     s.flags.setImage v (s.iretMask z) =
       { cf := v.getLsbD 0, pf := v.getLsbD 2, af := v.getLsbD 4, zf := v.getLsbD 6, sf := v.getLsbD 7, tf := v.getLsbD 8
         ifl := if s.cpl ≤ f.iopl then v.getLsbD 9 else f.ifl, df := v.getLsbD 10, of := v.getLsbD 11
         iopl := if top then v.extractLsb' 12 2 else f.iopl, nt := v.getLsbD 14
         rf := if big then v.getLsbD 16 else f.rf, vm := f.vm, ac := if big then v.getLsbD 18 else f.ac
         vif := if big && top then v.getLsbD 19 else f.vif, vip := if big && top then v.getLsbD 20 else f.vip
         id := if big then v.getLsbD 21 else f.id })

/-- PUSHA pushes the eight registers with the old stack pointer, POPA loads seven of them and drops the fourth; ENTER
builds its frame (R849, R850, R853). -/
def Obligations.PushPopAll : Prop :=
  ∀ (b : Bound) (s : State),
    let z := b.osz
    let w := z.width
    (∀ t, s.pushAll z [s.gpr.eax, s.gpr.ecx, s.gpr.edx, s.gpr.ebx, s.gpr.esp, s.gpr.ebp, s.gpr.esi, s.gpr.edi] = .ok t →
      exec (.pusha b) s = .next (done b s t)) ∧
    (∀ di si bp sp bx dx cx ax, StackHolds s z 0 di → StackHolds s z 1 si → StackHolds s z 2 bp → StackHolds s z 3 sp →
      StackHolds s z 4 bx → StackHolds s z 5 dx → StackHolds s z 6 cx → StackHolds s z 7 ax →
      ∃ t, (∀ p ∈ ([(0, ax), (1, cx), (2, dx), (3, bx), (5, bp), (6, si), (7, di)] : List (BitVec 3 × Word)),
        t.reg w p.1 = p.2.setWidth _ ∧ (w = .w16 → (t.gpr.get p.1).extractLsb' 16 16 = (s.gpr.get p.1).extractLsb' 16 16)) ∧
        t.gpr.esp = (popped s (slots z 8)).gpr.esp ∧ t = { s with gpr := t.gpr } ∧
        exec (.popa b) s = .next (done b s t)) ∧
    (∀ (size : Half) (level : Byte) (s1 s2 s3 : State),
      s.push z s.gpr.ebp = .ok s1 →
      (if level.toNat % 32 = 0 then s2 = s1
        else enterCopies z (level.toNat % 32 - 1) s1 = .ok s3 ∧ s3.push z (stackAt s1 0) = .ok s2) →
      exec (.enterIwIb b size level) s = .next (done b s
        (popped (s2.setReg w 5 ((stackAt s1 0).setWidth _)) (0#32 - size.setWidth 32))))

/-- A value pushed is the value a following pop reads, and the pop restores the stack pointer (R205, R840, R841). -/
def Obligations.PushThenPop : Prop :=
  ∀ (s t : State) (z : Size) (v : Word), s.pg = false → s.mem.wf = true → s.push z v = .ok t →
    (t.segCheck .ss false (stackAt t 0#32) z.bytes = .ok () →
      t.segRead .ss (stackAt t 0#32) z.bytes = .ok (v.toNat % 2 ^ (8 * z.bytes))) ∧
    (t.setSp (stackAt t (slots z 1))).gpr = s.gpr

/-- Near jumps, conditional jumps, LOOPs, CALL and RET go to their target at operand size, or fall through (R270,
R900, R901, R903, R904, R906, R907, R909, R910, R911, R912, R913). R112 (EIP), R902 (JMP Jz), R905 (Jcc Jz) and R908
(LOOPE) are stated here too. That a CALL ends with its own pushed bytes settled is log 10. -/
def Obligations.NearTransfers : Prop :=
  (∀ (b : Bound) (s : State) (cc : BitVec 4) (d8 : Byte) (d : Word) (e : Rm),
     let rel8 : Word := nextEip b s + d8.signExtend 32
     let relz : Word := nextEip b s + (if b.osz = .s16 then (d.setWidth 16 : Half).signExtend 32 else d)
     let goes := fun (i : Instr) (c : FlowClass) (t : Word) (u : State) =>
       ((target b.osz t).toNat ≤ s.cs.limit.toNat → exec i s = .next (doneAs c s { u with eip := target b.osz t })) ∧
       (s.cs.limit.toNat < (target b.osz t).toNat → exec i s =
         if s.pe = true then deliverFault s (.gp 0#32) else .refused .realModeLimit)
     let falls := fun (i : Instr) (u : State) => exec i s = .next (doneAs .notTaken s { u with eip := nextEip b s })
     let count := s.setAddrReg b 1#3 (s.count b - 1#32)
     let more : Bool := decide (s.count b ≠ 1#32)
     goes (.jmpJb b d8) .taken rel8 s ∧ goes (.jmpJz b d) .taken relz s ∧
     (∀ v, s.readLoc b.osz.width (s.loc b e) = .ok v → goes (.jmpEv b e) .unknownTarget (v.setWidth 32) s) ∧
     (if s.flags.cond cc = true then goes (.jccJb b cc d8) .taken rel8 s ∧ goes (.jccJz b cc d) .taken relz s
       else falls (.jccJb b cc d8) s ∧ falls (.jccJz b cc d) s) ∧
     (if s.count b = 0#32 then goes (.jcxzJb b d8) .taken rel8 s else falls (.jcxzJb b d8) s) ∧
     (if more = true then goes (.loopJb b d8) .taken rel8 count else falls (.loopJb b d8) count) ∧
     (if more = true ∧ s.flags.zf = true then goes (.loopeJb b d8) .taken rel8 count else falls (.loopeJb b d8) count) ∧
     (if more = true ∧ s.flags.zf = false then goes (.loopneJb b d8) .taken rel8 count else falls (.loopneJb b d8) count)) ∧
  (∀ (b : Bound) (s : State) (d : Word) (e : Rm) (rel : Half),
     let relz : Word := nextEip b s + (if b.osz = .s16 then (d.setWidth 16 : Half).signExtend 32 else d)
     let calls := fun (i : Instr) (t : Word) =>
       ((target b.osz t).toNat ≤ s.cs.limit.toNat → ∀ u, s.push b.osz (nextEip b s) = .ok u →
         exec i s = .next (doneAs .call s { u with eip := target b.osz t })) ∧
       (s.cs.limit.toNat < (target b.osz t).toNat → exec i s =
         if s.pe = true then deliverFault s (.gp 0#32) else .refused .realModeLimit)
     calls (.callJz b d) relz ∧
     (∀ v, s.readLoc b.osz.width (s.loc b e) = .ok v → calls (.callEv b e) (v.setWidth 32)) ∧
     (∀ v, StackHolds s b.osz 0 v → v.toNat ≤ s.cs.limit.toNat →
       exec (.ret b) s = .next (doneAs .ret s { popped s (slots b.osz 1) with eip := v }) ∧
       exec (.retIw b rel) s = .next (doneAs .ret s { popped s (slots b.osz 1 + rel.setWidth 32) with eip := v })))

/-- In real mode a far JMP, CALL, RET and IRET load CS with base = selector * 16 and EIP, and refuse offsets past the
limit (R920, R921, R922, R923, R924, R925, R929, R930, R931, R950, R960, R270). That the stored bytes, a CALL's own
pushes among them, are settled at the end is log 10; that the slots of a frame wrap at the width of SS.db is log 11;
that IRET ends with RF 0 is log 9. -/
def Obligations.FarTransfersReal : Prop :=
  ∀ (b : Bound) (s : State) (off : Word) (sel rel : Half), s.pe = false →
    let cs : SegCache := { s.cs with selector := sel, base := (sel.setWidth 32 : Word) <<< 4, valid := true }
    let o := target b.osz off
    (o.toNat ≤ s.cs.limit.toNat →
      (exec (.jmpAp b off sel) s = .next (doneAs .unknownTarget s { s with cs := cs, eip := o })) ∧
      (∀ t, s.pushAll b.osz [slot b.osz s.drawHalf2 s.cs.selector, nextEip b s] = .ok t →
        exec (.callAp b off sel) s = .next (doneAs .call s { t with cs := cs, eip := o })) ∧
      (∀ m : Addr, s.readFarPtr b m = .ok (off, sel) →
        exec (.jmpMp b m) s = .next (doneAs .unknownTarget s { s with cs := cs, eip := o }) ∧
        (∀ t, s.pushAll b.osz [slot b.osz s.drawHalf2 s.cs.selector, nextEip b s] = .ok t →
          exec (.callMp b m) s = .next (doneAs .call s { t with cs := cs, eip := o }))) ∧
      (∀ x, StackHolds s b.osz 0 off → StackHolds s b.osz 1 x → x.setWidth 16 = sel →
        exec (.retf b) s = .next (doneAs .ret s { popped s (slots b.osz 2) with cs := cs, eip := o }) ∧
        exec (.retfIw b rel) s
          = .next (doneAs .ret s { popped s (slots b.osz 2 + rel.setWidth 32) with cs := cs, eip := o }) ∧
        (∀ fl, StackHolds s b.osz 2 fl → exec (.iret b) s = .next (doneAs .ret s { popped s (slots b.osz 3) with
          cs := cs, eip := o, nmiBlocked := false
          flags := s.flags.setImage fl (if b.osz = .s32 then 0x00257FD5#32 else 0x00007FD5#32) })))) ∧
    (s.cs.limit.toNat < o.toNat →
      let no := fun (i : Instr) => exec i s = .refused .realModeLimit
      no (.jmpAp b off sel) ∧ (∀ m : Addr, s.readFarPtr b m = .ok (off, sel) → no (.jmpMp b m)) ∧
      (∀ t, s.pushAll b.osz [slot b.osz s.drawHalf2 s.cs.selector, nextEip b s] = .ok t →
        no (.callAp b off sel) ∧ ∀ m : Addr, s.readFarPtr b m = .ok (off, sel) → no (.callMp b m)) ∧
      (∀ x, StackHolds s b.osz 0 off → StackHolds s b.osz 1 x → no (.retf b) ∧ no (.retfIw b rel) ∧
        ∀ fl, StackHolds s b.osz 2 fl → no (.iret b)))

/-- In protected mode a far JMP or CALL to a code segment passes its checks and loads CS with CPL unchanged (R240,
R247, R920, R921, R922, R923, R929, R930, R931, R270). That a CALL's own pushes and the accessed-bit store are settled
at the end is log 10; that stack slots wrap and the selector of a far pointer lies at an offset cut to the address
size is log 11. -/
def Obligations.FarTransfersProtected : Prop :=
  ∀ (b : Bound) (s : State) (off : Word) (sel : Half), s.pe = true →
    let o := target b.osz off
    let code : Word := (sel &&& 0xFFFC#16).setWidth 32
    let both := fun (r : Machine.Result) => exec (.jmpAp b off sel) s = r ∧ exec (.callAp b off sel) s = r ∧
      ∀ m : Addr, s.readFarPtr b m = .ok (off, sel) → exec (.jmpMp b m) s = r ∧ exec (.callMp b m) s = r
    (isNull sel = true → both (deliverFault s (.gp 0#32))) ∧
    (isNull sel = false → s.descAddr sel = none → both (deliverFault s (.gp code))) ∧
    (∀ addr d, Names s sel addr d →
      (FarCodeOk s sel d → o ≤ d.limit →
        (∀ t, s.setAccessed addr d = .ok t →
          exec (.jmpAp b off sel) s = .next (doneAs .unknownTarget s { t with cs := loadedCS sel d s.cpl, eip := o }) ∧
          (∀ m : Addr, s.readFarPtr b m = .ok (off, sel) → exec (.jmpMp b m) s
            = .next (doneAs .unknownTarget s { t with cs := loadedCS sel d s.cpl, eip := o }))) ∧
        (∀ t u, s.pushAll b.osz [slot b.osz s.drawHalf2 s.cs.selector, nextEip b s] = .ok t → t.setAccessed addr d = .ok u →
          exec (.callAp b off sel) s = .next (doneAs .call s { u with cs := loadedCS sel d s.cpl, eip := o }) ∧
          (∀ m : Addr, s.readFarPtr b m = .ok (off, sel) → exec (.callMp b m) s
            = .next (doneAs .call s { u with cs := loadedCS sel d s.cpl, eip := o })))) ∧
      (d.s = true → d.type.getLsbD 3 = true → d.p = false →
        (if d.type.getLsbD 2 = true then d.dpl ≤ s.cpl else rpl sel ≤ s.cpl ∧ d.dpl = s.cpl) →
        both (deliverFault s (.np code))) ∧
      (d.s = false → d.type ∈ ([0x1, 0x3, 0x5, 0x9, 0xB] : List (BitVec 4)) → both (.refused .taskSwitch)))

/-- A far CALL through a call gate enters the gate's target, at a more privileged level on the stack the TSS names; a
JMP never changes privilege (R246, R929, R940, R941, R942, R270). That the pushes and the accessed bits are settled at
the end is log 10; that parameter and stack slots wrap at the width of SS.db is log 11. -/
def Obligations.CallGates : Prop :=
  ∀ (b : Bound) (s : State) (off : Word) (sel : Half) (ga : Word) (g t : Desc) (addr : Word), s.pe = true →
    Names s sel ga g → GateOk s sel g t addr →
    let z := g.gateSize
    let ts := g.gateSelector
    let jumps := fun (r : Machine.Result) => exec (.jmpAp b off sel) s = r ∧
      ∀ m : Addr, s.readFarPtr b m = .ok (off, sel) → exec (.jmpMp b m) s = r
    let calls := fun (r : Machine.Result) => exec (.callAp b off sel) s = r ∧
      ∀ m : Addr, s.readFarPtr b m = .ok (off, sel) → exec (.callMp b m) s = r
    (t.type.getLsbD 2 = true ∨ t.dpl = s.cpl →
      (∀ u, s.setAccessed addr t = .ok u →
        jumps (.next (doneAs .unknownTarget s { u with cs := loadedCS ts t s.cpl, eip := g.gateOffset }))) ∧
      (∀ u v, s.pushAll z [slot z s.drawHalf2 s.cs.selector, nextEip b s] = .ok u → u.setAccessed addr t = .ok v →
        calls (.next (doneAs .call s { v with cs := loadedCS ts t s.cpl, eip := g.gateOffset })))) ∧
    (t.type.getLsbD 2 = false → t.dpl < s.cpl →
      jumps (deliverFault s (.gp ((ts &&& 0xFFFC#16).setWidth 32))) ∧
      ∀ ss1 esp1 saddr d ps u v x, s.stackFromTSS t.dpl 0#32 = .ok (ss1, esp1) → StackOk s ss1 t.dpl saddr d →
        s.readParams z 0#32 g.gateCount = .ok ps → s.setAccessed saddr d = .ok u →
        (({ u with ss := .ofDesc ss1 d, cpl := t.dpl } : State).setSp esp1).pushAll z
          ([slot z s.drawHalf s.ss.selector, stackAt s 0#32] ++ ps.reverse ++ [slot z s.drawHalf2 s.cs.selector, nextEip b s])
          = .ok v →
        v.setAccessed addr t = .ok x →
          calls (.next (doneAs .call s { x with cs := loadedCS ts t t.dpl, cpl := t.dpl, eip := g.gateOffset })))

/-- A protected-mode RET far or IRET returns to the same or an outer level, popping the outer stack and nulling data
segments below it (R253, R924, R925, R929, R950, R961, R270). That IRET ends with RF 0 is log 9; that the accessed-bit
stores are settled at the end is log 10; that the slots of the frame wrap at the width of SS.db is log 11. -/
def Obligations.FarReturnsProtected : Prop :=
  ∀ (b : Bound) (s : State) (ip x : Word) (rel : Half) (addr : Word) (d : Desc), s.pe = true →
    StackHolds s b.osz 0 ip → StackHolds s b.osz 1 x → ReturnOk s (x.setWidth 16) addr d → ip ≤ d.limit →
    let sel : Half := x.setWidth 16
    let out := rpl sel
    let nulls := fun (u : State) => ({ u with
      es := u.es.nulled out, ds := u.ds.nulled out, fs := u.fs.nulled out, gs := u.gs.nulled out } : State)
    (out = s.cpl → ∀ t, s.setAccessed addr d = .ok t →
      let u : State := { t with cs := loadedCS sel d s.cpl, eip := ip }
      exec (.retf b) s = .next (doneAs .ret s (popped u (slots b.osz 2))) ∧
      exec (.retfIw b rel) s = .next (doneAs .ret s (popped u (slots b.osz 2 + rel.setWidth 32))) ∧
      (∀ fl, s.flags.nt = false → StackHolds s b.osz 2 fl → ¬(b.osz = .s32 ∧ fl.getLsbD 17 = true ∧ s.cpl = 0#2) →
        exec (.iret b) s = .next (doneAs .ret s (popped { u with
          flags := s.flags.setImage fl (s.iretMask b.osz), nmiBlocked := false } (slots b.osz 3))))) ∧
    (s.cpl < out → ∀ esp2 y saddr sd t v, StackOk s (y.setWidth 16) out saddr sd → s.setAccessed addr d = .ok t →
      ({ t with cs := loadedCS sel d out, cpl := out } : State).setAccessed saddr sd = .ok v →
      let u : State := { v with eip := ip, ss := .ofDesc (y.setWidth 16) sd }
      (StackHolds s b.osz 2 esp2 → StackHolds s b.osz 3 y → exec (.retf b) s = .next (doneAs .ret s (nulls (u.setSp esp2)))) ∧
      (s.segRead .ss (stackAt s (slots b.osz 2 + rel.setWidth 32)) b.osz.bytes = .ok esp2.toNat →
        s.segRead .ss (stackAt s (slots b.osz 3 + rel.setWidth 32)) b.osz.bytes = .ok y.toNat →
        exec (.retfIw b rel) s = .next (doneAs .ret s (nulls (u.setSp (esp2 + rel.setWidth 32))))) ∧
      (∀ fl, s.flags.nt = false → StackHolds s b.osz 2 fl → ¬(b.osz = .s32 ∧ fl.getLsbD 17 = true ∧ s.cpl = 0#2) →
        StackHolds s b.osz 3 esp2 → StackHolds s b.osz 4 y → exec (.iret b) s = .next (doneAs .ret s (nulls (({ u with
          flags := s.flags.setImage fl (s.iretMask b.osz), nmiBlocked := false } : State).setSp esp2)))))

/-- Delivery enters the handler of its vector: the saved registers are pushed, CS:EIP come from the table, the flags
change as stated (R1300, R1301, R1303, R1310, R1311, R1312, R1313, R1314, R1315, R1316, R1317, R270). That the stored
bytes are settled when a delivery begins, so that its own pushes are in the set afterwards, is log 10; that real-mode
delivery clears NT too, by R130 beside the list of R1312, is log 28; the order of an accessed bit and a later fault is
log 23; upper halves of selector slots are draws, log 3. -/
def Obligations.HandlerEntry : Prop :=
  (∀ (s : State) (e : Event) (eip : Word) (u : State), Enters s e eip u → deliver s e eip = .next u) ∧
  (∀ (s : State) (code lin : Word) (u : State),
     let s' : State := { s with classOut := some .fault }
     (∀ p ∈ ([(.de, 0, none), (.br, 5, none), (.ud, 6, none), (.nm, 7, none), (.ts code, 10, some code),
         (.np code, 11, some code), (.ss code, 12, some code), (.gp code, 13, some code), (.ac, 17, some 0)] : List
         (Exc × Byte × Option Word)),
       Enters s' ⟨p.2.1, .fault, p.2.2⟩ s.eip u → deliverFault s p.1 = .next u) ∧
     (Enters { s' with cr2 := lin } ⟨14, .fault, some code⟩ s.eip u → deliverFault s (.pf lin code) = .next u))

/-- A vector outside the IDT, a wrong gate, an INT gate below CPL and an absent gate raise the faults of R1313 with
the vector in the code (R1305, R1306, R1312, R1313, R1320). That the gate-privilege fault of INT n is kept apart, to
be delivered with EIP at the INT, is log 13. -/
def Obligations.GateFaults : Prop :=
  ∀ (s : State) (e : Event) (eip : Word) (g : Desc),
    let v := e.vector.toNat
    let x : Nat := if e.kind = .soft then 0 else 1
    (s.pe = false → s.idtr.limit.toNat < 4 * v + 3 → s.tryDeliver e eip = .error (.raise (.gp 0#32))) ∧
    (s.pe = true → s.idtr.limit.toNat < 8 * v + 7 →
      s.tryDeliver e eip = .error (.raise (.gp (BitVec.ofNat 32 (8 * v + 2 + x))))) ∧
    (s.pe = true → 8 * v + 7 ≤ s.idtr.limit.toNat → s.readDesc (s.idtr.base + e.vector.setWidth 32 * 8#32) = .ok g →
      let gate := g.s = false ∧ g.type ∈ ([0x5, 0x6, 0x7, 0xE, 0xF] : List (BitVec 4))
      (¬gate → s.tryDeliver e eip = .error (.raise (.gp (BitVec.ofNat 32 (8 * v + 2 + x))))) ∧
      (gate → e.kind = .soft → g.dpl < s.cpl → s.tryDeliver e eip = .error (.raise (.gateDpl (BitVec.ofNat 32 (8 * v + 2))))) ∧
      (gate → ¬(e.kind = .soft ∧ g.dpl < s.cpl) → g.p = false →
        s.tryDeliver e eip = .error (.raise (.np (BitVec.ofNat 32 (8 * v + 2 + x))))) ∧
      (gate → ¬(e.kind = .soft ∧ g.dpl < s.cpl) → g.p = true → g.type = 0x5#4 →
        s.tryDeliver e eip = .error (.refuse .taskSwitch)))

/-- A fault inside a delivery becomes a double fault, is delivered in its place, or shuts the machine down, by the
classes of R1331 (R247, R1303, R1310, R1315, R1320, R1330, R1331). That shutdown clears the delivery record is log 15;
that of a faulting delivery's own writes only the accessed bit of the new stack's descriptor stays is log 23; the
saved EIP of a fault inside INT n is log 13; that the chain of deliveries has a bound is log 14. -/
def Obligations.DoubleFaults : Prop :=
  (∀ (s : State) (e : Event) (eip : Word) (x : Exc) (n : Nat),
    let s1 : State := { s with halted := false, smcDirty := [], delivering := some e.cls }
    s1.tryDeliver e eip = .error (.raise x) →
    let s2 := (s1.keepAccessed e).noteFault x
    let saved := match x with
      | .gateDpl _ => s.eip
      | _ => eip
    let exn : Bool := decide (e.kind = .fault ∨ e.kind = .trap)
    let contributory := fun (v : Byte) => v ∈ ([0, 10, 11, 12, 13] : List Byte)
    (exn = true ∧ e.vector = 8 → deliverN (n + 1) s e eip = .next { s2 with shutdown := true, delivering := none }) ∧
    (exn = true ∧ (contributory e.vector ∧ contributory x.event.vector ∨
        e.vector = 14 ∧ (contributory x.event.vector ∨ x.event.vector = 14)) →
      deliverN (n + 1) s e eip = deliverN n s2 ⟨8, .fault, some 0#32⟩ saved) ∧
    (¬(exn = true ∧ (e.vector = 8 ∨ contributory e.vector ∧ contributory x.event.vector ∨
        e.vector = 14 ∧ (contributory x.event.vector ∨ x.event.vector = 14))) →
      deliverN (n + 1) s e eip = deliverN n s2 x.event saved) ∧
    (∀ lin err, x = .pf lin err → s2.cr2 = lin)) ∧
  (∀ (s : State) (e : Event),
    (s.pe = false → s.keepAccessed e = s) ∧
    (s.keepAccessed e = s ∨ ∃ saddr d, s.setAccessed saddr d = .ok (s.keepAccessed e)) ∧
    (∀ g t addr, s.pe = true → VectorOk s e g t addr →
      (t.type.getLsbD 2 = true ∨ t.dpl = s.cpl → s.keepAccessed e = s) ∧
      (t.type.getLsbD 2 = false → t.dpl < s.cpl → ∀ ss1 esp1 saddr d u,
        s.stackFromTSS t.dpl e.ext = .ok (ss1, esp1) → StackOk s ss1 t.dpl saddr d → s.setAccessed saddr d = .ok u →
        s.checkPushes (.ofDesc ss1 d) (.ss ((ss1 &&& 0xFFFC#16).setWidth 32 + e.ext)) t.dpl g.gateSize
          (stackStep d.db esp1 0#32) (5 + e.err.toList.length) = .ok () → s.keepAccessed e = u)))

/-- INT n, INT3 and INTO with OF enter their handlers with EIP after them; UD2 and RSM enter vector 6 with EIP at them
(R470, R970, R971, R972, R1170, R1173, R1320). What Enters rests on is that of HandlerEntry: logs 10, 28 and 3. That a
trap postponed by MOV SS stays pending through such an entry is log 29. -/
def Obligations.SoftwareInterrupts : Prop :=
  ∀ (b : Bound) (s : State) (v : Byte) (u : State),
    let s' : State := { s with classOut := some .fault }
    (Enters s' ⟨v, .soft, none⟩ (nextEip b s) u → exec (.intIb b v) s = .next u) ∧
    (Enters s' ⟨3, .soft, none⟩ (nextEip b s) u → exec (.int3 b) s = .next u) ∧
    (s.flags.of = true → Enters s' ⟨4, .soft, none⟩ (nextEip b s) u → exec (.into b) s = .next u) ∧
    (s.flags.of = false → exec (.into b) s = .next (done b s s)) ∧
    (Enters s' ⟨6, .fault, none⟩ s.eip u → exec (.ud2 b) s = .next u ∧ exec (.rsm b) s = .next u)

/-- BOUND completes when the index is within its bounds and raises #BR when it is not (R980). The second bound is read
at an offset cut to the address size: log 11. The upper bound is a free parameter: log 24. -/
def Obligations.BoundCheck : Prop :=
  ∀ (b : Bound) (g : BitVec 3) (m : Addr) (s : State) (lo hi : BitVec b.osz.width.bits),
    s.readLoc b.osz.width (.mem (m.segment b) (m.offset s.gpr)) = .ok lo →
    s.readLoc b.osz.width (.mem (m.segment b) (indexOf b (m.offset s.gpr + BitVec.ofNat 32 b.osz.bytes))) = .ok hi →
    let i := (s.reg b.osz.width g).toInt
    (lo.toInt ≤ i → i < hi.toInt → exec (.boundGvMa b g m) s = .next (done b s s)) ∧
    (i < lo.toInt ∨ hi.toInt < i → exec (.boundGvMa b g m) s = deliverFault s .br) ∧
    (lo.toInt ≤ i → i = hi.toInt → exec (.boundGvMa b g m) s =
      if Config.boundUpperInclusive = true then .next (done b s s) else deliverFault s .br)

/-- Every string instruction moves, compares, scans, loads or stores one element and steps its pointers (R1000, R1001,
R1002, R1003, R1010, R1011, R1012, R1013, R1014, R270). That a repeated element of class taken ends with the stored
bytes, its own among them, settled is log 10. -/
def Obligations.StringInstructions : Prop :=
  (∀ (b : Bound) (s : State),
     let src := b.seg.getD .ds
     let si := indexOf b s.gpr.esi
     let di := indexOf b s.gpr.edi
     let both := fun (w : Width) (t : State) => stepped b w (stepped b w t 6 s.gpr.esi) 7 s.gpr.edi
     let ends := fun (f : Flags) => if b.rep = .repne then f.zf else !f.zf
     (∀ p ∈ ([(.movsb b, .w8), (.movsv b, b.osz.width)] : List (Instr × Width)), ∀ v t,
       s.readLoc p.2 (.mem src si) = .ok v → s.writeLoc p.2 (.mem .es di) v = .ok t →
       StringRuns p.1 b s (both p.2 t) false) ∧
     (∀ p ∈ ([(.cmpsb b, .w8), (.cmpsv b, b.osz.width)] : List (Instr × Width)), ∀ x y,
       s.readLoc p.2 (.mem src si) = .ok x → s.readLoc p.2 (.mem .es di) = .ok y →
       StringRuns p.1 b s (both p.2 (s.setFlags (s.flags.sub x y false))) (ends (s.flags.sub x y false))) ∧
     (∀ p ∈ ([(.scasb b, .w8), (.scasv b, b.osz.width)] : List (Instr × Width)), ∀ y,
       s.readLoc p.2 (.mem .es di) = .ok y →
       StringRuns p.1 b s (stepped b p.2 (s.setFlags (s.flags.sub (s.reg p.2 0) y false)) 7 s.gpr.edi)
         (ends (s.flags.sub (s.reg p.2 0) y false))) ∧
     (∀ p ∈ ([(.lodsb b, .w8), (.lodsv b, b.osz.width)] : List (Instr × Width)), ∀ v,
       s.readLoc p.2 (.mem src si) = .ok v →
       StringRuns p.1 b s (stepped b p.2 (s.setReg p.2 0 v) 6 s.gpr.esi) false) ∧
     (∀ p ∈ ([(.stosb b, .w8), (.stosv b, b.osz.width)] : List (Instr × Width)), ∀ t,
       s.writeLoc p.2 (.mem .es di) (s.reg p.2 0) = .ok t → StringRuns p.1 b s (stepped b p.2 t 7 s.gpr.edi) false)) ∧
  (∀ (b : Bound) (s : State), b.rep ≠ .none → s.count b = 0#32 →
     ∀ i ∈ ([.movsb b, .movsv b, .cmpsb b, .cmpsv b, .stosb b, .stosv b, .lodsb b, .lodsv b, .scasb b, .scasv b, .insb b,
         .insv b, .outsb b, .outsv b] : List Instr),
       exec i s = .next (doneAs .notTaken s { s with eip := nextEip b s }))

/-- IN, OUT, INS and OUTS complete when the port access is allowed: by real mode, CPL <= IOPL, or the bitmap of the
TSS (R1015, R1016, R1020, R1021, R1022, R1023, R1030, R202, R263, R270). That a repeated element of class taken ends
with the stored bytes, its own among them, settled is log 10. A port read is a draw: log 3. -/
def Obligations.PortAccess : Prop :=
  (∀ (s : State) (p : Half) (n : Nat), 1 ≤ n →
     (s.ioCheck p n = .ok () ↔ PortAllowed s p n) ∧
     (0xFFFF < p.toNat + n - 1 → s.ioCheck p n = .error (.refuse .ioWrap))) ∧
  (∀ (b : Bound) (s : State) (imm : Byte),
     let dx : Half := s.gpr.edx.setWidth 16
     let port : Half := imm.setWidth 16
     let got := fun (w : Width) => (s.drawWord.setWidth w.bits : BitVec w.bits)
     let put := fun (p : Half) (w : Width) (v : BitVec w.bits) =>
       ({ s with ioWrites := s.ioWrites ++ [⟨p, w.bytes, v.setWidth 32⟩] } : State)
     let denied := fun (i : Instr) (p : Half) (w : Width) =>
       (∀ x, s.ioCheck p w.bytes = .error (.raise x) → exec i s = deliverFault s x) ∧
       (∀ r, s.ioCheck p w.bytes = .error (.refuse r) → exec i s = .refused r)
     (∀ p ∈ ([(.inAlIb b imm, port, .w8), (.inEaxIb b imm, port, b.osz.width), (.inAlDx b, dx, .w8),
         (.inEaxDx b, dx, b.osz.width)] : List (Instr × Half × Width)),
       (s.ioCheck p.2.1 p.2.2.bytes = .ok () → exec p.1 s = .next (done b s (s.setReg p.2.2 0 (got p.2.2)))) ∧
       denied p.1 p.2.1 p.2.2) ∧
     (∀ p ∈ ([(.outIbAl b imm, port, .w8), (.outIbEax b imm, port, b.osz.width), (.outDxAl b, dx, .w8),
         (.outDxEax b, dx, b.osz.width)] : List (Instr × Half × Width)),
       (s.ioCheck p.2.1 p.2.2.bytes = .ok () → exec p.1 s = .next (done b s (put p.2.1 p.2.2 (s.reg p.2.2 0)))) ∧
       denied p.1 p.2.1 p.2.2) ∧
     (∀ p ∈ ([(.insb b, .w8), (.insv b, b.osz.width)] : List (Instr × Width)), ∀ t, s.ioCheck dx p.2.bytes = .ok () →
       s.writeLoc p.2 (.mem .es (indexOf b s.gpr.edi)) (got p.2) = .ok t →
       StringRuns p.1 b s (stepped b p.2 t 7 s.gpr.edi) false) ∧
     (∀ p ∈ ([(.outsb b, .w8), (.outsv b, b.osz.width)] : List (Instr × Width)), ∀ v, s.ioCheck dx p.2.bytes = .ok () →
       s.readLoc p.2 (.mem (b.seg.getD .ds) (indexOf b s.gpr.esi)) = .ok v →
       StringRuns p.1 b s (stepped b p.2 (put dx p.2 v) 6 s.gpr.esi) false) ∧
     (b.rep = .none ∨ s.count b ≠ 0#32 →
       ∀ p ∈ ([(.insb b, .w8), (.insv b, b.osz.width), (.outsb b, .w8), (.outsv b, b.osz.width)] : List (Instr × Width)),
         denied p.1 dx p.2))

/-- CLC, STC, CMC, CLD, STD, CLI, STI and HLT write their one bit; CLI and STI need CPL <= IOPL, HLT CPL 0 (R430,
R1100, R1101, R1102, R1103, R1104, R1105, R1106, R1110, R1341). -/
def Obligations.FlagControl : Prop :=
  ∀ (b : Bound) (s : State),
    let f := s.flags
    exec (.clc b) s = .next (done b s (s.setFlags { f with cf := false })) ∧
    exec (.stc b) s = .next (done b s (s.setFlags { f with cf := true })) ∧
    exec (.cmc b) s = .next (done b s (s.setFlags { f with cf := !f.cf })) ∧
    exec (.cld b) s = .next (done b s (s.setFlags { f with df := false })) ∧
    exec (.std b) s = .next (done b s (s.setFlags { f with df := true })) ∧
    (s.pe = false ∨ s.cpl ≤ f.iopl → exec (.cli b) s = .next (done b s (s.setFlags { f with ifl := false })) ∧
      exec (.sti b) s = .next (done b s { s with
        flags := { f with ifl := true }, intShadow := s.intShadow || !f.ifl })) ∧
    (s.pe = true → f.iopl < s.cpl → exec (.cli b) s = deliverFault s (.gp 0#32) ∧
      exec (.sti b) s = deliverFault s (.gp 0#32)) ∧
    (s.pe = false ∨ s.cpl = 0#2 → exec (.hlt b) s
      = .next (doneAs .unknownTarget s { s with eip := nextEip b s, halted := true })) ∧
    (s.pe = true → s.cpl ≠ 0#2 → exec (.hlt b) s = deliverFault s (.gp 0#32))

/-- At CPL > 0 in protected mode the privileged instructions raise #GP(0) before anything else (R1361, R1351). -/
def Obligations.PrivilegedInstructions : Prop :=
  ∀ (b : Bound) (s : State) (e : Rm) (m : Addr) (r d : BitVec 3) (c : ControlReg), s.pe = true → s.cpl ≠ 0#2 →
    (∀ i ∈ ([.hlt b, .lgdtMs b m, .lidtMs b m, .lldtEw b e, .ltrEw b e, .lmswEw b e, .clts b, .movCdRd b c r,
        .movRdCd b r c, .invd b, .wbinvd b, .invlpgM b m, .rdmsr b, .wrmsr b] : List Instr),
      exec i s = deliverFault s (.gp 0#32)) ∧
    (s.cr4.getLsbD 3 = false ∨ (d ≠ 4#3 ∧ d ≠ 5#3) → exec (.movDdRd b d r) s = deliverFault s (.gp 0#32) ∧
      exec (.movRdDd b r d) s = deliverFault s (.gp 0#32)) ∧
    (s.cr4.getLsbD 2 = true → exec (.rdtsc b) s = deliverFault s (.gp 0#32))

/-- SGDT, SIDT, LGDT, LIDT, LLDT, LTR, SLDT and STR complete with the table registers they name (R352, R1120, R1121,
R1122, R1123, R1124, R1125, R1126, R1127, R270). The base part lies at offset + 2 cut to the address size: log 11.
That LLDT of a null selector settles the stored bytes is log 10. The real-mode #UD of exec is log 8. -/
def Obligations.DescriptorTables : Prop :=
  ∀ (b : Bound) (s : State) (e : Rm) (m : Addr),
    let seg := m.segment b
    let off := m.offset s.gpr
    let off2 := indexOf b (off + 2#32)
    let settled := ({ s with smcDirty := [] } : State)
    (s.pe = false ∨ s.cpl = 0#2 → ∀ l v, s.segRead seg off 2 = .ok l → s.segRead seg off2 4 = .ok v →
      let t : TableReg := ⟨if b.osz = .s16 then BitVec.ofNat 32 (v % 2 ^ 24) else BitVec.ofNat 32 v, BitVec.ofNat 16 l⟩
      exec (.lgdtMs b m) s = .next (done b s { settled with gdtr := t }) ∧
      exec (.lidtMs b m) s = .next (done b s { settled with idtr := t })) ∧
    (∀ p ∈ ([(.sgdtMs b m, s.gdtr), (.sidtMs b m, s.idtr)] : List (Instr × TableReg)), ∀ base : Word,
      (∀ j < (if b.osz = .s16 then 24 else 32), base.getLsbD j = p.2.base.getLsbD j) →
      (b.osz = .s16 → base.extractLsb' 24 8 = s.drawHalf.setWidth 8) → ∀ t u,
      s.segWrite seg off 2 p.2.limit.toNat = .ok t → t.segWrite seg off2 4 base.toNat = .ok u →
      exec p.1 s = .next (done b s u)) ∧
    (s.pe = true → s.cpl = 0#2 → ∀ sel, s.readLoc .w16 (s.loc b e) = .ok sel →
      (isNull sel = true → exec (.lldtEw b e) s = .next (done b s { settled with
        ldtr := { s.ldtr with selector := sel, valid := false } })) ∧
      (∀ addr d, Names s sel addr d → BitVec.getLsbD sel 2 = false → d.s = false → d.p = true →
        (d.type = 0x2#4 → exec (.lldtEw b e) s = .next (done b s { settled with
          ldtr := ⟨sel, d.base, d.limit, d.type, true, true⟩ })) ∧
        (d.type = 0x1#4 ∨ d.type = 0x9#4 → ∀ t, s.memWrite false (addr + 5#32) 1 (d.rights ||| 2#8).toNat = .ok t →
          exec (.ltrEw b e) s = .next (done b s { t with
            smcDirty := [], tr := ⟨sel, d.base, d.limit, d.type ||| 2#4, true, true⟩ })))) ∧
    (∀ p ∈ ([(.sldtEw b, s.ldtr.selector), (.strEw b, s.tr.selector)] : List ((Rm → Instr) × Half)),
      (s.pe = false → exec (p.1 e) s = deliverFault s .ud) ∧
      (s.pe = true → (∀ r, exec (p.1 (.reg r)) s = .next (done b s (if b.osz = .s16 then s.setReg .w16 r p.2
        else s.setReg .w32 r (s.drawHalf ++ p.2)))) ∧
        (∀ t, s.segWrite seg off 2 p.2.toNat = .ok t → exec (p.1 (.mem m)) s = .next (done b s t)))) ∧
    (s.pe = false → exec (.lldtEw b e) s = deliverFault s .ud ∧ exec (.ltrEw b e) s = deliverFault s .ud)

/-- MOV to and from CR0, CR2, CR3 and CR4, LMSW, SMSW and CLTS complete with the values and checks of their rules
(R17, R140, R143, R145, R281, R1128, R1129, R1130, R1131, R1133). The form of the paging signals, and that LMSW and
CLTS are no write of CR0.PG, is log 21. That these moves settle the stored bytes, and a MOV from a control register
does not, is log 10. Upper halves of 32-bit selector slots are draws: log 3. -/
def Obligations.ControlRegisters : Prop :=
  ∀ (b : Bound) (s : State) (e : Rm) (r : BitVec 3),
    let v := s.gpr.get r
    let free := s.flags.undefined s.flagDraws
    let changed := fun (mask old : Word) => if (old ^^^ v) &&& mask = 0#32 then [] else [PagingSignal.controlChange]
    (s.pe = false ∨ s.cpl = 0#2 →
      (v.getLsbD 31 = true ∧ v.getLsbD 0 = false ∨ v.getLsbD 29 = true ∧ v.getLsbD 30 = false →
        exec (.movCdRd b .cr0 r) s = deliverFault s (.gp 0#32)) ∧
      (¬(v.getLsbD 31 = true ∧ v.getLsbD 0 = false) → ¬(v.getLsbD 29 = true ∧ v.getLsbD 30 = false) →
        exec (.movCdRd b .cr0 r) s = if v &&& 0x1FFAFFC0#32 ≠ 0#32 then .refused .cr0Reserved else .next (done b s { s with
          cr0 := v ||| 0x10#32, flags := free, smcDirty := []
          pagingSignals := s.pagingSignals ++ [.pgWrite (v.getLsbD 31)] ++ changed 0x80010000#32 s.cr0 })) ∧
      exec (.movCdRd b .cr2 r) s = .next (done b s { s with cr2 := v, flags := free, smcDirty := [] }) ∧
      exec (.movCdRd b .cr3 r) s = .next (done b s { s with
        cr3 := v, flags := free, smcDirty := [], pagingSignals := s.pagingSignals ++ [.cr3Write v] }) ∧
      exec (.movCdRd b .cr4 r) s = (if v &&& 0xFFFFFE00#32 ≠ 0#32 then deliverFault s (.gp 0#32)
        else if v &&& 3#32 ≠ 0#32 then .refused .vmeUnsupported else .next (done b s { s with
          cr4 := v, flags := free, smcDirty := [], pagingSignals := s.pagingSignals ++ changed 0xB0#32 s.cr4 })) ∧
      (∀ p ∈ ([(.cr0, s.cr0), (.cr2, s.cr2), (.cr3, s.cr3), (.cr4, s.cr4)] : List (ControlReg × Word)),
        exec (.movRdCd b r p.1) s = .next (done b s ((s.setReg .w32 r p.2).setFlags free))) ∧
      (∀ x, s.readLoc .w16 (s.loc b e) = .ok x → ∃ c : Word, exec (.lmswEw b e) s
          = .next (done b s { s with cr0 := c, smcDirty := [] }) ∧
        ∀ j < 32, c.getLsbD j = if j = 0 then s.cr0.getLsbD 0 || BitVec.getLsbD x 0
          else if j < 4 then BitVec.getLsbD x j else s.cr0.getLsbD j) ∧
      (∃ c : Word, exec (.clts b) s = .next (done b s { s with cr0 := c, smcDirty := [] }) ∧
        ∀ j < 32, c.getLsbD j = (s.cr0.getLsbD j && decide (j ≠ 3)))) ∧
    (∀ q, exec (.smswEw b (.reg q)) s = .next (done b s (if b.osz = .s16 then s.setReg .w16 q (s.cr0.setWidth 16)
      else s.setReg .w32 q (s.drawHalf ++ (s.cr0.setWidth 16 : Half))))) ∧
    (∀ (a : Addr) t, s.segWrite (a.segment b) (a.offset s.gpr) 2 (s.cr0.toNat % 2 ^ 16) = .ok t →
      exec (.smswEw b (.mem a)) s = .next (done b s t))

/-- MOV to and from DR0 to DR7: DR4 and DR5 alias DR6 and DR7, fixed bits keep, breakpoints are refused (R170, R1132,
R1134). That a MOV to a debug register settles the stored bytes and a MOV from one keeps them is log 10. -/
def Obligations.DebugRegisters : Prop :=
  ∀ (b : Bound) (s : State) (r : BitVec 3),
    let v := s.gpr.get r
    let free := s.flags.undefined s.flagDraws
    let ends := fun (t : State) => Host.Outcome.next (done b s { t with flags := free, smcDirty := [] })
    (s.pe = false ∨ s.cpl = 0#2 →
      exec (.movDdRd b 0 r) s = ends { s with dr0 := v } ∧ exec (.movDdRd b 1 r) s = ends { s with dr1 := v } ∧
      exec (.movDdRd b 2 r) s = ends { s with dr2 := v } ∧ exec (.movDdRd b 3 r) s = ends { s with dr3 := v } ∧
      (∀ d ∈ ([4, 6] : List (BitVec 3)), (d = 6#3 ∨ s.cr4.getLsbD 3 = false) →
        exec (.movDdRd b d r) s = ends { s with dr6 := (v &&& 0xE00F#32) ||| 0xFFFF0FF0#32 }) ∧
      (∀ d ∈ ([5, 7] : List (BitVec 3)), (d = 7#3 ∨ s.cr4.getLsbD 3 = false) → exec (.movDdRd b d r) s =
        if v &&& 0x20FF#32 ≠ 0#32 then .refused .hwBreakpoint
        else ends { s with dr7 := (v &&& 0xFFFF03FF#32) ||| 0x400#32 }) ∧
      (∀ p ∈ ([(0, s.dr0), (1, s.dr1), (2, s.dr2), (3, s.dr3), (4, s.dr6), (5, s.dr7), (6, s.dr6), (7, s.dr7)] : List
          (BitVec 3 × Word)), ¬(s.cr4.getLsbD 3 = true ∧ (p.1 = 4#3 ∨ p.1 = 5#3)) →
        exec (.movRdDd b r p.1) s = .next (done b s ((s.setReg .w32 r p.2).setFlags free)))) ∧
    (s.cr4.getLsbD 3 = true → ∀ d ∈ ([4, 5] : List (BitVec 3)),
      exec (.movDdRd b d r) s = deliverFault s .ud ∧ exec (.movRdDd b r d) s = deliverFault s .ud)

/-- LAR, LSL, VERR, VERW and ARPL complete without a fault for any selector, ZF saying the answer (R352, R1140, R1141,
R1142, R1143, R1144). The real-mode #UD of exec is log 8. -/
def Obligations.SelectorInspection : Prop :=
  ∀ (b : Bound) (s : State) (e : Rm) (g : BitVec 3),
    let zf := fun (t : State) (z : Bool) => t.setFlags { s.flags with zf := z }
    (s.pe = false → ∀ i ∈ ([.larGvEw b g e, .lslGvEw b g e, .verrEw b e, .verwEw b e, .arplEwGw b e g] : List Instr),
      exec i s = deliverFault s .ud) ∧
    (s.pe = true → ∀ sel, s.readLoc .w16 (s.loc b e) = .ok sel →
      (isNull sel = true ∨ s.descAddr sel = none →
        ∀ i ∈ ([.larGvEw b g e, .lslGvEw b g e, .verrEw b e, .verwEw b e] : List Instr),
          exec i s = .next (done b s (zf s false))) ∧
      (∀ addr d, Names s sel addr d →
        let code := d.s = true ∧ d.type.getLsbD 3 = true
        let seen := (code ∧ d.type.getLsbD 2 = true) ∨ Visible s sel d
        let rights : Word := d.raw.extractLsb' 32 32 &&& (if b.osz = .s32 then 0x00F0FF00#32 else 0x0000FF00#32)
        ((d.s = true ∨ d.type ∈ ([0x1, 0x2, 0x3, 0x4, 0x5, 0x9, 0xB, 0xC] : List (BitVec 4))) ∧ seen →
          exec (.larGvEw b g e) s = .next (done b s (zf (s.setReg b.osz.width g (rights.setWidth _)) true))) ∧
        (¬((d.s = true ∨ d.type ∈ ([0x1, 0x2, 0x3, 0x4, 0x5, 0x9, 0xB, 0xC] : List (BitVec 4))) ∧ seen) →
          exec (.larGvEw b g e) s = .next (done b s (zf s false))) ∧
        ((d.s = true ∨ d.type ∈ ([0x1, 0x2, 0x3, 0x9, 0xB] : List (BitVec 4))) ∧ seen →
          exec (.lslGvEw b g e) s = .next (done b s (zf (s.setReg b.osz.width g (d.limit.setWidth _)) true))) ∧
        (¬((d.s = true ∨ d.type ∈ ([0x1, 0x2, 0x3, 0x9, 0xB] : List (BitVec 4))) ∧ seen) →
          exec (.lslGvEw b g e) s = .next (done b s (zf s false))) ∧
        (∃ z : Bool, (z = true ↔ d.s = true ∧ (d.type.getLsbD 3 = true → d.type.getLsbD 1 = true) ∧ seen) ∧
          exec (.verrEw b e) s = .next (done b s (zf s z))) ∧
        (∃ z : Bool, (z = true ↔ d.s = true ∧ d.type.getLsbD 3 = false ∧ d.type.getLsbD 1 = true ∧ Visible s sel d) ∧
          exec (.verwEw b e) s = .next (done b s (zf s z))))) ∧
    (s.pe = true → ∀ d, s.readDst .w16 (s.loc b e) = .ok d →
      (rpl (s.reg .w16 g) ≤ rpl d → exec (.arplEwGw b e g) s = .next (done b s (zf s false))) ∧
      (rpl d < rpl (s.reg .w16 g) → ∃ t x, s.writeLoc .w16 (s.loc b e) x = .ok t ∧ rpl x = rpl (s.reg .w16 g) ∧
        x.extractLsb' 2 14 = d.extractLsb' 2 14 ∧ exec (.arplEwGw b e g) s = .next (done b s (zf t true))))

/-- CPUID, RDTSC, RDMSR, WRMSR, WBINVD, INVLPG and WAIT complete; ESC and INVD trap or are refused as their rules say
(R1150, R1151, R1152, R1153, R1160, R1161, R1162, R1171, R1172). The time-stamp counter is a draw and WRMSR leaves it:
log 16. The form of the INVLPG signal is log 21. CPUID_TABLE is a free parameter: log 24. -/
def Obligations.Identification : Prop :=
  ∀ (b : Bound) (s : State) (m : Addr) (op g : BitVec 3) (e : Rm),
    let settled := ({ s with smcDirty := [] } : State)
    let stamp := ({ s with gpr := { s.gpr with
      edx := s.drawBits.extractLsb' 32 32, eax := s.drawBits.extractLsb' 0 32 } } : State)
    let top := s.pe = false ∨ s.cpl = 0#2
    (∀ a bx c d, Config.cpuidTable s.gpr.eax = (a, bx, c, d) → exec (.cpuid b) s = .next (done b s { settled with
      gpr := { s.gpr with eax := a, ebx := bx, ecx := c, edx := d } })) ∧
    (s.cr4.getLsbD 2 = false ∨ top → exec (.rdtsc b) s = .next (done b s stamp)) ∧
    (top → s.gpr.ecx = 0x10#32 → exec (.rdmsr b) s = .next (done b s stamp) ∧
      exec (.wrmsr b) s = .next (done b s settled)) ∧
    (top → s.gpr.ecx ≠ 0x10#32 → exec (.rdmsr b) s = deliverFault s (.gp 0#32) ∧
      exec (.wrmsr b) s = deliverFault s (.gp 0#32)) ∧
    (top → exec (.wbinvd b) s = .next (done b s settled) ∧ exec (.invd b) s = .refused .invdDataLoss ∧
      exec (.invlpgM b m) s = .next (done b s { settled with
        pagingSignals := s.pagingSignals ++ [.invlpg ((s.seg (m.segment b)).base + m.offset s.gpr)] })) ∧
    (exec (.wait b) s = if s.cr0.getLsbD 3 = true ∧ s.cr0.getLsbD 1 = true then deliverFault s .nm
      else .next (done b s s)) ∧
    (exec (.esc b op g e) s = if s.cr0.getLsbD 2 = true ∨ s.cr0.getLsbD 3 = true then deliverFault s .nm
      else .refused .fpuUnsupported)

/-- A step with no event runs exec of the instruction decoded at EIP, on the state begun with the interrupt shadow
cleared (R19, R110, R230, R231, R354, R1350). The step counter is log 3, one boundary input a step is log 4, the class
output in State is log 17, the record of a postponed trap log 29. -/
def Obligations.StepRunsDecoded : Prop :=
  ∀ s : State, s.input = .quiet → s.shutdown = false → s.pendingTrapDB = false → s.halted = false →
    let begun : State := { s with 
      inputs := s.inputs.tail, tick := s.tick + 1, classOut := none, intShadow := false
      pendingTrapDB := s.trapPostponed, trapPostponed := false }
    (∀ i, decode ⟨s.cs.db, s.pe, s.cr4.getLsbD 3⟩ begun.fetchByte = .ok i → step s = exec i begun) ∧
    (decode ⟨s.cs.db, s.pe, s.cr4.getLsbD 3⟩ begun.fetchByte = .error .ud → step s = deliverFault begun .ud) ∧
    (∀ x, decode ⟨s.cs.db, s.pe, s.cr4.getLsbD 3⟩ begun.fetchByte = .error (.port (.raise x)) →
      step s = deliverFault begun x) ∧
    (∀ k, begun.fetchByte k = if s.cs.limit.toNat < s.eip.toNat + k
      then .error (if s.pe = true then .raise (.gp 0#32) else .refuse .realModeLimit)
      else if (s.cs.base + BitVec.ofNat 32 (s.eip.toNat + k)).toNat ∈ s.smcDirty then .error (.refuse .smcHazard)
      else (begun.phys .fetch (s.cpl == 3#2) (s.cs.base + BitVec.ofNat 32 (s.eip.toNat + k))).map fun p => s.mem.read p)

/-- At a boundary the first of RESET, shutdown, single-step trap, NMI, INTR, halt and the next instruction applies
(R19, R1321, R1322, R1330, R1340, R1341, R1350, R1400). The step counter is log 3, one boundary input a step is log 4,
class none where no instruction runs is log 17, what RESET keeps is log 20, that it adds no paging signal log 21, the
record of a postponed trap log 29. -/
def Obligations.BoundaryEvents : Prop :=
  ∀ s : State,
    let x := s.input
    let c : State := { s with inputs := s.inputs.tail, tick := s.tick + 1, classOut := none }
    (x.reset = true → step s = .next c.resetTo) ∧
    (x.reset = false → s.shutdown = true → step s = .next c) ∧
    (x.reset = false → s.shutdown = false →
      (s.pendingTrapDB = true → step s
        = deliver { c with dr6 := s.dr6 ||| 0x4000#32, pendingTrapDB := false, trapPostponed := false } ⟨1, .trap, none⟩
          s.eip) ∧
      (s.pendingTrapDB = false →
        (x.nmi = true → s.nmiBlocked = false → s.intShadow = false →
          step s = deliver { c with nmiBlocked := true } ⟨2, .nmi, none⟩ s.eip) ∧
        (x.nmi = false ∨ s.nmiBlocked = true ∨ s.intShadow = true →
          (∀ v, x.intr = some v → s.flags.ifl = true → s.intShadow = false →
            step s = deliver c ⟨v, .intr, none⟩ s.eip) ∧
          (x.intr = none ∨ s.flags.ifl = false ∨ s.intShadow = true →
            (s.halted = true → step s = .next c) ∧
            (s.halted = false → step s = runInstruction { c with
              intShadow := false, pendingTrapDB := s.trapPostponed, trapPostponed := false })))))

/-- The state after reset satisfies every invariant of the machine (R134, R140, R143, R160, R170, R195). -/
def Obligations.ResetInvariants : Prop :=
  State.reset.canonical = true ∧ State.reset.legalMode = true ∧ State.reset.debugFixed = true ∧
    State.reset.segmentsShaped = true ∧ State.reset.settled = true

/-- Every step keeps memory and the set of stored addresses in canonical form (R200, R203, R211, R270). -/
def Obligations.StepKeepsCanonical : Prop :=
  ∀ s t : State, s.canonical = true → step s = .next t → t.canonical = true

/-- Every step keeps the mode legal: CPL 0 in real mode, VM clear, paging only with protection, reserved CR0 and CR4
bits clear (R134, R140, R143, R145, R160, R1128, R1131, R1360). -/
def Obligations.StepKeepsLegalMode : Prop :=
  ∀ s t : State, s.legalMode = true → step s = .next t → t.legalMode = true

/-- Every step keeps the fixed debug bits, the shape of CS and SS, and leaves no event half delivered (R151, R170,
R222, R251, R252, R929, R1125, R1132, R1310). That no event is half delivered at shutdown either rests on log 15. -/
def Obligations.StepKeepsFixedState : Prop :=
  ∀ s t : State, step s = .next t →
    (s.debugFixed = true → t.debugFixed = true) ∧ (s.segmentsShaped = true → t.segmentsShaped = true) ∧
    (s.settled = true → t.settled = true)

/-- No instruction at CPL > 0 changes CR0, CR3, CR4, a debug or descriptor-table register, TR or IOPL, or signals the
paging unit (R161, R852, R961, R1105, R1106, R1361). CR2 is left out: a page fault writes it at any CPL (R141, R1303).
That the stored time-stamp counter never changes is log 16; the form of the paging signals is log 21. -/
def Obligations.UnprivilegedIsolation : Prop :=
  ∀ (i : Instr) (s t : State), s.pe = true → s.cpl ≠ 0#2 → exec i s = .next t →
    t.cr0 = s.cr0 ∧ t.cr3 = s.cr3 ∧ t.cr4 = s.cr4 ∧ t.gdtr = s.gdtr ∧ t.idtr = s.idtr ∧ t.ldtr = s.ldtr ∧ t.tr = s.tr ∧
    t.dr0 = s.dr0 ∧ t.dr1 = s.dr1 ∧ t.dr2 = s.dr2 ∧ t.dr3 = s.dr3 ∧ t.dr6 = s.dr6 ∧ t.dr7 = s.dr7 ∧ t.tsc = s.tsc ∧
    t.pagingSignals = s.pagingSignals ∧ t.flags.iopl = s.flags.iopl ∧ t.flags.vif = s.flags.vif ∧
    t.flags.vip = s.flags.vip ∧ (s.flags.iopl < s.cpl → t.flags.ifl = true → s.flags.ifl = true)

/-- CPL falls only by a far CALL or by entering a handler, and rises only by far RET and IRET (R160, R1362). -/
def Obligations.PrivilegeRises : Prop :=
  ∀ (i : Instr) (s t : State), exec i s = .next t →
    (t.cpl < s.cpl → t.classOut = some .fault ∨ ∃ b, (∃ off sel, i = .callAp b off sel) ∨ ∃ m, i = .callMp b m) ∧
    (s.cpl < t.cpl → ∃ b, i = .retf b ∨ i = .iret b ∨ ∃ n, i = .retfIw b n)

/-- What one-destination instructions, compares, register loads and pushes leave unchanged, the address stored to
computed (R211, R223, R326, R400, R840). -/
def Obligations.Frames : Prop :=
  ∀ (b : Bound) (e : Rm) (m : Addr) (g : BitVec 3) (cc : BitVec 4) (imm : Byte) (i : Instr) (s t : State),
    exec i s = .next t → t.classOut = some .none →
    let rest := t = { s with
      gpr := t.gpr, eip := nextEip b s, mem := t.mem, smcDirty := t.smcDirty, classOut := some .none
      pendingTrapDB := s.pendingTrapDB || s.flags.tf
      flags := { s.flags with
        cf := t.flags.cf, pf := t.flags.pf, af := t.flags.af, zf := t.flags.zf, sf := t.flags.sf, of := t.flags.of
        df := t.flags.df, ifl := t.flags.ifl, rf := false } }
    let outside := fun (r : SegReg) (off : Word) (n : Nat) => ∃ ps,
      s.physAll .write (s.cpl == 3#2) ((s.seg r).base + off) n = .ok ps ∧ ∀ a, a ∉ ps → t.mem.read a = s.mem.read a
    let dest := fun (w : Width) (own : BitVec 3 → BitVec 3) => rest ∧
      (∀ r, s.loc b e = .reg r → (∀ a, t.mem.read a = s.mem.read a) ∧ ∀ q, q ≠ own r → t.gpr.get q = s.gpr.get q) ∧
      (∀ r off, s.loc b e = .mem r off → t.gpr = s.gpr ∧ outside r off w.bytes)
    (i ∈ ([
        .addEbGb b e g, .orEbGb b e g, .adcEbGb b e g, .sbbEbGb b e g, .andEbGb b e g, .subEbGb b e g,
        .xorEbGb b e g, .addEbIb b e imm, .orEbIb b e imm, .adcEbIb b e imm, .sbbEbIb b e imm, .andEbIb b e imm,
        .subEbIb b e imm, .xorEbIb b e imm, .rolEbIb b e imm, .rorEbIb b e imm, .rclEbIb b e imm,
        .rcrEbIb b e imm, .shlEbIb b e imm, .shrEbIb b e imm, .sarEbIb b e imm, .rolEbCl b e, .rorEbCl b e,
        .rclEbCl b e, .rcrEbCl b e, .shlEbCl b e, .shrEbCl b e, .sarEbCl b e, .movEbGb b e g, .movEbIb b e imm,
        .incEb b e, .decEb b e, .negEb b e, .notEb b e, .setccEb b cc e] : List (Instr)) → dest .w8 (fun r => if r.toNat < 4 then r else r - 4#3)) ∧
    (i ∈ ([
        .addEvGv b e g, .orEvGv b e g, .adcEvGv b e g, .sbbEvGv b e g, .andEvGv b e g, .subEvGv b e g,
        .xorEvGv b e g, .addEvIbs b e imm, .orEvIbs b e imm, .adcEvIbs b e imm, .sbbEvIbs b e imm,
        .andEvIbs b e imm, .subEvIbs b e imm, .xorEvIbs b e imm, .rolEvIb b e imm, .rorEvIb b e imm,
        .rclEvIb b e imm, .rcrEvIb b e imm, .shlEvIb b e imm, .shrEvIb b e imm, .sarEvIb b e imm, .rolEvCl b e,
        .rorEvCl b e, .rclEvCl b e, .rcrEvCl b e, .shlEvCl b e, .shrEvCl b e, .sarEvCl b e, .movEvGv b e g,
        .incEv b e, .decEv b e, .negEv b e, .notEv b e, .shldEvGvIb b e g imm, .shrdEvGvCl b e g,
        .btsEvIb b e imm, .btrEvIb b e imm, .btcEvIb b e imm] : List (Instr)) → dest b.osz.width (fun r => r)) ∧
    (i ∈ ([
        .cmpEbGb b e g, .testEbGb b e g, .cmpEvGv b e g, .testEvGv b e g, .addGvEv b g e, .orGvEv b g e,
        .adcGvEv b g e, .sbbGvEv b g e, .andGvEv b g e, .subGvEv b g e, .xorGvEv b g e, .cmpGvEv b g e,
        .mulEb b e, .imulEv b e, .divEv b e, .idivEb b e, .imulGvEv b g e, .btEvIb b e imm, .btEvGv b e g,
        .bsfGvEv b g e, .bsrGvEv b g e, .movGbEb b g e, .movGvEv b g e, .movzxGvEb b g e, .movsxGvEw b g e,
        .cmovccGvEv b cc g e, .leaGvM b g m, .popZv b g, .daa b, .aaa b, .aadIb b imm, .cbw b, .cwd b, .xlat b,
        .lahf b, .sahf b, .clc b, .std b, .cli b, .lodsb b, .scasv b, .cmpsb b] : List (Instr)) → b.rep = .none → rest ∧ ∀ a, t.mem.read a = s.mem.read a) ∧
    (i ∈ ([
        .pushZv b g, .pushEv b e, .pushIbs b imm, .pushEs b, .pushCs b, .pushGs b, .pushf b] : List (Instr)) → rest ∧ outside .ss (stackAt s (0#32 - slots b.osz 1)) b.osz.bytes ∧ ∀ q, q ≠ 4#3 → t.gpr.get q = s.gpr.get q)

/-- An instruction that leaves a class other than none without faulting is one the static capability names (R470,
R471). Which instructions are capable is log 22. -/
def Obligations.FlowCapability : Prop :=
  ∀ (i : Instr) (s t : State) (c : FlowClass), exec i s = .next t → t.classOut = some c → c ≠ .none → c ≠ .fault →
    i.canAlterFlow = true

end
end

