-- ==== Sys2Proof/Laws/Memory.lean ====
section
/-! SUPPORT. Laws of memory, of byte order and of the set of stored addresses. -/
namespace Sys2Proof.Machine
open Sys2Proof

@[simp] theorem Memory.read_nil (a : Nat) : Memory.read [] a = Memory.unlisted := rfl

/-- Below a canonical tail nothing is listed. -/
theorem Memory.read_of_lt {lo : Nat} {m : Memory} (h : m.wfFrom lo = true) {a : Nat} (ha : a < lo) :
    m.read a = Memory.unlisted := by
  induction m generalizing lo with
  | nil => rfl
  | cons c t ih =>
    obtain ⟨k, v⟩ := c
    simp only [Memory.wfFrom, Bool.and_eq_true, decide_eq_true_eq] at h
    have hk : k ≠ a := by omega
    simp only [Memory.read, hk, if_false]
    exact ih h.2 (by omega)

/-- A canonical memory is canonical from any lower address on. -/
theorem Memory.wfFrom_mono {lo lo' : Nat} {m : Memory} (h : m.wfFrom lo = true) (hl : lo' ≤ lo) :
    m.wfFrom lo' = true := by
  cases m with
  | nil => rfl
  | cons c t =>
    obtain ⟨k, v⟩ := c
    simp only [Memory.wfFrom, Bool.and_eq_true, decide_eq_true_eq] at h ⊢
    exact ⟨⟨⟨by omega, h.1.1.2⟩, h.1.2⟩, h.2⟩

/-- A read after a write to the same address. -/
theorem Memory.read_write_same {lo : Nat} (m : Memory) (a : Nat) (v : Byte) (h : m.wfFrom lo = true) :
    (m.write a v).read a = v := by
  induction m generalizing lo with
  | nil =>
    simp only [Memory.write]
    split
    · simp_all [Memory.unlisted]
    · simp [Memory.read]
  | cons c t ih =>
    obtain ⟨k, x⟩ := c
    simp only [Memory.wfFrom, Bool.and_eq_true, decide_eq_true_eq] at h
    simp only [Memory.write]
    split
    · split
      · have hk : k ≠ a := by omega
        simp only [Memory.read, hk, if_false]
        rw [Memory.read_of_lt h.2 (by omega)]
        simp_all
      · simp [Memory.read]
    · split
      · subst_vars
        split
        · rw [Memory.read_of_lt h.2 (by omega)]
          simp_all
        · simp [Memory.read]
      · have hk : k ≠ a := by omega
        simp only [Memory.read, hk, if_false]
        exact ih h.2

/-- A write leaves every other address alone. -/
theorem Memory.read_write_other (m : Memory) (a c : Nat) (v : Byte) (h : c ≠ a) : (m.write a v).read c = m.read c := by
  induction m with
  | nil =>
    simp only [Memory.write]
    split
    · rfl
    · simp [Memory.read, h.symm]
  | cons e t ih =>
    obtain ⟨k, x⟩ := e
    simp only [Memory.write]
    split
    · split
      · rfl
      · simp [Memory.read, h.symm]
    · split
      · subst_vars
        split <;> simp [Memory.read, h.symm]
      · simp only [Memory.read, ih]

/-- A write keeps the canonical form. -/
theorem Memory.wfFrom_write {lo : Nat} (m : Memory) (a : Nat) (v : Byte) (h : m.wfFrom lo = true) (hl : lo ≤ a)
    (ha : a < 2 ^ 32) : (m.write a v).wfFrom lo = true := by
  induction m generalizing lo with
  | nil =>
    simp only [Memory.write]
    split
    · rfl
    · simp_all [Memory.wfFrom]
  | cons c t ih =>
    obtain ⟨k, x⟩ := c
    have h' := h
    simp only [Memory.wfFrom, Bool.and_eq_true, decide_eq_true_eq] at h
    simp only [Memory.write]
    split
    · split
      · exact h'
      · simp only [Memory.wfFrom, Bool.and_eq_true, decide_eq_true_eq]
        exact ⟨⟨⟨hl, ha⟩, by simpa using ‹_›⟩, ⟨⟨⟨by omega, h.1.1.2⟩, h.1.2⟩, h.2⟩⟩
    · split
      · subst_vars
        split
        · exact Memory.wfFrom_mono h.2 (by omega)
        · simp only [Memory.wfFrom, Bool.and_eq_true, decide_eq_true_eq]
          exact ⟨⟨⟨hl, ha⟩, by simpa using ‹_›⟩, h.2⟩
      · simp only [Memory.wfFrom, Bool.and_eq_true, decide_eq_true_eq]
        exact ⟨h.1, ih h.2 (by omega)⟩

theorem Memory.wf_write (m : Memory) (a : Nat) (v : Byte) (h : m.wf = true) (ha : a < 2 ^ 32) : (m.write a v).wf = true :=
  Memory.wfFrom_write m a v h (Nat.zero_le _) ha

@[simp] theorem Memory.writeAll_nil (m : Memory) (bs : List Byte) : m.writeAll [] bs = m := by
  cases bs <;> rfl

@[simp] theorem Memory.writeAll_cons (m : Memory) (p : Nat) (ps : List Nat) (b : Byte) (bs : List Byte) :
    m.writeAll (p :: ps) (b :: bs) = (m.write p b).writeAll ps bs := rfl

/-- Writing several bytes keeps the canonical form. -/
theorem Memory.wf_writeAll (m : Memory) (ps : List Nat) (bs : List Byte) (h : m.wf = true)
    (hp : ∀ p ∈ ps, p < 2 ^ 32) : (m.writeAll ps bs).wf = true := by
  induction ps generalizing m bs with
  | nil => simpa
  | cons p t ih =>
    cases bs with
    | nil => exact h
    | cons b bs =>
      exact ih _ bs (Memory.wf_write m p b h (hp p (by simp))) (fun q hq => hp q (by simp [hq]))

/-- Writing several bytes leaves every address outside them alone. -/
theorem Memory.read_writeAll_other (m : Memory) (ps : List Nat) (bs : List Byte) (a : Nat) (ha : a ∉ ps) :
    (m.writeAll ps bs).read a = m.read a := by
  induction ps generalizing m bs with
  | nil => simp
  | cons p t ih =>
    cases bs with
    | nil => rfl
    | cons b bs =>
      simp only [List.mem_cons, not_or] at ha
      rw [Memory.writeAll_cons, ih _ _ ha.2, Memory.read_write_other _ _ _ _ ha.1]

/-- Bytes written to different addresses read back. -/
theorem Memory.readAll_writeAll (m : Memory) (ps : List Nat) (bs : List Byte) (h : m.wf = true)
    (hp : ∀ p ∈ ps, p < 2 ^ 32) (hn : ps.Nodup) (hl : ps.length = bs.length) : (m.writeAll ps bs).readAll ps = bs := by
  induction ps generalizing m bs with
  | nil => cases bs with
    | nil => rfl
    | cons _ _ => simp at hl
  | cons p t ih =>
    cases bs with
    | nil => simp at hl
    | cons b bs =>
      simp only [List.nodup_cons] at hn
      have hw := Memory.wf_write m p b h (hp p (by simp))
      have := ih (m.write p b) bs hw (fun q hq => hp q (by simp [hq])) hn.2 (by simpa using hl)
      simp only [Memory.readAll] at this
      simp only [Memory.readAll, Memory.writeAll_cons, List.map_cons, this]
      rw [Memory.read_writeAll_other _ _ _ _ hn.1, Memory.read_write_same (lo := 0) m p b h]

@[simp] theorem leBytes_length (n v : Nat) : (leBytes n v).length = n := by
  induction n generalizing v with
  | zero => rfl
  | succ n ih => simp [leBytes, ih]

/-- The bytes of a value give it back, modulo their width. -/
theorem leNat_leBytes (n v : Nat) : leNat (leBytes n v) = v % 2 ^ (8 * n) := by
  induction n generalizing v with
  | zero => simp [leBytes, leNat, Nat.mod_one]
  | succ n ih =>
    simp only [leBytes, leNat, ih, BitVec.toNat_ofNat]
    have e : 2 ^ (8 * (n + 1)) = 256 * 2 ^ (8 * n) := by
      rw [show 8 * (n + 1) = 8 + 8 * n by omega, Nat.pow_add]
    rw [e, Nat.mod_mul]

theorem leNat_lt (bs : List Byte) : leNat bs < 2 ^ (8 * bs.length) := by
  induction bs with
  | nil => simp [leNat]
  | cons b t ih =>
    have hb := b.isLt
    have e : 2 ^ (8 * (t.length + 1)) = 256 * 2 ^ (8 * t.length) := by
      rw [show 8 * (t.length + 1) = 8 + 8 * t.length by omega, Nat.pow_add]
    simp only [leNat, List.length_cons, e]
    omega

theorem rising_mono {lo lo' : Nat} {d : List Nat} (h : rising lo d = true) (hl : lo' ≤ lo) : rising lo' d = true := by
  cases d with
  | nil => rfl
  | cons a t =>
    simp only [rising, Bool.and_eq_true, decide_eq_true_eq] at h ⊢
    exact ⟨⟨by omega, h.1.2⟩, h.2⟩

/-- Putting an address into the set keeps it rising. -/
theorem rising_insertAddr {lo : Nat} (a : Nat) (d : List Nat) (h : rising lo d = true) (hl : lo ≤ a) (ha : a < 2 ^ 32) :
    rising lo (insertAddr a d) = true := by
  induction d generalizing lo with
  | nil => simp_all [insertAddr, rising]
  | cons k t ih =>
    have h' := h
    simp only [rising, Bool.and_eq_true, decide_eq_true_eq] at h
    simp only [insertAddr]
    split
    · simp only [rising, Bool.and_eq_true, decide_eq_true_eq]
      exact ⟨⟨hl, ha⟩, ⟨⟨by omega, h.1.2⟩, h.2⟩⟩
    · split
      · exact h'
      · simp only [rising, Bool.and_eq_true, decide_eq_true_eq]
        exact ⟨h.1, ih h.2 (by omega)⟩

theorem rising_addDirty (lin : Word) (n : Nat) (d : List Nat) (h : rising 0 d = true) :
    rising 0 (addDirty lin n d) = true := by
  induction n generalizing lin with
  | zero => exact h
  | succ n ih => exact rising_insertAddr _ _ (ih _) (Nat.zero_le _) lin.isLt

theorem mem_insertAddr (a c : Nat) (d : List Nat) : c ∈ insertAddr a d ↔ c = a ∨ c ∈ d := by
  induction d with
  | nil => simp [insertAddr]
  | cons k t ih =>
    simp only [insertAddr]
    split
    · simp
    · split
      · subst_vars; simp
      · simp only [List.mem_cons, ih]
        constructor
        · rintro (h | h | h) <;> simp [h]
        · rintro (h | h | h) <;> simp [h]

theorem reset_canonical : State.reset.canonical = true := by decide

end Sys2Proof.Machine
end

