-- ==== Sys2Proof/Laws/State.lean ====
section
/-! SUPPORT. One lemma per field and update of State, so that no proof unfolds a record update. -/
namespace Sys2Proof.Machine
open Sys2Proof

variable (s t : State)

@[simp] theorem State.setReg_eip (w : Width) (r : BitVec 3) (v : BitVec w.bits) : (s.setReg w r v).eip = s.eip := rfl
@[simp] theorem State.setReg_es (w : Width) (r : BitVec 3) (v : BitVec w.bits) : (s.setReg w r v).es = s.es := rfl
@[simp] theorem State.setReg_cs (w : Width) (r : BitVec 3) (v : BitVec w.bits) : (s.setReg w r v).cs = s.cs := rfl
@[simp] theorem State.setReg_ss (w : Width) (r : BitVec 3) (v : BitVec w.bits) : (s.setReg w r v).ss = s.ss := rfl
@[simp] theorem State.setReg_ds (w : Width) (r : BitVec 3) (v : BitVec w.bits) : (s.setReg w r v).ds = s.ds := rfl
@[simp] theorem State.setReg_fs (w : Width) (r : BitVec 3) (v : BitVec w.bits) : (s.setReg w r v).fs = s.fs := rfl
@[simp] theorem State.setReg_gs (w : Width) (r : BitVec 3) (v : BitVec w.bits) : (s.setReg w r v).gs = s.gs := rfl
@[simp] theorem State.setReg_flags (w : Width) (r : BitVec 3) (v : BitVec w.bits) : (s.setReg w r v).flags = s.flags := rfl
@[simp] theorem State.setReg_cr0 (w : Width) (r : BitVec 3) (v : BitVec w.bits) : (s.setReg w r v).cr0 = s.cr0 := rfl
@[simp] theorem State.setReg_cr2 (w : Width) (r : BitVec 3) (v : BitVec w.bits) : (s.setReg w r v).cr2 = s.cr2 := rfl
@[simp] theorem State.setReg_cr3 (w : Width) (r : BitVec 3) (v : BitVec w.bits) : (s.setReg w r v).cr3 = s.cr3 := rfl
@[simp] theorem State.setReg_cr4 (w : Width) (r : BitVec 3) (v : BitVec w.bits) : (s.setReg w r v).cr4 = s.cr4 := rfl
@[simp] theorem State.setReg_gdtr (w : Width) (r : BitVec 3) (v : BitVec w.bits) : (s.setReg w r v).gdtr = s.gdtr := rfl
@[simp] theorem State.setReg_idtr (w : Width) (r : BitVec 3) (v : BitVec w.bits) : (s.setReg w r v).idtr = s.idtr := rfl
@[simp] theorem State.setReg_ldtr (w : Width) (r : BitVec 3) (v : BitVec w.bits) : (s.setReg w r v).ldtr = s.ldtr := rfl
@[simp] theorem State.setReg_tr (w : Width) (r : BitVec 3) (v : BitVec w.bits) : (s.setReg w r v).tr = s.tr := rfl
@[simp] theorem State.setReg_cpl (w : Width) (r : BitVec 3) (v : BitVec w.bits) : (s.setReg w r v).cpl = s.cpl := rfl
@[simp] theorem State.setReg_dr0 (w : Width) (r : BitVec 3) (v : BitVec w.bits) : (s.setReg w r v).dr0 = s.dr0 := rfl
@[simp] theorem State.setReg_dr1 (w : Width) (r : BitVec 3) (v : BitVec w.bits) : (s.setReg w r v).dr1 = s.dr1 := rfl
@[simp] theorem State.setReg_dr2 (w : Width) (r : BitVec 3) (v : BitVec w.bits) : (s.setReg w r v).dr2 = s.dr2 := rfl
@[simp] theorem State.setReg_dr3 (w : Width) (r : BitVec 3) (v : BitVec w.bits) : (s.setReg w r v).dr3 = s.dr3 := rfl
@[simp] theorem State.setReg_dr6 (w : Width) (r : BitVec 3) (v : BitVec w.bits) : (s.setReg w r v).dr6 = s.dr6 := rfl
@[simp] theorem State.setReg_dr7 (w : Width) (r : BitVec 3) (v : BitVec w.bits) : (s.setReg w r v).dr7 = s.dr7 := rfl
@[simp] theorem State.setReg_tsc (w : Width) (r : BitVec 3) (v : BitVec w.bits) : (s.setReg w r v).tsc = s.tsc := rfl
@[simp] theorem State.setReg_intShadow (w : Width) (r : BitVec 3) (v : BitVec w.bits) : (s.setReg w r v).intShadow = s.intShadow := rfl
@[simp] theorem State.setReg_pendingTrapDB (w : Width) (r : BitVec 3) (v : BitVec w.bits) : (s.setReg w r v).pendingTrapDB = s.pendingTrapDB := rfl
@[simp] theorem State.setReg_trapPostponed (w : Width) (r : BitVec 3) (v : BitVec w.bits) : (s.setReg w r v).trapPostponed = s.trapPostponed := rfl
@[simp] theorem State.setReg_halted (w : Width) (r : BitVec 3) (v : BitVec w.bits) : (s.setReg w r v).halted = s.halted := rfl
@[simp] theorem State.setReg_shutdown (w : Width) (r : BitVec 3) (v : BitVec w.bits) : (s.setReg w r v).shutdown = s.shutdown := rfl
@[simp] theorem State.setReg_nmiBlocked (w : Width) (r : BitVec 3) (v : BitVec w.bits) : (s.setReg w r v).nmiBlocked = s.nmiBlocked := rfl
@[simp] theorem State.setReg_delivering (w : Width) (r : BitVec 3) (v : BitVec w.bits) : (s.setReg w r v).delivering = s.delivering := rfl
@[simp] theorem State.setReg_smcDirty (w : Width) (r : BitVec 3) (v : BitVec w.bits) : (s.setReg w r v).smcDirty = s.smcDirty := rfl
@[simp] theorem State.setReg_mem (w : Width) (r : BitVec 3) (v : BitVec w.bits) : (s.setReg w r v).mem = s.mem := rfl
@[simp] theorem State.setReg_ioWrites (w : Width) (r : BitVec 3) (v : BitVec w.bits) : (s.setReg w r v).ioWrites = s.ioWrites := rfl
@[simp] theorem State.setReg_pagingSignals (w : Width) (r : BitVec 3) (v : BitVec w.bits) : (s.setReg w r v).pagingSignals = s.pagingSignals := rfl
@[simp] theorem State.setReg_classOut (w : Width) (r : BitVec 3) (v : BitVec w.bits) : (s.setReg w r v).classOut = s.classOut := rfl
@[simp] theorem State.setReg_tick (w : Width) (r : BitVec 3) (v : BitVec w.bits) : (s.setReg w r v).tick = s.tick := rfl
@[simp] theorem State.setReg_inputs (w : Width) (r : BitVec 3) (v : BitVec w.bits) : (s.setReg w r v).inputs = s.inputs := rfl

@[simp] theorem State.setFlags_gpr (f : Flags) : (s.setFlags f).gpr = s.gpr := rfl
@[simp] theorem State.setFlags_eip (f : Flags) : (s.setFlags f).eip = s.eip := rfl
@[simp] theorem State.setFlags_es (f : Flags) : (s.setFlags f).es = s.es := rfl
@[simp] theorem State.setFlags_cs (f : Flags) : (s.setFlags f).cs = s.cs := rfl
@[simp] theorem State.setFlags_ss (f : Flags) : (s.setFlags f).ss = s.ss := rfl
@[simp] theorem State.setFlags_ds (f : Flags) : (s.setFlags f).ds = s.ds := rfl
@[simp] theorem State.setFlags_fs (f : Flags) : (s.setFlags f).fs = s.fs := rfl
@[simp] theorem State.setFlags_gs (f : Flags) : (s.setFlags f).gs = s.gs := rfl
@[simp] theorem State.setFlags_cr0 (f : Flags) : (s.setFlags f).cr0 = s.cr0 := rfl
@[simp] theorem State.setFlags_cr2 (f : Flags) : (s.setFlags f).cr2 = s.cr2 := rfl
@[simp] theorem State.setFlags_cr3 (f : Flags) : (s.setFlags f).cr3 = s.cr3 := rfl
@[simp] theorem State.setFlags_cr4 (f : Flags) : (s.setFlags f).cr4 = s.cr4 := rfl
@[simp] theorem State.setFlags_gdtr (f : Flags) : (s.setFlags f).gdtr = s.gdtr := rfl
@[simp] theorem State.setFlags_idtr (f : Flags) : (s.setFlags f).idtr = s.idtr := rfl
@[simp] theorem State.setFlags_ldtr (f : Flags) : (s.setFlags f).ldtr = s.ldtr := rfl
@[simp] theorem State.setFlags_tr (f : Flags) : (s.setFlags f).tr = s.tr := rfl
@[simp] theorem State.setFlags_cpl (f : Flags) : (s.setFlags f).cpl = s.cpl := rfl
@[simp] theorem State.setFlags_dr0 (f : Flags) : (s.setFlags f).dr0 = s.dr0 := rfl
@[simp] theorem State.setFlags_dr1 (f : Flags) : (s.setFlags f).dr1 = s.dr1 := rfl
@[simp] theorem State.setFlags_dr2 (f : Flags) : (s.setFlags f).dr2 = s.dr2 := rfl
@[simp] theorem State.setFlags_dr3 (f : Flags) : (s.setFlags f).dr3 = s.dr3 := rfl
@[simp] theorem State.setFlags_dr6 (f : Flags) : (s.setFlags f).dr6 = s.dr6 := rfl
@[simp] theorem State.setFlags_dr7 (f : Flags) : (s.setFlags f).dr7 = s.dr7 := rfl
@[simp] theorem State.setFlags_tsc (f : Flags) : (s.setFlags f).tsc = s.tsc := rfl
@[simp] theorem State.setFlags_intShadow (f : Flags) : (s.setFlags f).intShadow = s.intShadow := rfl
@[simp] theorem State.setFlags_pendingTrapDB (f : Flags) : (s.setFlags f).pendingTrapDB = s.pendingTrapDB := rfl
@[simp] theorem State.setFlags_trapPostponed (f : Flags) : (s.setFlags f).trapPostponed = s.trapPostponed := rfl
@[simp] theorem State.setFlags_halted (f : Flags) : (s.setFlags f).halted = s.halted := rfl
@[simp] theorem State.setFlags_shutdown (f : Flags) : (s.setFlags f).shutdown = s.shutdown := rfl
@[simp] theorem State.setFlags_nmiBlocked (f : Flags) : (s.setFlags f).nmiBlocked = s.nmiBlocked := rfl
@[simp] theorem State.setFlags_delivering (f : Flags) : (s.setFlags f).delivering = s.delivering := rfl
@[simp] theorem State.setFlags_smcDirty (f : Flags) : (s.setFlags f).smcDirty = s.smcDirty := rfl
@[simp] theorem State.setFlags_mem (f : Flags) : (s.setFlags f).mem = s.mem := rfl
@[simp] theorem State.setFlags_ioWrites (f : Flags) : (s.setFlags f).ioWrites = s.ioWrites := rfl
@[simp] theorem State.setFlags_pagingSignals (f : Flags) : (s.setFlags f).pagingSignals = s.pagingSignals := rfl
@[simp] theorem State.setFlags_classOut (f : Flags) : (s.setFlags f).classOut = s.classOut := rfl
@[simp] theorem State.setFlags_tick (f : Flags) : (s.setFlags f).tick = s.tick := rfl
@[simp] theorem State.setFlags_inputs (f : Flags) : (s.setFlags f).inputs = s.inputs := rfl

@[simp] theorem State.advance_gpr (b : Bound) : (s.advance b).gpr = s.gpr := rfl
@[simp] theorem State.advance_es (b : Bound) : (s.advance b).es = s.es := rfl
@[simp] theorem State.advance_cs (b : Bound) : (s.advance b).cs = s.cs := rfl
@[simp] theorem State.advance_ss (b : Bound) : (s.advance b).ss = s.ss := rfl
@[simp] theorem State.advance_ds (b : Bound) : (s.advance b).ds = s.ds := rfl
@[simp] theorem State.advance_fs (b : Bound) : (s.advance b).fs = s.fs := rfl
@[simp] theorem State.advance_gs (b : Bound) : (s.advance b).gs = s.gs := rfl
@[simp] theorem State.advance_flags (b : Bound) : (s.advance b).flags = s.flags := rfl
@[simp] theorem State.advance_cr0 (b : Bound) : (s.advance b).cr0 = s.cr0 := rfl
@[simp] theorem State.advance_cr2 (b : Bound) : (s.advance b).cr2 = s.cr2 := rfl
@[simp] theorem State.advance_cr3 (b : Bound) : (s.advance b).cr3 = s.cr3 := rfl
@[simp] theorem State.advance_cr4 (b : Bound) : (s.advance b).cr4 = s.cr4 := rfl
@[simp] theorem State.advance_gdtr (b : Bound) : (s.advance b).gdtr = s.gdtr := rfl
@[simp] theorem State.advance_idtr (b : Bound) : (s.advance b).idtr = s.idtr := rfl
@[simp] theorem State.advance_ldtr (b : Bound) : (s.advance b).ldtr = s.ldtr := rfl
@[simp] theorem State.advance_tr (b : Bound) : (s.advance b).tr = s.tr := rfl
@[simp] theorem State.advance_cpl (b : Bound) : (s.advance b).cpl = s.cpl := rfl
@[simp] theorem State.advance_dr0 (b : Bound) : (s.advance b).dr0 = s.dr0 := rfl
@[simp] theorem State.advance_dr1 (b : Bound) : (s.advance b).dr1 = s.dr1 := rfl
@[simp] theorem State.advance_dr2 (b : Bound) : (s.advance b).dr2 = s.dr2 := rfl
@[simp] theorem State.advance_dr3 (b : Bound) : (s.advance b).dr3 = s.dr3 := rfl
@[simp] theorem State.advance_dr6 (b : Bound) : (s.advance b).dr6 = s.dr6 := rfl
@[simp] theorem State.advance_dr7 (b : Bound) : (s.advance b).dr7 = s.dr7 := rfl
@[simp] theorem State.advance_tsc (b : Bound) : (s.advance b).tsc = s.tsc := rfl
@[simp] theorem State.advance_intShadow (b : Bound) : (s.advance b).intShadow = s.intShadow := rfl
@[simp] theorem State.advance_pendingTrapDB (b : Bound) : (s.advance b).pendingTrapDB = s.pendingTrapDB := rfl
@[simp] theorem State.advance_trapPostponed (b : Bound) : (s.advance b).trapPostponed = s.trapPostponed := rfl
@[simp] theorem State.advance_halted (b : Bound) : (s.advance b).halted = s.halted := rfl
@[simp] theorem State.advance_shutdown (b : Bound) : (s.advance b).shutdown = s.shutdown := rfl
@[simp] theorem State.advance_nmiBlocked (b : Bound) : (s.advance b).nmiBlocked = s.nmiBlocked := rfl
@[simp] theorem State.advance_delivering (b : Bound) : (s.advance b).delivering = s.delivering := rfl
@[simp] theorem State.advance_smcDirty (b : Bound) : (s.advance b).smcDirty = s.smcDirty := rfl
@[simp] theorem State.advance_mem (b : Bound) : (s.advance b).mem = s.mem := rfl
@[simp] theorem State.advance_ioWrites (b : Bound) : (s.advance b).ioWrites = s.ioWrites := rfl
@[simp] theorem State.advance_pagingSignals (b : Bound) : (s.advance b).pagingSignals = s.pagingSignals := rfl
@[simp] theorem State.advance_classOut (b : Bound) : (s.advance b).classOut = s.classOut := rfl
@[simp] theorem State.advance_tick (b : Bound) : (s.advance b).tick = s.tick := rfl
@[simp] theorem State.advance_inputs (b : Bound) : (s.advance b).inputs = s.inputs := rfl

@[simp] theorem State.serialise_gpr : s.serialise.gpr = s.gpr := rfl
@[simp] theorem State.serialise_eip : s.serialise.eip = s.eip := rfl
@[simp] theorem State.serialise_es : s.serialise.es = s.es := rfl
@[simp] theorem State.serialise_cs : s.serialise.cs = s.cs := rfl
@[simp] theorem State.serialise_ss : s.serialise.ss = s.ss := rfl
@[simp] theorem State.serialise_ds : s.serialise.ds = s.ds := rfl
@[simp] theorem State.serialise_fs : s.serialise.fs = s.fs := rfl
@[simp] theorem State.serialise_gs : s.serialise.gs = s.gs := rfl
@[simp] theorem State.serialise_flags : s.serialise.flags = s.flags := rfl
@[simp] theorem State.serialise_cr0 : s.serialise.cr0 = s.cr0 := rfl
@[simp] theorem State.serialise_cr2 : s.serialise.cr2 = s.cr2 := rfl
@[simp] theorem State.serialise_cr3 : s.serialise.cr3 = s.cr3 := rfl
@[simp] theorem State.serialise_cr4 : s.serialise.cr4 = s.cr4 := rfl
@[simp] theorem State.serialise_gdtr : s.serialise.gdtr = s.gdtr := rfl
@[simp] theorem State.serialise_idtr : s.serialise.idtr = s.idtr := rfl
@[simp] theorem State.serialise_ldtr : s.serialise.ldtr = s.ldtr := rfl
@[simp] theorem State.serialise_tr : s.serialise.tr = s.tr := rfl
@[simp] theorem State.serialise_cpl : s.serialise.cpl = s.cpl := rfl
@[simp] theorem State.serialise_dr0 : s.serialise.dr0 = s.dr0 := rfl
@[simp] theorem State.serialise_dr1 : s.serialise.dr1 = s.dr1 := rfl
@[simp] theorem State.serialise_dr2 : s.serialise.dr2 = s.dr2 := rfl
@[simp] theorem State.serialise_dr3 : s.serialise.dr3 = s.dr3 := rfl
@[simp] theorem State.serialise_dr6 : s.serialise.dr6 = s.dr6 := rfl
@[simp] theorem State.serialise_dr7 : s.serialise.dr7 = s.dr7 := rfl
@[simp] theorem State.serialise_tsc : s.serialise.tsc = s.tsc := rfl
@[simp] theorem State.serialise_intShadow : s.serialise.intShadow = s.intShadow := rfl
@[simp] theorem State.serialise_pendingTrapDB : s.serialise.pendingTrapDB = s.pendingTrapDB := rfl
@[simp] theorem State.serialise_trapPostponed : s.serialise.trapPostponed = s.trapPostponed := rfl
@[simp] theorem State.serialise_halted : s.serialise.halted = s.halted := rfl
@[simp] theorem State.serialise_shutdown : s.serialise.shutdown = s.shutdown := rfl
@[simp] theorem State.serialise_nmiBlocked : s.serialise.nmiBlocked = s.nmiBlocked := rfl
@[simp] theorem State.serialise_delivering : s.serialise.delivering = s.delivering := rfl
@[simp] theorem State.serialise_mem : s.serialise.mem = s.mem := rfl
@[simp] theorem State.serialise_ioWrites : s.serialise.ioWrites = s.ioWrites := rfl
@[simp] theorem State.serialise_pagingSignals : s.serialise.pagingSignals = s.pagingSignals := rfl
@[simp] theorem State.serialise_classOut : s.serialise.classOut = s.classOut := rfl
@[simp] theorem State.serialise_tick : s.serialise.tick = s.tick := rfl
@[simp] theorem State.serialise_inputs : s.serialise.inputs = s.inputs := rfl

@[simp] theorem State.shadowIf_gpr (c : Bool) : (s.shadowIf c).gpr = s.gpr := rfl
@[simp] theorem State.shadowIf_eip (c : Bool) : (s.shadowIf c).eip = s.eip := rfl
@[simp] theorem State.shadowIf_es (c : Bool) : (s.shadowIf c).es = s.es := rfl
@[simp] theorem State.shadowIf_cs (c : Bool) : (s.shadowIf c).cs = s.cs := rfl
@[simp] theorem State.shadowIf_ss (c : Bool) : (s.shadowIf c).ss = s.ss := rfl
@[simp] theorem State.shadowIf_ds (c : Bool) : (s.shadowIf c).ds = s.ds := rfl
@[simp] theorem State.shadowIf_fs (c : Bool) : (s.shadowIf c).fs = s.fs := rfl
@[simp] theorem State.shadowIf_gs (c : Bool) : (s.shadowIf c).gs = s.gs := rfl
@[simp] theorem State.shadowIf_flags (c : Bool) : (s.shadowIf c).flags = s.flags := rfl
@[simp] theorem State.shadowIf_cr0 (c : Bool) : (s.shadowIf c).cr0 = s.cr0 := rfl
@[simp] theorem State.shadowIf_cr2 (c : Bool) : (s.shadowIf c).cr2 = s.cr2 := rfl
@[simp] theorem State.shadowIf_cr3 (c : Bool) : (s.shadowIf c).cr3 = s.cr3 := rfl
@[simp] theorem State.shadowIf_cr4 (c : Bool) : (s.shadowIf c).cr4 = s.cr4 := rfl
@[simp] theorem State.shadowIf_gdtr (c : Bool) : (s.shadowIf c).gdtr = s.gdtr := rfl
@[simp] theorem State.shadowIf_idtr (c : Bool) : (s.shadowIf c).idtr = s.idtr := rfl
@[simp] theorem State.shadowIf_ldtr (c : Bool) : (s.shadowIf c).ldtr = s.ldtr := rfl
@[simp] theorem State.shadowIf_tr (c : Bool) : (s.shadowIf c).tr = s.tr := rfl
@[simp] theorem State.shadowIf_cpl (c : Bool) : (s.shadowIf c).cpl = s.cpl := rfl
@[simp] theorem State.shadowIf_dr0 (c : Bool) : (s.shadowIf c).dr0 = s.dr0 := rfl
@[simp] theorem State.shadowIf_dr1 (c : Bool) : (s.shadowIf c).dr1 = s.dr1 := rfl
@[simp] theorem State.shadowIf_dr2 (c : Bool) : (s.shadowIf c).dr2 = s.dr2 := rfl
@[simp] theorem State.shadowIf_dr3 (c : Bool) : (s.shadowIf c).dr3 = s.dr3 := rfl
@[simp] theorem State.shadowIf_dr6 (c : Bool) : (s.shadowIf c).dr6 = s.dr6 := rfl
@[simp] theorem State.shadowIf_dr7 (c : Bool) : (s.shadowIf c).dr7 = s.dr7 := rfl
@[simp] theorem State.shadowIf_tsc (c : Bool) : (s.shadowIf c).tsc = s.tsc := rfl
@[simp] theorem State.shadowIf_pendingTrapDB (c : Bool) : (s.shadowIf c).pendingTrapDB = s.pendingTrapDB := rfl
@[simp] theorem State.shadowIf_trapPostponed (c : Bool) : (s.shadowIf c).trapPostponed = s.trapPostponed := rfl
@[simp] theorem State.shadowIf_halted (c : Bool) : (s.shadowIf c).halted = s.halted := rfl
@[simp] theorem State.shadowIf_shutdown (c : Bool) : (s.shadowIf c).shutdown = s.shutdown := rfl
@[simp] theorem State.shadowIf_nmiBlocked (c : Bool) : (s.shadowIf c).nmiBlocked = s.nmiBlocked := rfl
@[simp] theorem State.shadowIf_delivering (c : Bool) : (s.shadowIf c).delivering = s.delivering := rfl
@[simp] theorem State.shadowIf_smcDirty (c : Bool) : (s.shadowIf c).smcDirty = s.smcDirty := rfl
@[simp] theorem State.shadowIf_mem (c : Bool) : (s.shadowIf c).mem = s.mem := rfl
@[simp] theorem State.shadowIf_ioWrites (c : Bool) : (s.shadowIf c).ioWrites = s.ioWrites := rfl
@[simp] theorem State.shadowIf_pagingSignals (c : Bool) : (s.shadowIf c).pagingSignals = s.pagingSignals := rfl
@[simp] theorem State.shadowIf_classOut (c : Bool) : (s.shadowIf c).classOut = s.classOut := rfl
@[simp] theorem State.shadowIf_tick (c : Bool) : (s.shadowIf c).tick = s.tick := rfl
@[simp] theorem State.shadowIf_inputs (c : Bool) : (s.shadowIf c).inputs = s.inputs := rfl

@[simp] theorem State.realLoadCS_gpr (sel : Half) : (s.realLoadCS sel).gpr = s.gpr := rfl
@[simp] theorem State.realLoadCS_eip (sel : Half) : (s.realLoadCS sel).eip = s.eip := rfl
@[simp] theorem State.realLoadCS_es (sel : Half) : (s.realLoadCS sel).es = s.es := rfl
@[simp] theorem State.realLoadCS_ss (sel : Half) : (s.realLoadCS sel).ss = s.ss := rfl
@[simp] theorem State.realLoadCS_ds (sel : Half) : (s.realLoadCS sel).ds = s.ds := rfl
@[simp] theorem State.realLoadCS_fs (sel : Half) : (s.realLoadCS sel).fs = s.fs := rfl
@[simp] theorem State.realLoadCS_gs (sel : Half) : (s.realLoadCS sel).gs = s.gs := rfl
@[simp] theorem State.realLoadCS_flags (sel : Half) : (s.realLoadCS sel).flags = s.flags := rfl
@[simp] theorem State.realLoadCS_cr0 (sel : Half) : (s.realLoadCS sel).cr0 = s.cr0 := rfl
@[simp] theorem State.realLoadCS_cr2 (sel : Half) : (s.realLoadCS sel).cr2 = s.cr2 := rfl
@[simp] theorem State.realLoadCS_cr3 (sel : Half) : (s.realLoadCS sel).cr3 = s.cr3 := rfl
@[simp] theorem State.realLoadCS_cr4 (sel : Half) : (s.realLoadCS sel).cr4 = s.cr4 := rfl
@[simp] theorem State.realLoadCS_gdtr (sel : Half) : (s.realLoadCS sel).gdtr = s.gdtr := rfl
@[simp] theorem State.realLoadCS_idtr (sel : Half) : (s.realLoadCS sel).idtr = s.idtr := rfl
@[simp] theorem State.realLoadCS_ldtr (sel : Half) : (s.realLoadCS sel).ldtr = s.ldtr := rfl
@[simp] theorem State.realLoadCS_tr (sel : Half) : (s.realLoadCS sel).tr = s.tr := rfl
@[simp] theorem State.realLoadCS_cpl (sel : Half) : (s.realLoadCS sel).cpl = s.cpl := rfl
@[simp] theorem State.realLoadCS_dr0 (sel : Half) : (s.realLoadCS sel).dr0 = s.dr0 := rfl
@[simp] theorem State.realLoadCS_dr1 (sel : Half) : (s.realLoadCS sel).dr1 = s.dr1 := rfl
@[simp] theorem State.realLoadCS_dr2 (sel : Half) : (s.realLoadCS sel).dr2 = s.dr2 := rfl
@[simp] theorem State.realLoadCS_dr3 (sel : Half) : (s.realLoadCS sel).dr3 = s.dr3 := rfl
@[simp] theorem State.realLoadCS_dr6 (sel : Half) : (s.realLoadCS sel).dr6 = s.dr6 := rfl
@[simp] theorem State.realLoadCS_dr7 (sel : Half) : (s.realLoadCS sel).dr7 = s.dr7 := rfl
@[simp] theorem State.realLoadCS_tsc (sel : Half) : (s.realLoadCS sel).tsc = s.tsc := rfl
@[simp] theorem State.realLoadCS_intShadow (sel : Half) : (s.realLoadCS sel).intShadow = s.intShadow := rfl
@[simp] theorem State.realLoadCS_pendingTrapDB (sel : Half) : (s.realLoadCS sel).pendingTrapDB = s.pendingTrapDB := rfl
@[simp] theorem State.realLoadCS_trapPostponed (sel : Half) : (s.realLoadCS sel).trapPostponed = s.trapPostponed := rfl
@[simp] theorem State.realLoadCS_halted (sel : Half) : (s.realLoadCS sel).halted = s.halted := rfl
@[simp] theorem State.realLoadCS_shutdown (sel : Half) : (s.realLoadCS sel).shutdown = s.shutdown := rfl
@[simp] theorem State.realLoadCS_nmiBlocked (sel : Half) : (s.realLoadCS sel).nmiBlocked = s.nmiBlocked := rfl
@[simp] theorem State.realLoadCS_delivering (sel : Half) : (s.realLoadCS sel).delivering = s.delivering := rfl
@[simp] theorem State.realLoadCS_smcDirty (sel : Half) : (s.realLoadCS sel).smcDirty = s.smcDirty := rfl
@[simp] theorem State.realLoadCS_mem (sel : Half) : (s.realLoadCS sel).mem = s.mem := rfl
@[simp] theorem State.realLoadCS_ioWrites (sel : Half) : (s.realLoadCS sel).ioWrites = s.ioWrites := rfl
@[simp] theorem State.realLoadCS_pagingSignals (sel : Half) : (s.realLoadCS sel).pagingSignals = s.pagingSignals := rfl
@[simp] theorem State.realLoadCS_classOut (sel : Half) : (s.realLoadCS sel).classOut = s.classOut := rfl
@[simp] theorem State.realLoadCS_tick (sel : Half) : (s.realLoadCS sel).tick = s.tick := rfl
@[simp] theorem State.realLoadCS_inputs (sel : Half) : (s.realLoadCS sel).inputs = s.inputs := rfl

@[simp] theorem State.nullOuter_gpr : s.nullOuter.gpr = s.gpr := rfl
@[simp] theorem State.nullOuter_eip : s.nullOuter.eip = s.eip := rfl
@[simp] theorem State.nullOuter_cs : s.nullOuter.cs = s.cs := rfl
@[simp] theorem State.nullOuter_ss : s.nullOuter.ss = s.ss := rfl
@[simp] theorem State.nullOuter_flags : s.nullOuter.flags = s.flags := rfl
@[simp] theorem State.nullOuter_cr0 : s.nullOuter.cr0 = s.cr0 := rfl
@[simp] theorem State.nullOuter_cr2 : s.nullOuter.cr2 = s.cr2 := rfl
@[simp] theorem State.nullOuter_cr3 : s.nullOuter.cr3 = s.cr3 := rfl
@[simp] theorem State.nullOuter_cr4 : s.nullOuter.cr4 = s.cr4 := rfl
@[simp] theorem State.nullOuter_gdtr : s.nullOuter.gdtr = s.gdtr := rfl
@[simp] theorem State.nullOuter_idtr : s.nullOuter.idtr = s.idtr := rfl
@[simp] theorem State.nullOuter_ldtr : s.nullOuter.ldtr = s.ldtr := rfl
@[simp] theorem State.nullOuter_tr : s.nullOuter.tr = s.tr := rfl
@[simp] theorem State.nullOuter_cpl : s.nullOuter.cpl = s.cpl := rfl
@[simp] theorem State.nullOuter_dr0 : s.nullOuter.dr0 = s.dr0 := rfl
@[simp] theorem State.nullOuter_dr1 : s.nullOuter.dr1 = s.dr1 := rfl
@[simp] theorem State.nullOuter_dr2 : s.nullOuter.dr2 = s.dr2 := rfl
@[simp] theorem State.nullOuter_dr3 : s.nullOuter.dr3 = s.dr3 := rfl
@[simp] theorem State.nullOuter_dr6 : s.nullOuter.dr6 = s.dr6 := rfl
@[simp] theorem State.nullOuter_dr7 : s.nullOuter.dr7 = s.dr7 := rfl
@[simp] theorem State.nullOuter_tsc : s.nullOuter.tsc = s.tsc := rfl
@[simp] theorem State.nullOuter_intShadow : s.nullOuter.intShadow = s.intShadow := rfl
@[simp] theorem State.nullOuter_pendingTrapDB : s.nullOuter.pendingTrapDB = s.pendingTrapDB := rfl
@[simp] theorem State.nullOuter_trapPostponed : s.nullOuter.trapPostponed = s.trapPostponed := rfl
@[simp] theorem State.nullOuter_halted : s.nullOuter.halted = s.halted := rfl
@[simp] theorem State.nullOuter_shutdown : s.nullOuter.shutdown = s.shutdown := rfl
@[simp] theorem State.nullOuter_nmiBlocked : s.nullOuter.nmiBlocked = s.nmiBlocked := rfl
@[simp] theorem State.nullOuter_delivering : s.nullOuter.delivering = s.delivering := rfl
@[simp] theorem State.nullOuter_smcDirty : s.nullOuter.smcDirty = s.smcDirty := rfl
@[simp] theorem State.nullOuter_mem : s.nullOuter.mem = s.mem := rfl
@[simp] theorem State.nullOuter_ioWrites : s.nullOuter.ioWrites = s.ioWrites := rfl
@[simp] theorem State.nullOuter_pagingSignals : s.nullOuter.pagingSignals = s.pagingSignals := rfl
@[simp] theorem State.nullOuter_classOut : s.nullOuter.classOut = s.classOut := rfl
@[simp] theorem State.nullOuter_tick : s.nullOuter.tick = s.tick := rfl
@[simp] theorem State.nullOuter_inputs : s.nullOuter.inputs = s.inputs := rfl

@[simp] theorem State.signal_gpr (x : PagingSignal) : (s.signal x).gpr = s.gpr := rfl
@[simp] theorem State.signal_eip (x : PagingSignal) : (s.signal x).eip = s.eip := rfl
@[simp] theorem State.signal_es (x : PagingSignal) : (s.signal x).es = s.es := rfl
@[simp] theorem State.signal_cs (x : PagingSignal) : (s.signal x).cs = s.cs := rfl
@[simp] theorem State.signal_ss (x : PagingSignal) : (s.signal x).ss = s.ss := rfl
@[simp] theorem State.signal_ds (x : PagingSignal) : (s.signal x).ds = s.ds := rfl
@[simp] theorem State.signal_fs (x : PagingSignal) : (s.signal x).fs = s.fs := rfl
@[simp] theorem State.signal_gs (x : PagingSignal) : (s.signal x).gs = s.gs := rfl
@[simp] theorem State.signal_flags (x : PagingSignal) : (s.signal x).flags = s.flags := rfl
@[simp] theorem State.signal_cr0 (x : PagingSignal) : (s.signal x).cr0 = s.cr0 := rfl
@[simp] theorem State.signal_cr2 (x : PagingSignal) : (s.signal x).cr2 = s.cr2 := rfl
@[simp] theorem State.signal_cr3 (x : PagingSignal) : (s.signal x).cr3 = s.cr3 := rfl
@[simp] theorem State.signal_cr4 (x : PagingSignal) : (s.signal x).cr4 = s.cr4 := rfl
@[simp] theorem State.signal_gdtr (x : PagingSignal) : (s.signal x).gdtr = s.gdtr := rfl
@[simp] theorem State.signal_idtr (x : PagingSignal) : (s.signal x).idtr = s.idtr := rfl
@[simp] theorem State.signal_ldtr (x : PagingSignal) : (s.signal x).ldtr = s.ldtr := rfl
@[simp] theorem State.signal_tr (x : PagingSignal) : (s.signal x).tr = s.tr := rfl
@[simp] theorem State.signal_cpl (x : PagingSignal) : (s.signal x).cpl = s.cpl := rfl
@[simp] theorem State.signal_dr0 (x : PagingSignal) : (s.signal x).dr0 = s.dr0 := rfl
@[simp] theorem State.signal_dr1 (x : PagingSignal) : (s.signal x).dr1 = s.dr1 := rfl
@[simp] theorem State.signal_dr2 (x : PagingSignal) : (s.signal x).dr2 = s.dr2 := rfl
@[simp] theorem State.signal_dr3 (x : PagingSignal) : (s.signal x).dr3 = s.dr3 := rfl
@[simp] theorem State.signal_dr6 (x : PagingSignal) : (s.signal x).dr6 = s.dr6 := rfl
@[simp] theorem State.signal_dr7 (x : PagingSignal) : (s.signal x).dr7 = s.dr7 := rfl
@[simp] theorem State.signal_tsc (x : PagingSignal) : (s.signal x).tsc = s.tsc := rfl
@[simp] theorem State.signal_intShadow (x : PagingSignal) : (s.signal x).intShadow = s.intShadow := rfl
@[simp] theorem State.signal_pendingTrapDB (x : PagingSignal) : (s.signal x).pendingTrapDB = s.pendingTrapDB := rfl
@[simp] theorem State.signal_trapPostponed (x : PagingSignal) : (s.signal x).trapPostponed = s.trapPostponed := rfl
@[simp] theorem State.signal_halted (x : PagingSignal) : (s.signal x).halted = s.halted := rfl
@[simp] theorem State.signal_shutdown (x : PagingSignal) : (s.signal x).shutdown = s.shutdown := rfl
@[simp] theorem State.signal_nmiBlocked (x : PagingSignal) : (s.signal x).nmiBlocked = s.nmiBlocked := rfl
@[simp] theorem State.signal_delivering (x : PagingSignal) : (s.signal x).delivering = s.delivering := rfl
@[simp] theorem State.signal_smcDirty (x : PagingSignal) : (s.signal x).smcDirty = s.smcDirty := rfl
@[simp] theorem State.signal_mem (x : PagingSignal) : (s.signal x).mem = s.mem := rfl
@[simp] theorem State.signal_ioWrites (x : PagingSignal) : (s.signal x).ioWrites = s.ioWrites := rfl
@[simp] theorem State.signal_classOut (x : PagingSignal) : (s.signal x).classOut = s.classOut := rfl
@[simp] theorem State.signal_tick (x : PagingSignal) : (s.signal x).tick = s.tick := rfl
@[simp] theorem State.signal_inputs (x : PagingSignal) : (s.signal x).inputs = s.inputs := rfl

@[simp] theorem State.readTsc_eip : s.readTsc.eip = s.eip := rfl
@[simp] theorem State.readTsc_es : s.readTsc.es = s.es := rfl
@[simp] theorem State.readTsc_cs : s.readTsc.cs = s.cs := rfl
@[simp] theorem State.readTsc_ss : s.readTsc.ss = s.ss := rfl
@[simp] theorem State.readTsc_ds : s.readTsc.ds = s.ds := rfl
@[simp] theorem State.readTsc_fs : s.readTsc.fs = s.fs := rfl
@[simp] theorem State.readTsc_gs : s.readTsc.gs = s.gs := rfl
@[simp] theorem State.readTsc_flags : s.readTsc.flags = s.flags := rfl
@[simp] theorem State.readTsc_cr0 : s.readTsc.cr0 = s.cr0 := rfl
@[simp] theorem State.readTsc_cr2 : s.readTsc.cr2 = s.cr2 := rfl
@[simp] theorem State.readTsc_cr3 : s.readTsc.cr3 = s.cr3 := rfl
@[simp] theorem State.readTsc_cr4 : s.readTsc.cr4 = s.cr4 := rfl
@[simp] theorem State.readTsc_gdtr : s.readTsc.gdtr = s.gdtr := rfl
@[simp] theorem State.readTsc_idtr : s.readTsc.idtr = s.idtr := rfl
@[simp] theorem State.readTsc_ldtr : s.readTsc.ldtr = s.ldtr := rfl
@[simp] theorem State.readTsc_tr : s.readTsc.tr = s.tr := rfl
@[simp] theorem State.readTsc_cpl : s.readTsc.cpl = s.cpl := rfl
@[simp] theorem State.readTsc_dr0 : s.readTsc.dr0 = s.dr0 := rfl
@[simp] theorem State.readTsc_dr1 : s.readTsc.dr1 = s.dr1 := rfl
@[simp] theorem State.readTsc_dr2 : s.readTsc.dr2 = s.dr2 := rfl
@[simp] theorem State.readTsc_dr3 : s.readTsc.dr3 = s.dr3 := rfl
@[simp] theorem State.readTsc_dr6 : s.readTsc.dr6 = s.dr6 := rfl
@[simp] theorem State.readTsc_dr7 : s.readTsc.dr7 = s.dr7 := rfl
@[simp] theorem State.readTsc_tsc : s.readTsc.tsc = s.tsc := rfl
@[simp] theorem State.readTsc_intShadow : s.readTsc.intShadow = s.intShadow := rfl
@[simp] theorem State.readTsc_pendingTrapDB : s.readTsc.pendingTrapDB = s.pendingTrapDB := rfl
@[simp] theorem State.readTsc_trapPostponed : s.readTsc.trapPostponed = s.trapPostponed := rfl
@[simp] theorem State.readTsc_halted : s.readTsc.halted = s.halted := rfl
@[simp] theorem State.readTsc_shutdown : s.readTsc.shutdown = s.shutdown := rfl
@[simp] theorem State.readTsc_nmiBlocked : s.readTsc.nmiBlocked = s.nmiBlocked := rfl
@[simp] theorem State.readTsc_delivering : s.readTsc.delivering = s.delivering := rfl
@[simp] theorem State.readTsc_smcDirty : s.readTsc.smcDirty = s.smcDirty := rfl
@[simp] theorem State.readTsc_mem : s.readTsc.mem = s.mem := rfl
@[simp] theorem State.readTsc_ioWrites : s.readTsc.ioWrites = s.ioWrites := rfl
@[simp] theorem State.readTsc_pagingSignals : s.readTsc.pagingSignals = s.pagingSignals := rfl
@[simp] theorem State.readTsc_classOut : s.readTsc.classOut = s.classOut := rfl
@[simp] theorem State.readTsc_tick : s.readTsc.tick = s.tick := rfl
@[simp] theorem State.readTsc_inputs : s.readTsc.inputs = s.inputs := rfl

@[simp] theorem State.beginDelivery_gpr (e : Event) : (s.beginDelivery e).gpr = s.gpr := rfl
@[simp] theorem State.beginDelivery_eip (e : Event) : (s.beginDelivery e).eip = s.eip := rfl
@[simp] theorem State.beginDelivery_es (e : Event) : (s.beginDelivery e).es = s.es := rfl
@[simp] theorem State.beginDelivery_cs (e : Event) : (s.beginDelivery e).cs = s.cs := rfl
@[simp] theorem State.beginDelivery_ss (e : Event) : (s.beginDelivery e).ss = s.ss := rfl
@[simp] theorem State.beginDelivery_ds (e : Event) : (s.beginDelivery e).ds = s.ds := rfl
@[simp] theorem State.beginDelivery_fs (e : Event) : (s.beginDelivery e).fs = s.fs := rfl
@[simp] theorem State.beginDelivery_gs (e : Event) : (s.beginDelivery e).gs = s.gs := rfl
@[simp] theorem State.beginDelivery_flags (e : Event) : (s.beginDelivery e).flags = s.flags := rfl
@[simp] theorem State.beginDelivery_cr0 (e : Event) : (s.beginDelivery e).cr0 = s.cr0 := rfl
@[simp] theorem State.beginDelivery_cr2 (e : Event) : (s.beginDelivery e).cr2 = s.cr2 := rfl
@[simp] theorem State.beginDelivery_cr3 (e : Event) : (s.beginDelivery e).cr3 = s.cr3 := rfl
@[simp] theorem State.beginDelivery_cr4 (e : Event) : (s.beginDelivery e).cr4 = s.cr4 := rfl
@[simp] theorem State.beginDelivery_gdtr (e : Event) : (s.beginDelivery e).gdtr = s.gdtr := rfl
@[simp] theorem State.beginDelivery_idtr (e : Event) : (s.beginDelivery e).idtr = s.idtr := rfl
@[simp] theorem State.beginDelivery_ldtr (e : Event) : (s.beginDelivery e).ldtr = s.ldtr := rfl
@[simp] theorem State.beginDelivery_tr (e : Event) : (s.beginDelivery e).tr = s.tr := rfl
@[simp] theorem State.beginDelivery_cpl (e : Event) : (s.beginDelivery e).cpl = s.cpl := rfl
@[simp] theorem State.beginDelivery_dr0 (e : Event) : (s.beginDelivery e).dr0 = s.dr0 := rfl
@[simp] theorem State.beginDelivery_dr1 (e : Event) : (s.beginDelivery e).dr1 = s.dr1 := rfl
@[simp] theorem State.beginDelivery_dr2 (e : Event) : (s.beginDelivery e).dr2 = s.dr2 := rfl
@[simp] theorem State.beginDelivery_dr3 (e : Event) : (s.beginDelivery e).dr3 = s.dr3 := rfl
@[simp] theorem State.beginDelivery_dr6 (e : Event) : (s.beginDelivery e).dr6 = s.dr6 := rfl
@[simp] theorem State.beginDelivery_dr7 (e : Event) : (s.beginDelivery e).dr7 = s.dr7 := rfl
@[simp] theorem State.beginDelivery_tsc (e : Event) : (s.beginDelivery e).tsc = s.tsc := rfl
@[simp] theorem State.beginDelivery_intShadow (e : Event) : (s.beginDelivery e).intShadow = s.intShadow := rfl
@[simp] theorem State.beginDelivery_pendingTrapDB (e : Event) : (s.beginDelivery e).pendingTrapDB = s.pendingTrapDB := rfl
@[simp] theorem State.beginDelivery_trapPostponed (e : Event) : (s.beginDelivery e).trapPostponed = s.trapPostponed := rfl
@[simp] theorem State.beginDelivery_shutdown (e : Event) : (s.beginDelivery e).shutdown = s.shutdown := rfl
@[simp] theorem State.beginDelivery_nmiBlocked (e : Event) : (s.beginDelivery e).nmiBlocked = s.nmiBlocked := rfl
@[simp] theorem State.beginDelivery_mem (e : Event) : (s.beginDelivery e).mem = s.mem := rfl
@[simp] theorem State.beginDelivery_ioWrites (e : Event) : (s.beginDelivery e).ioWrites = s.ioWrites := rfl
@[simp] theorem State.beginDelivery_pagingSignals (e : Event) : (s.beginDelivery e).pagingSignals = s.pagingSignals := rfl
@[simp] theorem State.beginDelivery_classOut (e : Event) : (s.beginDelivery e).classOut = s.classOut := rfl
@[simp] theorem State.beginDelivery_tick (e : Event) : (s.beginDelivery e).tick = s.tick := rfl
@[simp] theorem State.beginDelivery_inputs (e : Event) : (s.beginDelivery e).inputs = s.inputs := rfl

@[simp] theorem State.postponeTrap_gpr (tf : Bool) : (s.postponeTrap tf).gpr = s.gpr := rfl
@[simp] theorem State.postponeTrap_eip (tf : Bool) : (s.postponeTrap tf).eip = s.eip := rfl
@[simp] theorem State.postponeTrap_es (tf : Bool) : (s.postponeTrap tf).es = s.es := rfl
@[simp] theorem State.postponeTrap_cs (tf : Bool) : (s.postponeTrap tf).cs = s.cs := rfl
@[simp] theorem State.postponeTrap_ss (tf : Bool) : (s.postponeTrap tf).ss = s.ss := rfl
@[simp] theorem State.postponeTrap_ds (tf : Bool) : (s.postponeTrap tf).ds = s.ds := rfl
@[simp] theorem State.postponeTrap_fs (tf : Bool) : (s.postponeTrap tf).fs = s.fs := rfl
@[simp] theorem State.postponeTrap_gs (tf : Bool) : (s.postponeTrap tf).gs = s.gs := rfl
@[simp] theorem State.postponeTrap_flags (tf : Bool) : (s.postponeTrap tf).flags = s.flags := rfl
@[simp] theorem State.postponeTrap_cr0 (tf : Bool) : (s.postponeTrap tf).cr0 = s.cr0 := rfl
@[simp] theorem State.postponeTrap_cr2 (tf : Bool) : (s.postponeTrap tf).cr2 = s.cr2 := rfl
@[simp] theorem State.postponeTrap_cr3 (tf : Bool) : (s.postponeTrap tf).cr3 = s.cr3 := rfl
@[simp] theorem State.postponeTrap_cr4 (tf : Bool) : (s.postponeTrap tf).cr4 = s.cr4 := rfl
@[simp] theorem State.postponeTrap_gdtr (tf : Bool) : (s.postponeTrap tf).gdtr = s.gdtr := rfl
@[simp] theorem State.postponeTrap_idtr (tf : Bool) : (s.postponeTrap tf).idtr = s.idtr := rfl
@[simp] theorem State.postponeTrap_ldtr (tf : Bool) : (s.postponeTrap tf).ldtr = s.ldtr := rfl
@[simp] theorem State.postponeTrap_tr (tf : Bool) : (s.postponeTrap tf).tr = s.tr := rfl
@[simp] theorem State.postponeTrap_cpl (tf : Bool) : (s.postponeTrap tf).cpl = s.cpl := rfl
@[simp] theorem State.postponeTrap_dr0 (tf : Bool) : (s.postponeTrap tf).dr0 = s.dr0 := rfl
@[simp] theorem State.postponeTrap_dr1 (tf : Bool) : (s.postponeTrap tf).dr1 = s.dr1 := rfl
@[simp] theorem State.postponeTrap_dr2 (tf : Bool) : (s.postponeTrap tf).dr2 = s.dr2 := rfl
@[simp] theorem State.postponeTrap_dr3 (tf : Bool) : (s.postponeTrap tf).dr3 = s.dr3 := rfl
@[simp] theorem State.postponeTrap_dr6 (tf : Bool) : (s.postponeTrap tf).dr6 = s.dr6 := rfl
@[simp] theorem State.postponeTrap_dr7 (tf : Bool) : (s.postponeTrap tf).dr7 = s.dr7 := rfl
@[simp] theorem State.postponeTrap_tsc (tf : Bool) : (s.postponeTrap tf).tsc = s.tsc := rfl
@[simp] theorem State.postponeTrap_intShadow (tf : Bool) : (s.postponeTrap tf).intShadow = s.intShadow := rfl
@[simp] theorem State.postponeTrap_pendingTrapDB (tf : Bool) : (s.postponeTrap tf).pendingTrapDB = s.pendingTrapDB := rfl
@[simp] theorem State.postponeTrap_halted (tf : Bool) : (s.postponeTrap tf).halted = s.halted := rfl
@[simp] theorem State.postponeTrap_shutdown (tf : Bool) : (s.postponeTrap tf).shutdown = s.shutdown := rfl
@[simp] theorem State.postponeTrap_nmiBlocked (tf : Bool) : (s.postponeTrap tf).nmiBlocked = s.nmiBlocked := rfl
@[simp] theorem State.postponeTrap_delivering (tf : Bool) : (s.postponeTrap tf).delivering = s.delivering := rfl
@[simp] theorem State.postponeTrap_smcDirty (tf : Bool) : (s.postponeTrap tf).smcDirty = s.smcDirty := rfl
@[simp] theorem State.postponeTrap_mem (tf : Bool) : (s.postponeTrap tf).mem = s.mem := rfl
@[simp] theorem State.postponeTrap_ioWrites (tf : Bool) : (s.postponeTrap tf).ioWrites = s.ioWrites := rfl
@[simp] theorem State.postponeTrap_pagingSignals (tf : Bool) : (s.postponeTrap tf).pagingSignals = s.pagingSignals := rfl
@[simp] theorem State.postponeTrap_classOut (tf : Bool) : (s.postponeTrap tf).classOut = s.classOut := rfl
@[simp] theorem State.postponeTrap_tick (tf : Bool) : (s.postponeTrap tf).tick = s.tick := rfl
@[simp] theorem State.postponeTrap_inputs (tf : Bool) : (s.postponeTrap tf).inputs = s.inputs := rfl

@[simp] theorem State.beginInstruction_gpr : s.beginInstruction.gpr = s.gpr := rfl
@[simp] theorem State.beginInstruction_eip : s.beginInstruction.eip = s.eip := rfl
@[simp] theorem State.beginInstruction_es : s.beginInstruction.es = s.es := rfl
@[simp] theorem State.beginInstruction_cs : s.beginInstruction.cs = s.cs := rfl
@[simp] theorem State.beginInstruction_ss : s.beginInstruction.ss = s.ss := rfl
@[simp] theorem State.beginInstruction_ds : s.beginInstruction.ds = s.ds := rfl
@[simp] theorem State.beginInstruction_fs : s.beginInstruction.fs = s.fs := rfl
@[simp] theorem State.beginInstruction_gs : s.beginInstruction.gs = s.gs := rfl
@[simp] theorem State.beginInstruction_flags : s.beginInstruction.flags = s.flags := rfl
@[simp] theorem State.beginInstruction_cr0 : s.beginInstruction.cr0 = s.cr0 := rfl
@[simp] theorem State.beginInstruction_cr2 : s.beginInstruction.cr2 = s.cr2 := rfl
@[simp] theorem State.beginInstruction_cr3 : s.beginInstruction.cr3 = s.cr3 := rfl
@[simp] theorem State.beginInstruction_cr4 : s.beginInstruction.cr4 = s.cr4 := rfl
@[simp] theorem State.beginInstruction_gdtr : s.beginInstruction.gdtr = s.gdtr := rfl
@[simp] theorem State.beginInstruction_idtr : s.beginInstruction.idtr = s.idtr := rfl
@[simp] theorem State.beginInstruction_ldtr : s.beginInstruction.ldtr = s.ldtr := rfl
@[simp] theorem State.beginInstruction_tr : s.beginInstruction.tr = s.tr := rfl
@[simp] theorem State.beginInstruction_cpl : s.beginInstruction.cpl = s.cpl := rfl
@[simp] theorem State.beginInstruction_dr0 : s.beginInstruction.dr0 = s.dr0 := rfl
@[simp] theorem State.beginInstruction_dr1 : s.beginInstruction.dr1 = s.dr1 := rfl
@[simp] theorem State.beginInstruction_dr2 : s.beginInstruction.dr2 = s.dr2 := rfl
@[simp] theorem State.beginInstruction_dr3 : s.beginInstruction.dr3 = s.dr3 := rfl
@[simp] theorem State.beginInstruction_dr6 : s.beginInstruction.dr6 = s.dr6 := rfl
@[simp] theorem State.beginInstruction_dr7 : s.beginInstruction.dr7 = s.dr7 := rfl
@[simp] theorem State.beginInstruction_tsc : s.beginInstruction.tsc = s.tsc := rfl
@[simp] theorem State.beginInstruction_halted : s.beginInstruction.halted = s.halted := rfl
@[simp] theorem State.beginInstruction_shutdown : s.beginInstruction.shutdown = s.shutdown := rfl
@[simp] theorem State.beginInstruction_nmiBlocked : s.beginInstruction.nmiBlocked = s.nmiBlocked := rfl
@[simp] theorem State.beginInstruction_delivering : s.beginInstruction.delivering = s.delivering := rfl
@[simp] theorem State.beginInstruction_smcDirty : s.beginInstruction.smcDirty = s.smcDirty := rfl
@[simp] theorem State.beginInstruction_mem : s.beginInstruction.mem = s.mem := rfl
@[simp] theorem State.beginInstruction_ioWrites : s.beginInstruction.ioWrites = s.ioWrites := rfl
@[simp] theorem State.beginInstruction_pagingSignals : s.beginInstruction.pagingSignals = s.pagingSignals := rfl
@[simp] theorem State.beginInstruction_classOut : s.beginInstruction.classOut = s.classOut := rfl
@[simp] theorem State.beginInstruction_tick : s.beginInstruction.tick = s.tick := rfl
@[simp] theorem State.beginInstruction_inputs : s.beginInstruction.inputs = s.inputs := rfl

@[simp] theorem State.beginStep_gpr : s.beginStep.gpr = s.gpr := rfl
@[simp] theorem State.beginStep_eip : s.beginStep.eip = s.eip := rfl
@[simp] theorem State.beginStep_es : s.beginStep.es = s.es := rfl
@[simp] theorem State.beginStep_cs : s.beginStep.cs = s.cs := rfl
@[simp] theorem State.beginStep_ss : s.beginStep.ss = s.ss := rfl
@[simp] theorem State.beginStep_ds : s.beginStep.ds = s.ds := rfl
@[simp] theorem State.beginStep_fs : s.beginStep.fs = s.fs := rfl
@[simp] theorem State.beginStep_gs : s.beginStep.gs = s.gs := rfl
@[simp] theorem State.beginStep_flags : s.beginStep.flags = s.flags := rfl
@[simp] theorem State.beginStep_cr0 : s.beginStep.cr0 = s.cr0 := rfl
@[simp] theorem State.beginStep_cr2 : s.beginStep.cr2 = s.cr2 := rfl
@[simp] theorem State.beginStep_cr3 : s.beginStep.cr3 = s.cr3 := rfl
@[simp] theorem State.beginStep_cr4 : s.beginStep.cr4 = s.cr4 := rfl
@[simp] theorem State.beginStep_gdtr : s.beginStep.gdtr = s.gdtr := rfl
@[simp] theorem State.beginStep_idtr : s.beginStep.idtr = s.idtr := rfl
@[simp] theorem State.beginStep_ldtr : s.beginStep.ldtr = s.ldtr := rfl
@[simp] theorem State.beginStep_tr : s.beginStep.tr = s.tr := rfl
@[simp] theorem State.beginStep_cpl : s.beginStep.cpl = s.cpl := rfl
@[simp] theorem State.beginStep_dr0 : s.beginStep.dr0 = s.dr0 := rfl
@[simp] theorem State.beginStep_dr1 : s.beginStep.dr1 = s.dr1 := rfl
@[simp] theorem State.beginStep_dr2 : s.beginStep.dr2 = s.dr2 := rfl
@[simp] theorem State.beginStep_dr3 : s.beginStep.dr3 = s.dr3 := rfl
@[simp] theorem State.beginStep_dr6 : s.beginStep.dr6 = s.dr6 := rfl
@[simp] theorem State.beginStep_dr7 : s.beginStep.dr7 = s.dr7 := rfl
@[simp] theorem State.beginStep_tsc : s.beginStep.tsc = s.tsc := rfl
@[simp] theorem State.beginStep_intShadow : s.beginStep.intShadow = s.intShadow := rfl
@[simp] theorem State.beginStep_pendingTrapDB : s.beginStep.pendingTrapDB = s.pendingTrapDB := rfl
@[simp] theorem State.beginStep_trapPostponed : s.beginStep.trapPostponed = s.trapPostponed := rfl
@[simp] theorem State.beginStep_halted : s.beginStep.halted = s.halted := rfl
@[simp] theorem State.beginStep_shutdown : s.beginStep.shutdown = s.shutdown := rfl
@[simp] theorem State.beginStep_nmiBlocked : s.beginStep.nmiBlocked = s.nmiBlocked := rfl
@[simp] theorem State.beginStep_delivering : s.beginStep.delivering = s.delivering := rfl
@[simp] theorem State.beginStep_smcDirty : s.beginStep.smcDirty = s.smcDirty := rfl
@[simp] theorem State.beginStep_mem : s.beginStep.mem = s.mem := rfl
@[simp] theorem State.beginStep_ioWrites : s.beginStep.ioWrites = s.ioWrites := rfl
@[simp] theorem State.beginStep_pagingSignals : s.beginStep.pagingSignals = s.pagingSignals := rfl

@[simp] theorem State.setSp_eip (v : Word) : (s.setSp v).eip = s.eip := by unfold State.setSp; split <;> rfl
@[simp] theorem State.setSp_es (v : Word) : (s.setSp v).es = s.es := by unfold State.setSp; split <;> rfl
@[simp] theorem State.setSp_cs (v : Word) : (s.setSp v).cs = s.cs := by unfold State.setSp; split <;> rfl
@[simp] theorem State.setSp_ss (v : Word) : (s.setSp v).ss = s.ss := by unfold State.setSp; split <;> rfl
@[simp] theorem State.setSp_ds (v : Word) : (s.setSp v).ds = s.ds := by unfold State.setSp; split <;> rfl
@[simp] theorem State.setSp_fs (v : Word) : (s.setSp v).fs = s.fs := by unfold State.setSp; split <;> rfl
@[simp] theorem State.setSp_gs (v : Word) : (s.setSp v).gs = s.gs := by unfold State.setSp; split <;> rfl
@[simp] theorem State.setSp_flags (v : Word) : (s.setSp v).flags = s.flags := by unfold State.setSp; split <;> rfl
@[simp] theorem State.setSp_cr0 (v : Word) : (s.setSp v).cr0 = s.cr0 := by unfold State.setSp; split <;> rfl
@[simp] theorem State.setSp_cr2 (v : Word) : (s.setSp v).cr2 = s.cr2 := by unfold State.setSp; split <;> rfl
@[simp] theorem State.setSp_cr3 (v : Word) : (s.setSp v).cr3 = s.cr3 := by unfold State.setSp; split <;> rfl
@[simp] theorem State.setSp_cr4 (v : Word) : (s.setSp v).cr4 = s.cr4 := by unfold State.setSp; split <;> rfl
@[simp] theorem State.setSp_gdtr (v : Word) : (s.setSp v).gdtr = s.gdtr := by unfold State.setSp; split <;> rfl
@[simp] theorem State.setSp_idtr (v : Word) : (s.setSp v).idtr = s.idtr := by unfold State.setSp; split <;> rfl
@[simp] theorem State.setSp_ldtr (v : Word) : (s.setSp v).ldtr = s.ldtr := by unfold State.setSp; split <;> rfl
@[simp] theorem State.setSp_tr (v : Word) : (s.setSp v).tr = s.tr := by unfold State.setSp; split <;> rfl
@[simp] theorem State.setSp_cpl (v : Word) : (s.setSp v).cpl = s.cpl := by unfold State.setSp; split <;> rfl
@[simp] theorem State.setSp_dr0 (v : Word) : (s.setSp v).dr0 = s.dr0 := by unfold State.setSp; split <;> rfl
@[simp] theorem State.setSp_dr1 (v : Word) : (s.setSp v).dr1 = s.dr1 := by unfold State.setSp; split <;> rfl
@[simp] theorem State.setSp_dr2 (v : Word) : (s.setSp v).dr2 = s.dr2 := by unfold State.setSp; split <;> rfl
@[simp] theorem State.setSp_dr3 (v : Word) : (s.setSp v).dr3 = s.dr3 := by unfold State.setSp; split <;> rfl
@[simp] theorem State.setSp_dr6 (v : Word) : (s.setSp v).dr6 = s.dr6 := by unfold State.setSp; split <;> rfl
@[simp] theorem State.setSp_dr7 (v : Word) : (s.setSp v).dr7 = s.dr7 := by unfold State.setSp; split <;> rfl
@[simp] theorem State.setSp_tsc (v : Word) : (s.setSp v).tsc = s.tsc := by unfold State.setSp; split <;> rfl
@[simp] theorem State.setSp_intShadow (v : Word) : (s.setSp v).intShadow = s.intShadow := by unfold State.setSp; split <;> rfl
@[simp] theorem State.setSp_pendingTrapDB (v : Word) : (s.setSp v).pendingTrapDB = s.pendingTrapDB := by unfold State.setSp; split <;> rfl
@[simp] theorem State.setSp_trapPostponed (v : Word) : (s.setSp v).trapPostponed = s.trapPostponed := by unfold State.setSp; split <;> rfl
@[simp] theorem State.setSp_halted (v : Word) : (s.setSp v).halted = s.halted := by unfold State.setSp; split <;> rfl
@[simp] theorem State.setSp_shutdown (v : Word) : (s.setSp v).shutdown = s.shutdown := by unfold State.setSp; split <;> rfl
@[simp] theorem State.setSp_nmiBlocked (v : Word) : (s.setSp v).nmiBlocked = s.nmiBlocked := by unfold State.setSp; split <;> rfl
@[simp] theorem State.setSp_delivering (v : Word) : (s.setSp v).delivering = s.delivering := by unfold State.setSp; split <;> rfl
@[simp] theorem State.setSp_smcDirty (v : Word) : (s.setSp v).smcDirty = s.smcDirty := by unfold State.setSp; split <;> rfl
@[simp] theorem State.setSp_mem (v : Word) : (s.setSp v).mem = s.mem := by unfold State.setSp; split <;> rfl
@[simp] theorem State.setSp_ioWrites (v : Word) : (s.setSp v).ioWrites = s.ioWrites := by unfold State.setSp; split <;> rfl
@[simp] theorem State.setSp_pagingSignals (v : Word) : (s.setSp v).pagingSignals = s.pagingSignals := by unfold State.setSp; split <;> rfl
@[simp] theorem State.setSp_classOut (v : Word) : (s.setSp v).classOut = s.classOut := by unfold State.setSp; split <;> rfl
@[simp] theorem State.setSp_tick (v : Word) : (s.setSp v).tick = s.tick := by unfold State.setSp; split <;> rfl
@[simp] theorem State.setSp_inputs (v : Word) : (s.setSp v).inputs = s.inputs := by unfold State.setSp; split <;> rfl

@[simp] theorem State.setStackReg_eip (r : BitVec 3) (v : Word) : (s.setStackReg r v).eip = s.eip := by unfold State.setStackReg; split <;> rfl
@[simp] theorem State.setStackReg_es (r : BitVec 3) (v : Word) : (s.setStackReg r v).es = s.es := by unfold State.setStackReg; split <;> rfl
@[simp] theorem State.setStackReg_cs (r : BitVec 3) (v : Word) : (s.setStackReg r v).cs = s.cs := by unfold State.setStackReg; split <;> rfl
@[simp] theorem State.setStackReg_ss (r : BitVec 3) (v : Word) : (s.setStackReg r v).ss = s.ss := by unfold State.setStackReg; split <;> rfl
@[simp] theorem State.setStackReg_ds (r : BitVec 3) (v : Word) : (s.setStackReg r v).ds = s.ds := by unfold State.setStackReg; split <;> rfl
@[simp] theorem State.setStackReg_fs (r : BitVec 3) (v : Word) : (s.setStackReg r v).fs = s.fs := by unfold State.setStackReg; split <;> rfl
@[simp] theorem State.setStackReg_gs (r : BitVec 3) (v : Word) : (s.setStackReg r v).gs = s.gs := by unfold State.setStackReg; split <;> rfl
@[simp] theorem State.setStackReg_flags (r : BitVec 3) (v : Word) : (s.setStackReg r v).flags = s.flags := by unfold State.setStackReg; split <;> rfl
@[simp] theorem State.setStackReg_cr0 (r : BitVec 3) (v : Word) : (s.setStackReg r v).cr0 = s.cr0 := by unfold State.setStackReg; split <;> rfl
@[simp] theorem State.setStackReg_cr2 (r : BitVec 3) (v : Word) : (s.setStackReg r v).cr2 = s.cr2 := by unfold State.setStackReg; split <;> rfl
@[simp] theorem State.setStackReg_cr3 (r : BitVec 3) (v : Word) : (s.setStackReg r v).cr3 = s.cr3 := by unfold State.setStackReg; split <;> rfl
@[simp] theorem State.setStackReg_cr4 (r : BitVec 3) (v : Word) : (s.setStackReg r v).cr4 = s.cr4 := by unfold State.setStackReg; split <;> rfl
@[simp] theorem State.setStackReg_gdtr (r : BitVec 3) (v : Word) : (s.setStackReg r v).gdtr = s.gdtr := by unfold State.setStackReg; split <;> rfl
@[simp] theorem State.setStackReg_idtr (r : BitVec 3) (v : Word) : (s.setStackReg r v).idtr = s.idtr := by unfold State.setStackReg; split <;> rfl
@[simp] theorem State.setStackReg_ldtr (r : BitVec 3) (v : Word) : (s.setStackReg r v).ldtr = s.ldtr := by unfold State.setStackReg; split <;> rfl
@[simp] theorem State.setStackReg_tr (r : BitVec 3) (v : Word) : (s.setStackReg r v).tr = s.tr := by unfold State.setStackReg; split <;> rfl
@[simp] theorem State.setStackReg_cpl (r : BitVec 3) (v : Word) : (s.setStackReg r v).cpl = s.cpl := by unfold State.setStackReg; split <;> rfl
@[simp] theorem State.setStackReg_dr0 (r : BitVec 3) (v : Word) : (s.setStackReg r v).dr0 = s.dr0 := by unfold State.setStackReg; split <;> rfl
@[simp] theorem State.setStackReg_dr1 (r : BitVec 3) (v : Word) : (s.setStackReg r v).dr1 = s.dr1 := by unfold State.setStackReg; split <;> rfl
@[simp] theorem State.setStackReg_dr2 (r : BitVec 3) (v : Word) : (s.setStackReg r v).dr2 = s.dr2 := by unfold State.setStackReg; split <;> rfl
@[simp] theorem State.setStackReg_dr3 (r : BitVec 3) (v : Word) : (s.setStackReg r v).dr3 = s.dr3 := by unfold State.setStackReg; split <;> rfl
@[simp] theorem State.setStackReg_dr6 (r : BitVec 3) (v : Word) : (s.setStackReg r v).dr6 = s.dr6 := by unfold State.setStackReg; split <;> rfl
@[simp] theorem State.setStackReg_dr7 (r : BitVec 3) (v : Word) : (s.setStackReg r v).dr7 = s.dr7 := by unfold State.setStackReg; split <;> rfl
@[simp] theorem State.setStackReg_tsc (r : BitVec 3) (v : Word) : (s.setStackReg r v).tsc = s.tsc := by unfold State.setStackReg; split <;> rfl
@[simp] theorem State.setStackReg_intShadow (r : BitVec 3) (v : Word) : (s.setStackReg r v).intShadow = s.intShadow := by unfold State.setStackReg; split <;> rfl
@[simp] theorem State.setStackReg_pendingTrapDB (r : BitVec 3) (v : Word) : (s.setStackReg r v).pendingTrapDB = s.pendingTrapDB := by unfold State.setStackReg; split <;> rfl
@[simp] theorem State.setStackReg_trapPostponed (r : BitVec 3) (v : Word) : (s.setStackReg r v).trapPostponed = s.trapPostponed := by unfold State.setStackReg; split <;> rfl
@[simp] theorem State.setStackReg_halted (r : BitVec 3) (v : Word) : (s.setStackReg r v).halted = s.halted := by unfold State.setStackReg; split <;> rfl
@[simp] theorem State.setStackReg_shutdown (r : BitVec 3) (v : Word) : (s.setStackReg r v).shutdown = s.shutdown := by unfold State.setStackReg; split <;> rfl
@[simp] theorem State.setStackReg_nmiBlocked (r : BitVec 3) (v : Word) : (s.setStackReg r v).nmiBlocked = s.nmiBlocked := by unfold State.setStackReg; split <;> rfl
@[simp] theorem State.setStackReg_delivering (r : BitVec 3) (v : Word) : (s.setStackReg r v).delivering = s.delivering := by unfold State.setStackReg; split <;> rfl
@[simp] theorem State.setStackReg_smcDirty (r : BitVec 3) (v : Word) : (s.setStackReg r v).smcDirty = s.smcDirty := by unfold State.setStackReg; split <;> rfl
@[simp] theorem State.setStackReg_mem (r : BitVec 3) (v : Word) : (s.setStackReg r v).mem = s.mem := by unfold State.setStackReg; split <;> rfl
@[simp] theorem State.setStackReg_ioWrites (r : BitVec 3) (v : Word) : (s.setStackReg r v).ioWrites = s.ioWrites := by unfold State.setStackReg; split <;> rfl
@[simp] theorem State.setStackReg_pagingSignals (r : BitVec 3) (v : Word) : (s.setStackReg r v).pagingSignals = s.pagingSignals := by unfold State.setStackReg; split <;> rfl
@[simp] theorem State.setStackReg_classOut (r : BitVec 3) (v : Word) : (s.setStackReg r v).classOut = s.classOut := by unfold State.setStackReg; split <;> rfl
@[simp] theorem State.setStackReg_tick (r : BitVec 3) (v : Word) : (s.setStackReg r v).tick = s.tick := by unfold State.setStackReg; split <;> rfl
@[simp] theorem State.setStackReg_inputs (r : BitVec 3) (v : Word) : (s.setStackReg r v).inputs = s.inputs := by unfold State.setStackReg; split <;> rfl

@[simp] theorem State.dropStack_eip (d : Word) : (s.dropStack d).eip = s.eip := by simp [State.dropStack]
@[simp] theorem State.dropStack_es (d : Word) : (s.dropStack d).es = s.es := by simp [State.dropStack]
@[simp] theorem State.dropStack_cs (d : Word) : (s.dropStack d).cs = s.cs := by simp [State.dropStack]
@[simp] theorem State.dropStack_ss (d : Word) : (s.dropStack d).ss = s.ss := by simp [State.dropStack]
@[simp] theorem State.dropStack_ds (d : Word) : (s.dropStack d).ds = s.ds := by simp [State.dropStack]
@[simp] theorem State.dropStack_fs (d : Word) : (s.dropStack d).fs = s.fs := by simp [State.dropStack]
@[simp] theorem State.dropStack_gs (d : Word) : (s.dropStack d).gs = s.gs := by simp [State.dropStack]
@[simp] theorem State.dropStack_flags (d : Word) : (s.dropStack d).flags = s.flags := by simp [State.dropStack]
@[simp] theorem State.dropStack_cr0 (d : Word) : (s.dropStack d).cr0 = s.cr0 := by simp [State.dropStack]
@[simp] theorem State.dropStack_cr2 (d : Word) : (s.dropStack d).cr2 = s.cr2 := by simp [State.dropStack]
@[simp] theorem State.dropStack_cr3 (d : Word) : (s.dropStack d).cr3 = s.cr3 := by simp [State.dropStack]
@[simp] theorem State.dropStack_cr4 (d : Word) : (s.dropStack d).cr4 = s.cr4 := by simp [State.dropStack]
@[simp] theorem State.dropStack_gdtr (d : Word) : (s.dropStack d).gdtr = s.gdtr := by simp [State.dropStack]
@[simp] theorem State.dropStack_idtr (d : Word) : (s.dropStack d).idtr = s.idtr := by simp [State.dropStack]
@[simp] theorem State.dropStack_ldtr (d : Word) : (s.dropStack d).ldtr = s.ldtr := by simp [State.dropStack]
@[simp] theorem State.dropStack_tr (d : Word) : (s.dropStack d).tr = s.tr := by simp [State.dropStack]
@[simp] theorem State.dropStack_cpl (d : Word) : (s.dropStack d).cpl = s.cpl := by simp [State.dropStack]
@[simp] theorem State.dropStack_dr0 (d : Word) : (s.dropStack d).dr0 = s.dr0 := by simp [State.dropStack]
@[simp] theorem State.dropStack_dr1 (d : Word) : (s.dropStack d).dr1 = s.dr1 := by simp [State.dropStack]
@[simp] theorem State.dropStack_dr2 (d : Word) : (s.dropStack d).dr2 = s.dr2 := by simp [State.dropStack]
@[simp] theorem State.dropStack_dr3 (d : Word) : (s.dropStack d).dr3 = s.dr3 := by simp [State.dropStack]
@[simp] theorem State.dropStack_dr6 (d : Word) : (s.dropStack d).dr6 = s.dr6 := by simp [State.dropStack]
@[simp] theorem State.dropStack_dr7 (d : Word) : (s.dropStack d).dr7 = s.dr7 := by simp [State.dropStack]
@[simp] theorem State.dropStack_tsc (d : Word) : (s.dropStack d).tsc = s.tsc := by simp [State.dropStack]
@[simp] theorem State.dropStack_intShadow (d : Word) : (s.dropStack d).intShadow = s.intShadow := by simp [State.dropStack]
@[simp] theorem State.dropStack_pendingTrapDB (d : Word) : (s.dropStack d).pendingTrapDB = s.pendingTrapDB := by simp [State.dropStack]
@[simp] theorem State.dropStack_trapPostponed (d : Word) : (s.dropStack d).trapPostponed = s.trapPostponed := by simp [State.dropStack]
@[simp] theorem State.dropStack_halted (d : Word) : (s.dropStack d).halted = s.halted := by simp [State.dropStack]
@[simp] theorem State.dropStack_shutdown (d : Word) : (s.dropStack d).shutdown = s.shutdown := by simp [State.dropStack]
@[simp] theorem State.dropStack_nmiBlocked (d : Word) : (s.dropStack d).nmiBlocked = s.nmiBlocked := by simp [State.dropStack]
@[simp] theorem State.dropStack_delivering (d : Word) : (s.dropStack d).delivering = s.delivering := by simp [State.dropStack]
@[simp] theorem State.dropStack_smcDirty (d : Word) : (s.dropStack d).smcDirty = s.smcDirty := by simp [State.dropStack]
@[simp] theorem State.dropStack_mem (d : Word) : (s.dropStack d).mem = s.mem := by simp [State.dropStack]
@[simp] theorem State.dropStack_ioWrites (d : Word) : (s.dropStack d).ioWrites = s.ioWrites := by simp [State.dropStack]
@[simp] theorem State.dropStack_pagingSignals (d : Word) : (s.dropStack d).pagingSignals = s.pagingSignals := by simp [State.dropStack]
@[simp] theorem State.dropStack_classOut (d : Word) : (s.dropStack d).classOut = s.classOut := by simp [State.dropStack]
@[simp] theorem State.dropStack_tick (d : Word) : (s.dropStack d).tick = s.tick := by simp [State.dropStack]
@[simp] theorem State.dropStack_inputs (d : Word) : (s.dropStack d).inputs = s.inputs := by simp [State.dropStack]

@[simp] theorem State.setAddrReg_eip (b : Bound) (r : BitVec 3) (v : Word) : (s.setAddrReg b r v).eip = s.eip := by unfold State.setAddrReg; split <;> rfl
@[simp] theorem State.setAddrReg_es (b : Bound) (r : BitVec 3) (v : Word) : (s.setAddrReg b r v).es = s.es := by unfold State.setAddrReg; split <;> rfl
@[simp] theorem State.setAddrReg_cs (b : Bound) (r : BitVec 3) (v : Word) : (s.setAddrReg b r v).cs = s.cs := by unfold State.setAddrReg; split <;> rfl
@[simp] theorem State.setAddrReg_ss (b : Bound) (r : BitVec 3) (v : Word) : (s.setAddrReg b r v).ss = s.ss := by unfold State.setAddrReg; split <;> rfl
@[simp] theorem State.setAddrReg_ds (b : Bound) (r : BitVec 3) (v : Word) : (s.setAddrReg b r v).ds = s.ds := by unfold State.setAddrReg; split <;> rfl
@[simp] theorem State.setAddrReg_fs (b : Bound) (r : BitVec 3) (v : Word) : (s.setAddrReg b r v).fs = s.fs := by unfold State.setAddrReg; split <;> rfl
@[simp] theorem State.setAddrReg_gs (b : Bound) (r : BitVec 3) (v : Word) : (s.setAddrReg b r v).gs = s.gs := by unfold State.setAddrReg; split <;> rfl
@[simp] theorem State.setAddrReg_flags (b : Bound) (r : BitVec 3) (v : Word) : (s.setAddrReg b r v).flags = s.flags := by unfold State.setAddrReg; split <;> rfl
@[simp] theorem State.setAddrReg_cr0 (b : Bound) (r : BitVec 3) (v : Word) : (s.setAddrReg b r v).cr0 = s.cr0 := by unfold State.setAddrReg; split <;> rfl
@[simp] theorem State.setAddrReg_cr2 (b : Bound) (r : BitVec 3) (v : Word) : (s.setAddrReg b r v).cr2 = s.cr2 := by unfold State.setAddrReg; split <;> rfl
@[simp] theorem State.setAddrReg_cr3 (b : Bound) (r : BitVec 3) (v : Word) : (s.setAddrReg b r v).cr3 = s.cr3 := by unfold State.setAddrReg; split <;> rfl
@[simp] theorem State.setAddrReg_cr4 (b : Bound) (r : BitVec 3) (v : Word) : (s.setAddrReg b r v).cr4 = s.cr4 := by unfold State.setAddrReg; split <;> rfl
@[simp] theorem State.setAddrReg_gdtr (b : Bound) (r : BitVec 3) (v : Word) : (s.setAddrReg b r v).gdtr = s.gdtr := by unfold State.setAddrReg; split <;> rfl
@[simp] theorem State.setAddrReg_idtr (b : Bound) (r : BitVec 3) (v : Word) : (s.setAddrReg b r v).idtr = s.idtr := by unfold State.setAddrReg; split <;> rfl
@[simp] theorem State.setAddrReg_ldtr (b : Bound) (r : BitVec 3) (v : Word) : (s.setAddrReg b r v).ldtr = s.ldtr := by unfold State.setAddrReg; split <;> rfl
@[simp] theorem State.setAddrReg_tr (b : Bound) (r : BitVec 3) (v : Word) : (s.setAddrReg b r v).tr = s.tr := by unfold State.setAddrReg; split <;> rfl
@[simp] theorem State.setAddrReg_cpl (b : Bound) (r : BitVec 3) (v : Word) : (s.setAddrReg b r v).cpl = s.cpl := by unfold State.setAddrReg; split <;> rfl
@[simp] theorem State.setAddrReg_dr0 (b : Bound) (r : BitVec 3) (v : Word) : (s.setAddrReg b r v).dr0 = s.dr0 := by unfold State.setAddrReg; split <;> rfl
@[simp] theorem State.setAddrReg_dr1 (b : Bound) (r : BitVec 3) (v : Word) : (s.setAddrReg b r v).dr1 = s.dr1 := by unfold State.setAddrReg; split <;> rfl
@[simp] theorem State.setAddrReg_dr2 (b : Bound) (r : BitVec 3) (v : Word) : (s.setAddrReg b r v).dr2 = s.dr2 := by unfold State.setAddrReg; split <;> rfl
@[simp] theorem State.setAddrReg_dr3 (b : Bound) (r : BitVec 3) (v : Word) : (s.setAddrReg b r v).dr3 = s.dr3 := by unfold State.setAddrReg; split <;> rfl
@[simp] theorem State.setAddrReg_dr6 (b : Bound) (r : BitVec 3) (v : Word) : (s.setAddrReg b r v).dr6 = s.dr6 := by unfold State.setAddrReg; split <;> rfl
@[simp] theorem State.setAddrReg_dr7 (b : Bound) (r : BitVec 3) (v : Word) : (s.setAddrReg b r v).dr7 = s.dr7 := by unfold State.setAddrReg; split <;> rfl
@[simp] theorem State.setAddrReg_tsc (b : Bound) (r : BitVec 3) (v : Word) : (s.setAddrReg b r v).tsc = s.tsc := by unfold State.setAddrReg; split <;> rfl
@[simp] theorem State.setAddrReg_intShadow (b : Bound) (r : BitVec 3) (v : Word) : (s.setAddrReg b r v).intShadow = s.intShadow := by unfold State.setAddrReg; split <;> rfl
@[simp] theorem State.setAddrReg_pendingTrapDB (b : Bound) (r : BitVec 3) (v : Word) : (s.setAddrReg b r v).pendingTrapDB = s.pendingTrapDB := by unfold State.setAddrReg; split <;> rfl
@[simp] theorem State.setAddrReg_trapPostponed (b : Bound) (r : BitVec 3) (v : Word) : (s.setAddrReg b r v).trapPostponed = s.trapPostponed := by unfold State.setAddrReg; split <;> rfl
@[simp] theorem State.setAddrReg_halted (b : Bound) (r : BitVec 3) (v : Word) : (s.setAddrReg b r v).halted = s.halted := by unfold State.setAddrReg; split <;> rfl
@[simp] theorem State.setAddrReg_shutdown (b : Bound) (r : BitVec 3) (v : Word) : (s.setAddrReg b r v).shutdown = s.shutdown := by unfold State.setAddrReg; split <;> rfl
@[simp] theorem State.setAddrReg_nmiBlocked (b : Bound) (r : BitVec 3) (v : Word) : (s.setAddrReg b r v).nmiBlocked = s.nmiBlocked := by unfold State.setAddrReg; split <;> rfl
@[simp] theorem State.setAddrReg_delivering (b : Bound) (r : BitVec 3) (v : Word) : (s.setAddrReg b r v).delivering = s.delivering := by unfold State.setAddrReg; split <;> rfl
@[simp] theorem State.setAddrReg_smcDirty (b : Bound) (r : BitVec 3) (v : Word) : (s.setAddrReg b r v).smcDirty = s.smcDirty := by unfold State.setAddrReg; split <;> rfl
@[simp] theorem State.setAddrReg_mem (b : Bound) (r : BitVec 3) (v : Word) : (s.setAddrReg b r v).mem = s.mem := by unfold State.setAddrReg; split <;> rfl
@[simp] theorem State.setAddrReg_ioWrites (b : Bound) (r : BitVec 3) (v : Word) : (s.setAddrReg b r v).ioWrites = s.ioWrites := by unfold State.setAddrReg; split <;> rfl
@[simp] theorem State.setAddrReg_pagingSignals (b : Bound) (r : BitVec 3) (v : Word) : (s.setAddrReg b r v).pagingSignals = s.pagingSignals := by unfold State.setAddrReg; split <;> rfl
@[simp] theorem State.setAddrReg_classOut (b : Bound) (r : BitVec 3) (v : Word) : (s.setAddrReg b r v).classOut = s.classOut := by unfold State.setAddrReg; split <;> rfl
@[simp] theorem State.setAddrReg_tick (b : Bound) (r : BitVec 3) (v : Word) : (s.setAddrReg b r v).tick = s.tick := by unfold State.setAddrReg; split <;> rfl
@[simp] theorem State.setAddrReg_inputs (b : Bound) (r : BitVec 3) (v : Word) : (s.setAddrReg b r v).inputs = s.inputs := by unfold State.setAddrReg; split <;> rfl

@[simp] theorem State.signalIf_gpr (c : Bool) : (s.signalIf c).gpr = s.gpr := by unfold State.signalIf; split <;> rfl
@[simp] theorem State.signalIf_eip (c : Bool) : (s.signalIf c).eip = s.eip := by unfold State.signalIf; split <;> rfl
@[simp] theorem State.signalIf_es (c : Bool) : (s.signalIf c).es = s.es := by unfold State.signalIf; split <;> rfl
@[simp] theorem State.signalIf_cs (c : Bool) : (s.signalIf c).cs = s.cs := by unfold State.signalIf; split <;> rfl
@[simp] theorem State.signalIf_ss (c : Bool) : (s.signalIf c).ss = s.ss := by unfold State.signalIf; split <;> rfl
@[simp] theorem State.signalIf_ds (c : Bool) : (s.signalIf c).ds = s.ds := by unfold State.signalIf; split <;> rfl
@[simp] theorem State.signalIf_fs (c : Bool) : (s.signalIf c).fs = s.fs := by unfold State.signalIf; split <;> rfl
@[simp] theorem State.signalIf_gs (c : Bool) : (s.signalIf c).gs = s.gs := by unfold State.signalIf; split <;> rfl
@[simp] theorem State.signalIf_flags (c : Bool) : (s.signalIf c).flags = s.flags := by unfold State.signalIf; split <;> rfl
@[simp] theorem State.signalIf_cr0 (c : Bool) : (s.signalIf c).cr0 = s.cr0 := by unfold State.signalIf; split <;> rfl
@[simp] theorem State.signalIf_cr2 (c : Bool) : (s.signalIf c).cr2 = s.cr2 := by unfold State.signalIf; split <;> rfl
@[simp] theorem State.signalIf_cr3 (c : Bool) : (s.signalIf c).cr3 = s.cr3 := by unfold State.signalIf; split <;> rfl
@[simp] theorem State.signalIf_cr4 (c : Bool) : (s.signalIf c).cr4 = s.cr4 := by unfold State.signalIf; split <;> rfl
@[simp] theorem State.signalIf_gdtr (c : Bool) : (s.signalIf c).gdtr = s.gdtr := by unfold State.signalIf; split <;> rfl
@[simp] theorem State.signalIf_idtr (c : Bool) : (s.signalIf c).idtr = s.idtr := by unfold State.signalIf; split <;> rfl
@[simp] theorem State.signalIf_ldtr (c : Bool) : (s.signalIf c).ldtr = s.ldtr := by unfold State.signalIf; split <;> rfl
@[simp] theorem State.signalIf_tr (c : Bool) : (s.signalIf c).tr = s.tr := by unfold State.signalIf; split <;> rfl
@[simp] theorem State.signalIf_cpl (c : Bool) : (s.signalIf c).cpl = s.cpl := by unfold State.signalIf; split <;> rfl
@[simp] theorem State.signalIf_dr0 (c : Bool) : (s.signalIf c).dr0 = s.dr0 := by unfold State.signalIf; split <;> rfl
@[simp] theorem State.signalIf_dr1 (c : Bool) : (s.signalIf c).dr1 = s.dr1 := by unfold State.signalIf; split <;> rfl
@[simp] theorem State.signalIf_dr2 (c : Bool) : (s.signalIf c).dr2 = s.dr2 := by unfold State.signalIf; split <;> rfl
@[simp] theorem State.signalIf_dr3 (c : Bool) : (s.signalIf c).dr3 = s.dr3 := by unfold State.signalIf; split <;> rfl
@[simp] theorem State.signalIf_dr6 (c : Bool) : (s.signalIf c).dr6 = s.dr6 := by unfold State.signalIf; split <;> rfl
@[simp] theorem State.signalIf_dr7 (c : Bool) : (s.signalIf c).dr7 = s.dr7 := by unfold State.signalIf; split <;> rfl
@[simp] theorem State.signalIf_tsc (c : Bool) : (s.signalIf c).tsc = s.tsc := by unfold State.signalIf; split <;> rfl
@[simp] theorem State.signalIf_intShadow (c : Bool) : (s.signalIf c).intShadow = s.intShadow := by unfold State.signalIf; split <;> rfl
@[simp] theorem State.signalIf_pendingTrapDB (c : Bool) : (s.signalIf c).pendingTrapDB = s.pendingTrapDB := by unfold State.signalIf; split <;> rfl
@[simp] theorem State.signalIf_trapPostponed (c : Bool) : (s.signalIf c).trapPostponed = s.trapPostponed := by unfold State.signalIf; split <;> rfl
@[simp] theorem State.signalIf_halted (c : Bool) : (s.signalIf c).halted = s.halted := by unfold State.signalIf; split <;> rfl
@[simp] theorem State.signalIf_shutdown (c : Bool) : (s.signalIf c).shutdown = s.shutdown := by unfold State.signalIf; split <;> rfl
@[simp] theorem State.signalIf_nmiBlocked (c : Bool) : (s.signalIf c).nmiBlocked = s.nmiBlocked := by unfold State.signalIf; split <;> rfl
@[simp] theorem State.signalIf_delivering (c : Bool) : (s.signalIf c).delivering = s.delivering := by unfold State.signalIf; split <;> rfl
@[simp] theorem State.signalIf_smcDirty (c : Bool) : (s.signalIf c).smcDirty = s.smcDirty := by unfold State.signalIf; split <;> rfl
@[simp] theorem State.signalIf_mem (c : Bool) : (s.signalIf c).mem = s.mem := by unfold State.signalIf; split <;> rfl
@[simp] theorem State.signalIf_ioWrites (c : Bool) : (s.signalIf c).ioWrites = s.ioWrites := by unfold State.signalIf; split <;> rfl
@[simp] theorem State.signalIf_classOut (c : Bool) : (s.signalIf c).classOut = s.classOut := by unfold State.signalIf; split <;> rfl
@[simp] theorem State.signalIf_tick (c : Bool) : (s.signalIf c).tick = s.tick := by unfold State.signalIf; split <;> rfl
@[simp] theorem State.signalIf_inputs (c : Bool) : (s.signalIf c).inputs = s.inputs := by unfold State.signalIf; split <;> rfl

@[simp] theorem State.noteFault_gpr (e : Exc) : (s.noteFault e).gpr = s.gpr := by cases e <;> rfl
@[simp] theorem State.noteFault_eip (e : Exc) : (s.noteFault e).eip = s.eip := by cases e <;> rfl
@[simp] theorem State.noteFault_es (e : Exc) : (s.noteFault e).es = s.es := by cases e <;> rfl
@[simp] theorem State.noteFault_cs (e : Exc) : (s.noteFault e).cs = s.cs := by cases e <;> rfl
@[simp] theorem State.noteFault_ss (e : Exc) : (s.noteFault e).ss = s.ss := by cases e <;> rfl
@[simp] theorem State.noteFault_ds (e : Exc) : (s.noteFault e).ds = s.ds := by cases e <;> rfl
@[simp] theorem State.noteFault_fs (e : Exc) : (s.noteFault e).fs = s.fs := by cases e <;> rfl
@[simp] theorem State.noteFault_gs (e : Exc) : (s.noteFault e).gs = s.gs := by cases e <;> rfl
@[simp] theorem State.noteFault_flags (e : Exc) : (s.noteFault e).flags = s.flags := by cases e <;> rfl
@[simp] theorem State.noteFault_cr0 (e : Exc) : (s.noteFault e).cr0 = s.cr0 := by cases e <;> rfl
@[simp] theorem State.noteFault_cr3 (e : Exc) : (s.noteFault e).cr3 = s.cr3 := by cases e <;> rfl
@[simp] theorem State.noteFault_cr4 (e : Exc) : (s.noteFault e).cr4 = s.cr4 := by cases e <;> rfl
@[simp] theorem State.noteFault_gdtr (e : Exc) : (s.noteFault e).gdtr = s.gdtr := by cases e <;> rfl
@[simp] theorem State.noteFault_idtr (e : Exc) : (s.noteFault e).idtr = s.idtr := by cases e <;> rfl
@[simp] theorem State.noteFault_ldtr (e : Exc) : (s.noteFault e).ldtr = s.ldtr := by cases e <;> rfl
@[simp] theorem State.noteFault_tr (e : Exc) : (s.noteFault e).tr = s.tr := by cases e <;> rfl
@[simp] theorem State.noteFault_cpl (e : Exc) : (s.noteFault e).cpl = s.cpl := by cases e <;> rfl
@[simp] theorem State.noteFault_dr0 (e : Exc) : (s.noteFault e).dr0 = s.dr0 := by cases e <;> rfl
@[simp] theorem State.noteFault_dr1 (e : Exc) : (s.noteFault e).dr1 = s.dr1 := by cases e <;> rfl
@[simp] theorem State.noteFault_dr2 (e : Exc) : (s.noteFault e).dr2 = s.dr2 := by cases e <;> rfl
@[simp] theorem State.noteFault_dr3 (e : Exc) : (s.noteFault e).dr3 = s.dr3 := by cases e <;> rfl
@[simp] theorem State.noteFault_dr6 (e : Exc) : (s.noteFault e).dr6 = s.dr6 := by cases e <;> rfl
@[simp] theorem State.noteFault_dr7 (e : Exc) : (s.noteFault e).dr7 = s.dr7 := by cases e <;> rfl
@[simp] theorem State.noteFault_tsc (e : Exc) : (s.noteFault e).tsc = s.tsc := by cases e <;> rfl
@[simp] theorem State.noteFault_intShadow (e : Exc) : (s.noteFault e).intShadow = s.intShadow := by cases e <;> rfl
@[simp] theorem State.noteFault_pendingTrapDB (e : Exc) : (s.noteFault e).pendingTrapDB = s.pendingTrapDB := by cases e <;> rfl
@[simp] theorem State.noteFault_trapPostponed (e : Exc) : (s.noteFault e).trapPostponed = s.trapPostponed := by cases e <;> rfl
@[simp] theorem State.noteFault_halted (e : Exc) : (s.noteFault e).halted = s.halted := by cases e <;> rfl
@[simp] theorem State.noteFault_shutdown (e : Exc) : (s.noteFault e).shutdown = s.shutdown := by cases e <;> rfl
@[simp] theorem State.noteFault_nmiBlocked (e : Exc) : (s.noteFault e).nmiBlocked = s.nmiBlocked := by cases e <;> rfl
@[simp] theorem State.noteFault_delivering (e : Exc) : (s.noteFault e).delivering = s.delivering := by cases e <;> rfl
@[simp] theorem State.noteFault_smcDirty (e : Exc) : (s.noteFault e).smcDirty = s.smcDirty := by cases e <;> rfl
@[simp] theorem State.noteFault_mem (e : Exc) : (s.noteFault e).mem = s.mem := by cases e <;> rfl
@[simp] theorem State.noteFault_ioWrites (e : Exc) : (s.noteFault e).ioWrites = s.ioWrites := by cases e <;> rfl
@[simp] theorem State.noteFault_pagingSignals (e : Exc) : (s.noteFault e).pagingSignals = s.pagingSignals := by cases e <;> rfl
@[simp] theorem State.noteFault_classOut (e : Exc) : (s.noteFault e).classOut = s.classOut := by cases e <;> rfl
@[simp] theorem State.noteFault_tick (e : Exc) : (s.noteFault e).tick = s.tick := by cases e <;> rfl
@[simp] theorem State.noteFault_inputs (e : Exc) : (s.noteFault e).inputs = s.inputs := by cases e <;> rfl

@[simp] theorem State.setSeg_gpr (r : SegReg) (c : SegCache) : (s.setSeg r c).gpr = s.gpr := by cases r <;> rfl
@[simp] theorem State.setSeg_eip (r : SegReg) (c : SegCache) : (s.setSeg r c).eip = s.eip := by cases r <;> rfl
@[simp] theorem State.setSeg_flags (r : SegReg) (c : SegCache) : (s.setSeg r c).flags = s.flags := by cases r <;> rfl
@[simp] theorem State.setSeg_cr0 (r : SegReg) (c : SegCache) : (s.setSeg r c).cr0 = s.cr0 := by cases r <;> rfl
@[simp] theorem State.setSeg_cr2 (r : SegReg) (c : SegCache) : (s.setSeg r c).cr2 = s.cr2 := by cases r <;> rfl
@[simp] theorem State.setSeg_cr3 (r : SegReg) (c : SegCache) : (s.setSeg r c).cr3 = s.cr3 := by cases r <;> rfl
@[simp] theorem State.setSeg_cr4 (r : SegReg) (c : SegCache) : (s.setSeg r c).cr4 = s.cr4 := by cases r <;> rfl
@[simp] theorem State.setSeg_gdtr (r : SegReg) (c : SegCache) : (s.setSeg r c).gdtr = s.gdtr := by cases r <;> rfl
@[simp] theorem State.setSeg_idtr (r : SegReg) (c : SegCache) : (s.setSeg r c).idtr = s.idtr := by cases r <;> rfl
@[simp] theorem State.setSeg_ldtr (r : SegReg) (c : SegCache) : (s.setSeg r c).ldtr = s.ldtr := by cases r <;> rfl
@[simp] theorem State.setSeg_tr (r : SegReg) (c : SegCache) : (s.setSeg r c).tr = s.tr := by cases r <;> rfl
@[simp] theorem State.setSeg_cpl (r : SegReg) (c : SegCache) : (s.setSeg r c).cpl = s.cpl := by cases r <;> rfl
@[simp] theorem State.setSeg_dr0 (r : SegReg) (c : SegCache) : (s.setSeg r c).dr0 = s.dr0 := by cases r <;> rfl
@[simp] theorem State.setSeg_dr1 (r : SegReg) (c : SegCache) : (s.setSeg r c).dr1 = s.dr1 := by cases r <;> rfl
@[simp] theorem State.setSeg_dr2 (r : SegReg) (c : SegCache) : (s.setSeg r c).dr2 = s.dr2 := by cases r <;> rfl
@[simp] theorem State.setSeg_dr3 (r : SegReg) (c : SegCache) : (s.setSeg r c).dr3 = s.dr3 := by cases r <;> rfl
@[simp] theorem State.setSeg_dr6 (r : SegReg) (c : SegCache) : (s.setSeg r c).dr6 = s.dr6 := by cases r <;> rfl
@[simp] theorem State.setSeg_dr7 (r : SegReg) (c : SegCache) : (s.setSeg r c).dr7 = s.dr7 := by cases r <;> rfl
@[simp] theorem State.setSeg_tsc (r : SegReg) (c : SegCache) : (s.setSeg r c).tsc = s.tsc := by cases r <;> rfl
@[simp] theorem State.setSeg_intShadow (r : SegReg) (c : SegCache) : (s.setSeg r c).intShadow = s.intShadow := by cases r <;> rfl
@[simp] theorem State.setSeg_pendingTrapDB (r : SegReg) (c : SegCache) : (s.setSeg r c).pendingTrapDB = s.pendingTrapDB := by cases r <;> rfl
@[simp] theorem State.setSeg_trapPostponed (r : SegReg) (c : SegCache) : (s.setSeg r c).trapPostponed = s.trapPostponed := by cases r <;> rfl
@[simp] theorem State.setSeg_halted (r : SegReg) (c : SegCache) : (s.setSeg r c).halted = s.halted := by cases r <;> rfl
@[simp] theorem State.setSeg_shutdown (r : SegReg) (c : SegCache) : (s.setSeg r c).shutdown = s.shutdown := by cases r <;> rfl
@[simp] theorem State.setSeg_nmiBlocked (r : SegReg) (c : SegCache) : (s.setSeg r c).nmiBlocked = s.nmiBlocked := by cases r <;> rfl
@[simp] theorem State.setSeg_delivering (r : SegReg) (c : SegCache) : (s.setSeg r c).delivering = s.delivering := by cases r <;> rfl
@[simp] theorem State.setSeg_smcDirty (r : SegReg) (c : SegCache) : (s.setSeg r c).smcDirty = s.smcDirty := by cases r <;> rfl
@[simp] theorem State.setSeg_mem (r : SegReg) (c : SegCache) : (s.setSeg r c).mem = s.mem := by cases r <;> rfl
@[simp] theorem State.setSeg_ioWrites (r : SegReg) (c : SegCache) : (s.setSeg r c).ioWrites = s.ioWrites := by cases r <;> rfl
@[simp] theorem State.setSeg_pagingSignals (r : SegReg) (c : SegCache) : (s.setSeg r c).pagingSignals = s.pagingSignals := by cases r <;> rfl
@[simp] theorem State.setSeg_classOut (r : SegReg) (c : SegCache) : (s.setSeg r c).classOut = s.classOut := by cases r <;> rfl
@[simp] theorem State.setSeg_tick (r : SegReg) (c : SegCache) : (s.setSeg r c).tick = s.tick := by cases r <;> rfl
@[simp] theorem State.setSeg_inputs (r : SegReg) (c : SegCache) : (s.setSeg r c).inputs = s.inputs := by cases r <;> rfl

@[simp] theorem retire_gpr (p : Bool) (c : FlowClass) : (retire s p t c).gpr = t.gpr := rfl
@[simp] theorem retire_eip (p : Bool) (c : FlowClass) : (retire s p t c).eip = t.eip := rfl
@[simp] theorem retire_es (p : Bool) (c : FlowClass) : (retire s p t c).es = t.es := rfl
@[simp] theorem retire_cs (p : Bool) (c : FlowClass) : (retire s p t c).cs = t.cs := rfl
@[simp] theorem retire_ss (p : Bool) (c : FlowClass) : (retire s p t c).ss = t.ss := rfl
@[simp] theorem retire_ds (p : Bool) (c : FlowClass) : (retire s p t c).ds = t.ds := rfl
@[simp] theorem retire_fs (p : Bool) (c : FlowClass) : (retire s p t c).fs = t.fs := rfl
@[simp] theorem retire_gs (p : Bool) (c : FlowClass) : (retire s p t c).gs = t.gs := rfl
@[simp] theorem retire_cr0 (p : Bool) (c : FlowClass) : (retire s p t c).cr0 = t.cr0 := rfl
@[simp] theorem retire_cr2 (p : Bool) (c : FlowClass) : (retire s p t c).cr2 = t.cr2 := rfl
@[simp] theorem retire_cr3 (p : Bool) (c : FlowClass) : (retire s p t c).cr3 = t.cr3 := rfl
@[simp] theorem retire_cr4 (p : Bool) (c : FlowClass) : (retire s p t c).cr4 = t.cr4 := rfl
@[simp] theorem retire_gdtr (p : Bool) (c : FlowClass) : (retire s p t c).gdtr = t.gdtr := rfl
@[simp] theorem retire_idtr (p : Bool) (c : FlowClass) : (retire s p t c).idtr = t.idtr := rfl
@[simp] theorem retire_ldtr (p : Bool) (c : FlowClass) : (retire s p t c).ldtr = t.ldtr := rfl
@[simp] theorem retire_tr (p : Bool) (c : FlowClass) : (retire s p t c).tr = t.tr := rfl
@[simp] theorem retire_cpl (p : Bool) (c : FlowClass) : (retire s p t c).cpl = t.cpl := rfl
@[simp] theorem retire_dr0 (p : Bool) (c : FlowClass) : (retire s p t c).dr0 = t.dr0 := rfl
@[simp] theorem retire_dr1 (p : Bool) (c : FlowClass) : (retire s p t c).dr1 = t.dr1 := rfl
@[simp] theorem retire_dr2 (p : Bool) (c : FlowClass) : (retire s p t c).dr2 = t.dr2 := rfl
@[simp] theorem retire_dr3 (p : Bool) (c : FlowClass) : (retire s p t c).dr3 = t.dr3 := rfl
@[simp] theorem retire_dr6 (p : Bool) (c : FlowClass) : (retire s p t c).dr6 = t.dr6 := rfl
@[simp] theorem retire_dr7 (p : Bool) (c : FlowClass) : (retire s p t c).dr7 = t.dr7 := rfl
@[simp] theorem retire_tsc (p : Bool) (c : FlowClass) : (retire s p t c).tsc = t.tsc := rfl
@[simp] theorem retire_intShadow (p : Bool) (c : FlowClass) : (retire s p t c).intShadow = t.intShadow := rfl
@[simp] theorem retire_trapPostponed (p : Bool) (c : FlowClass) : (retire s p t c).trapPostponed = t.trapPostponed := rfl
@[simp] theorem retire_halted (p : Bool) (c : FlowClass) : (retire s p t c).halted = t.halted := rfl
@[simp] theorem retire_shutdown (p : Bool) (c : FlowClass) : (retire s p t c).shutdown = t.shutdown := rfl
@[simp] theorem retire_nmiBlocked (p : Bool) (c : FlowClass) : (retire s p t c).nmiBlocked = t.nmiBlocked := rfl
@[simp] theorem retire_delivering (p : Bool) (c : FlowClass) : (retire s p t c).delivering = t.delivering := rfl
@[simp] theorem retire_mem (p : Bool) (c : FlowClass) : (retire s p t c).mem = t.mem := rfl
@[simp] theorem retire_ioWrites (p : Bool) (c : FlowClass) : (retire s p t c).ioWrites = t.ioWrites := rfl
@[simp] theorem retire_pagingSignals (p : Bool) (c : FlowClass) : (retire s p t c).pagingSignals = t.pagingSignals := rfl
@[simp] theorem retire_tick (p : Bool) (c : FlowClass) : (retire s p t c).tick = t.tick := rfl
@[simp] theorem retire_inputs (p : Bool) (c : FlowClass) : (retire s p t c).inputs = t.inputs := rfl

@[simp] theorem retire_flags (p : Bool) (c : FlowClass) : (retire s p t c).flags = { t.flags with rf := false } := rfl
@[simp] theorem retire_classOut (p : Bool) (c : FlowClass) : (retire s p t c).classOut = some c := rfl
@[simp] theorem State.setReg_gpr (w : Width) (r : BitVec 3) (v : BitVec w.bits) :
    (s.setReg w r v).gpr = s.gpr.write w r v := rfl
@[simp] theorem State.setFlags_flags (f : Flags) : (s.setFlags f).flags = f := rfl
@[simp] theorem State.advance_eip (b : Bound) : (s.advance b).eip = s.next b := rfl
@[simp] theorem State.serialise_smcDirty : s.serialise.smcDirty = [] := rfl
@[simp] theorem State.setSeg_seg (r : SegReg) (c : SegCache) : (s.setSeg r c).seg r = c := by cases r <;> rfl
theorem State.setSeg_seg_other (r q : SegReg) (c : SegCache) (h : q ≠ r) : (s.setSeg r c).seg q = s.seg q := by
  cases r <;> cases q <;> first | rfl | exact absurd rfl h

end Sys2Proof.Machine
end

