-- ==== Sys2Proof/Laws/Regs.lean ====
section
/-! SUPPORT. Laws of the general registers and their views, and of the flags image. -/
namespace Sys2Proof.Machine
open Sys2Proof

theorem bv3_cases (r : BitVec 3) :
    r = 0#3 ∨ r = 1#3 ∨ r = 2#3 ∨ r = 3#3 ∨ r = 4#3 ∨ r = 5#3 ∨ r = 6#3 ∨ r = 7#3 := by
  revert r; decide

theorem Gpr.get_set (g : Gpr) (r q : BitVec 3) (v : Word) : (g.set r v).get q = if q = r then v else g.get q := by
  rcases bv3_cases r with h | h | h | h | h | h | h | h <;>
  rcases bv3_cases q with h' | h' | h' | h' | h' | h' | h' | h' <;> subst h <;> subst h' <;> rfl

@[simp] theorem Gpr.get_set_same (g : Gpr) (r : BitVec 3) (v : Word) : (g.set r v).get r = v := by simp [Gpr.get_set]

theorem Gpr.get_set_other (g : Gpr) (r q : BitVec 3) (v : Word) (h : q ≠ r) : (g.set r v).get q = g.get q := by
  simp [Gpr.get_set, h]

/-- Two register banks with the same eight registers are equal. -/
theorem Gpr.ext_get (g h : Gpr) (e : ∀ r, g.get r = h.get r) : g = h := by
  obtain ⟨a, c, d, b, sp, bp, si, di⟩ := g
  obtain ⟨a', c', d', b', sp', bp', si', di'⟩ := h
  have h0 := e 0#3
  have h1 := e 1#3
  have h2 := e 2#3
  have h3 := e 3#3
  have h4 := e 4#3
  have h5 := e 5#3
  have h6 := e 6#3
  have h7 := e 7#3
  simp only [Gpr.get] at h0 h1 h2 h3 h4 h5 h6 h7
  simp_all

/-- A view written reads back (R101 to R103). -/
@[simp] theorem Gpr.read_write_same (g : Gpr) (w : Width) (r : BitVec 3) (v : BitVec w.bits) :
    (g.write w r v).read w r = v := by
  cases w with
  | w8 =>
    simp only [Gpr.write, Gpr.read]
    split
    · simp only [Gpr.get_set_same]
      apply BitVec.eq_of_getLsbD_eq
      intro i hi
      have : i < 8 := hi
      simp [BitVec.getLsbD_append, this]
    · simp only [Gpr.get_set_same]
      apply BitVec.eq_of_getLsbD_eq
      intro i hi
      have : i < 8 := hi
      simp [BitVec.getLsbD_append, this]
  | w16 =>
    simp only [Gpr.write, Gpr.read, Gpr.get_set_same]
    apply BitVec.eq_of_getLsbD_eq
    intro i hi
    have : i < 16 := hi
    simp [BitVec.getLsbD_append, this]
  | w32 => simp [Gpr.write, Gpr.read]

/-- The 32-bit register a view belongs to. -/
def owner (w : Width) (r : BitVec 3) : BitVec 3 :=
  match w with
  | .w8 => laneOwner r
  | .w16 => r
  | .w32 => r

/-- A write of a view changes no register but its owner. -/
theorem Gpr.get_write_other (g : Gpr) (w : Width) (r q : BitVec 3) (v : BitVec w.bits) (h : q ≠ owner w r) :
    (g.write w r v).get q = g.get q := by
  cases w with
  | w8 =>
    simp only [Gpr.write]
    split <;> exact Gpr.get_set_other _ _ _ _ h
  | w16 => exact Gpr.get_set_other _ _ _ _ h
  | w32 => exact Gpr.get_set_other _ _ _ _ h

@[simp] theorem Gpr.write_w32 (g : Gpr) (r : BitVec 3) (v : Word) : g.write .w32 r v = g.set r v := rfl

@[simp] theorem Gpr.read_w32 (g : Gpr) (r : BitVec 3) : g.read .w32 r = g.get r := rfl

@[simp] theorem State.setReg_reg_same (s : State) (w : Width) (r : BitVec 3) (v : BitVec w.bits) :
    (s.setReg w r v).reg w r = v := by simp [State.reg, State.setReg]

/-- The bits of the flags image, bit 0 first (R130). -/
def Flags.bits (f : Flags) : List Bool :=
  [f.cf, true, f.pf, false, f.af, false, f.zf, f.sf, f.tf, f.ifl, f.df, f.of, f.iopl.getLsbD 0, f.iopl.getLsbD 1, f.nt,
    false, f.rf, f.vm, f.ac, f.vif, f.vip, f.id]

theorem Flags.image_bit (f : Flags) (i : Nat) : f.image.getLsbD i = f.bits.getD i false := by
  rw [show f.image = (BitVec.ofBoolListLE f.bits).setWidth 32 from rfl, BitVec.getLsbD_setWidth,
    BitVec.getLsbD_ofBoolListLE]
  by_cases h : i < 32
  · simp [h]
  · have hl : f.bits.length = 22 := rfl
    rw [List.getD_eq_getElem?_getD, List.getElem?_eq_none (by omega)]
    simp [h]

/-- The fixed bits of the flags image (R132). -/
theorem Flags.image_fixed (f : Flags) :
    f.image.getLsbD 1 = true ∧ f.image.getLsbD 3 = false ∧ f.image.getLsbD 5 = false ∧ f.image.getLsbD 15 = false := by
  refine ⟨?_, ?_, ?_, ?_⟩ <;> rw [Flags.image_bit] <;> rfl

end Sys2Proof.Machine
end

