-- ==== Sys2Proof/Laws/Ops.lean ====
section
/-! SUPPORT. What each shared operation of Machine/Ops.lean and Machine/Operands.lean can do, said once. -/
namespace Sys2Proof.Machine
open Sys2Proof

/-! ## Checks and sequencing -/

theorem except_bind_ok {ε α β : Type} {x : Except ε α} {f : α → Except ε β} {r : β} :
    (x >>= f) = .ok r ↔ ∃ a, x = .ok a ∧ f a = .ok r := by
  cases x <;> simp [bind, Except.bind]

theorem except_map_ok {ε α β : Type} {x : Except ε α} {f : α → β} {r : β} :
    x.map f = .ok r ↔ ∃ a, x = .ok a ∧ f a = r := by
  cases x <;> simp [Except.map]

@[simp] theorem except_ok_bind {ε α β : Type} (a : α) (f : α → Except ε β) : (Except.ok a >>= f) = f a := rfl

@[simp] theorem except_error_bind {ε α β : Type} (e : ε) (f : α → Except ε β) :
    ((Except.error e : Except ε α) >>= f) = .error e := rfl

@[simp] theorem except_pure {ε α : Type} (a : α) : (pure a : Except ε α) = .ok a := rfl

@[simp] theorem except_map_of_ok {ε α β : Type} (a : α) (f : α → β) : (Except.ok a : Except ε α).map f = .ok (f a) := rfl

@[simp] theorem except_map_of_error {ε α β : Type} (e : ε) (f : α → β) :
    (Except.error e : Except ε α).map f = .error e := rfl

@[simp] theorem raiseIf_false (e : Exc) : raiseIf false e = .ok () := rfl

@[simp] theorem raiseIf_true (e : Exc) : raiseIf true e = .error (.raise e) := rfl

@[simp] theorem refuseIf_false (r : Refusal) : refuseIf false r = .ok () := rfl

@[simp] theorem refuseIf_true (r : Refusal) : refuseIf true r = .error (.refuse r) := rfl

theorem raiseIf_ok {c : Bool} {e : Exc} {u : Unit} : raiseIf c e = .ok u ↔ c = false := by
  cases c <;> simp

theorem refuseIf_ok {c : Bool} {r : Refusal} {u : Unit} : refuseIf c r = .ok u ↔ c = false := by
  cases c <;> simp

/-! ## Physical addresses -/

/-- The linear addresses of n bytes from lin, wrapping (R206). -/
def linAddrs : Word → Nat → List Nat
  | _, 0 => []
  | lin, n + 1 => lin.toNat :: linAddrs (lin + 1#32) n

theorem mem_linAddrs (lin : Word) (n a : Nat) : a ∈ linAddrs lin n ↔ ∃ i, i < n ∧ a = (lin + BitVec.ofNat 32 i).toNat := by
  induction n generalizing lin with
  | zero => simp [linAddrs]
  | succ n ih =>
    simp only [linAddrs, List.mem_cons, ih]
    constructor
    · rintro (h | ⟨i, hi, h⟩)
      · exact ⟨0, by omega, by simp [h]⟩
      · refine ⟨i + 1, by omega, ?_⟩
        rw [h, BitVec.add_assoc]
        congr 2
        rw [Nat.add_comm i 1, BitVec.ofNat_add]
    · rintro ⟨i, hi, h⟩
      cases i with
      | zero => left; simpa using h
      | succ i =>
        refine Or.inr ⟨i, by omega, ?_⟩
        rw [h, BitVec.add_assoc]
        congr 2
        rw [Nat.add_comm i 1, BitVec.ofNat_add]

@[simp] theorem linAddrs_length (lin : Word) (n : Nat) : (linAddrs lin n).length = n := by
  induction n generalizing lin with
  | zero => rfl
  | succ n ih => simp [linAddrs, ih]

theorem linAddrs_nodup (lin : Word) (n : Nat) (h : n ≤ 2 ^ 32) : (linAddrs lin n).Nodup := by
  induction n generalizing lin with
  | zero => simp [linAddrs]
  | succ n ih =>
    simp only [linAddrs, List.nodup_cons]
    refine ⟨?_, ih _ (by omega)⟩
    rw [mem_linAddrs]
    rintro ⟨i, hi, e⟩
    have := lin.isLt
    simp only [BitVec.toNat_add, BitVec.toNat_ofNat] at e
    omega

theorem linAddrs_lt (lin : Word) (n : Nat) : ∀ a ∈ linAddrs lin n, a < 2 ^ 32 := by
  intro a ha
  rw [mem_linAddrs] at ha
  obtain ⟨i, -, rfl⟩ := ha
  exact BitVec.isLt _

theorem State.phys_lt {s : State} {k : AccessKind} {u : Bool} {lin : Word} {p : Nat} (h : s.phys k u lin = .ok p) :
    p < 2 ^ 32 := by
  simp only [State.phys] at h
  split at h
  · split at h
    · injection h with h
      subst h
      exact BitVec.isLt _
    · cases h
    · cases h
  · injection h with h
    subst h
    exact lin.isLt

/-- Without paging a physical address is the linear one (R201). -/
theorem State.phys_flat {s : State} (h : s.pg = false) (k : AccessKind) (u : Bool) (lin : Word) :
    s.phys k u lin = .ok lin.toNat := by simp [State.phys, h]

theorem State.physAll_flat {s : State} (h : s.pg = false) (k : AccessKind) (u : Bool) (lin : Word) (n : Nat) :
    s.physAll k u lin n = .ok (linAddrs lin n) := by
  induction n generalizing lin with
  | zero => rfl
  | succ n ih => simp [State.physAll, State.phys_flat h, ih, linAddrs]

/-- The addresses of an access that translates: as many as bytes, and all of them physical. -/
theorem State.physAll_ok {s : State} {k : AccessKind} {u : Bool} {lin : Word} {n : Nat} {ps : List Nat}
    (h : s.physAll k u lin n = .ok ps) : ps.length = n ∧ ∀ p ∈ ps, p < 2 ^ 32 := by
  induction n generalizing lin ps with
  | zero =>
    simp only [State.physAll, Except.ok.injEq] at h
    subst h
    simp
  | succ n ih =>
    simp only [State.physAll, except_bind_ok] at h
    obtain ⟨p, hp, qs, hq, h⟩ := h
    injection h with h
    subst h
    obtain ⟨hl, hm⟩ := ih hq
    refine ⟨by simp [hl], ?_⟩
    intro a ha
    rcases List.mem_cons.mp ha with rfl | ha
    · exact State.phys_lt hp
    · exact hm a ha

/-- Translation reads nothing of the state but paging's view of it. -/
theorem State.physAll_congr {s t : State} (hpg : t.pg = s.pg) (hv : t.pagingView = s.pagingView) (k : AccessKind)
    (u : Bool) (lin : Word) (n : Nat) : t.physAll k u lin n = s.physAll k u lin n := by
  induction n generalizing lin with
  | zero => rfl
  | succ n ih => simp only [State.physAll, State.phys, hpg, hv, ih]

/-! ## Linear memory -/

theorem State.memRead_ok {s : State} {k : AccessKind} {u : Bool} {lin : Word} {n v : Nat} :
    s.memRead k u lin n = .ok v ↔ ∃ ps, s.physAll k u lin n = .ok ps ∧ v = leNat (s.mem.readAll ps) := by
  simp only [State.memRead, except_bind_ok, except_pure, Except.ok.injEq]
  constructor <;> rintro ⟨ps, h, e⟩ <;> exact ⟨ps, h, e.symm⟩

/-- Everything a write of linear memory does (R211). -/
theorem State.memWrite_ok {s t : State} {u : Bool} {lin : Word} {n v : Nat} :
    s.memWrite u lin n v = .ok t ↔ ∃ ps, s.physAll .write u lin n = .ok ps ∧
      t = { s with mem := s.mem.writeAll ps (leBytes n v), smcDirty := addDirty lin n s.smcDirty } := by
  simp only [State.memWrite, except_bind_ok, except_pure, Except.ok.injEq]
  constructor <;> rintro ⟨ps, h, e⟩ <;> exact ⟨ps, h, e.symm⟩

/-- The state differs from s in memory and the set of stored addresses only. -/
def OnlyMemory (s t : State) : Prop := t = { s with mem := t.mem, smcDirty := t.smcDirty }

theorem OnlyMemory.refl (s : State) : OnlyMemory s s := rfl

theorem OnlyMemory.trans {s t u : State} (h : OnlyMemory s t) (g : OnlyMemory t u) : OnlyMemory s u := by
  unfold OnlyMemory at *
  rw [g, h]

theorem State.memWrite_only {s t : State} {u : Bool} {lin : Word} {n v : Nat} (h : s.memWrite u lin n v = .ok t) :
    OnlyMemory s t := by
  obtain ⟨ps, -, rfl⟩ := State.memWrite_ok.mp h
  rfl

/-- A write of linear memory keeps the canonical forms. -/
theorem State.memWrite_canonical {s t : State} {u : Bool} {lin : Word} {n v : Nat} (h : s.memWrite u lin n v = .ok t)
    (hs : s.canonical = true) : t.canonical = true := by
  obtain ⟨ps, hp, rfl⟩ := State.memWrite_ok.mp h
  simp only [State.canonical, Bool.and_eq_true] at hs ⊢
  exact ⟨Memory.wf_writeAll _ _ _ hs.1 (State.physAll_ok hp).2, rising_addDirty _ _ _ hs.2⟩

/-- Whether a write succeeds does not depend on the value. -/
theorem State.memWrite_any {s t : State} {u : Bool} {lin : Word} {n v : Nat} (h : s.memWrite u lin n v = .ok t) (x : Nat) :
    ∃ t', s.memWrite u lin n x = .ok t' := by
  obtain ⟨ps, hp, -⟩ := State.memWrite_ok.mp h
  exact ⟨_, State.memWrite_ok.mpr ⟨ps, hp, rfl⟩⟩

/-- Without paging, a value written reads back cut to its width. -/
theorem State.memRead_memWrite {s t : State} (hpg : s.pg = false) (hs : s.mem.wf = true) {u : Bool} {lin : Word} {n v : Nat}
    (hn : n ≤ 2 ^ 32) (h : s.memWrite u lin n v = .ok t) (k : AccessKind) (u' : Bool) :
    t.memRead k u' lin n = .ok (v % 2 ^ (8 * n)) := by
  obtain ⟨ps, hp, rfl⟩ := State.memWrite_ok.mp h
  rw [State.physAll_flat hpg] at hp
  injection hp with hp
  subst hp
  rw [State.memRead_ok]
  refine ⟨linAddrs lin n, State.physAll_flat (by exact hpg) _ _ _ _, ?_⟩
  show _ = leNat (Memory.readAll (s.mem.writeAll _ _) _)
  rw [Memory.readAll_writeAll s.mem _ _ hs (linAddrs_lt lin n) (linAddrs_nodup lin n hn) (by simp), leNat_leBytes]

/-! ## Segmented access -/

theorem State.segRead_ok {s : State} {seg : SegReg} {off : Word} {n v : Nat} :
    s.segRead seg off n = .ok v ↔ s.segCheck seg false off n = .ok () ∧
      s.memRead .read (isUser s.cpl) (s.linear seg off) n = .ok v := by
  simp only [State.segRead, except_bind_ok]
  constructor
  · rintro ⟨⟨⟩, h, h'⟩; exact ⟨h, h'⟩
  · rintro ⟨h, h'⟩; exact ⟨(), h, h'⟩

theorem State.segReadRmw_ok {s : State} {seg : SegReg} {off : Word} {n v : Nat} :
    s.segReadRmw seg off n = .ok v ↔ s.segCheck seg true off n = .ok () ∧
      s.memRead .write (isUser s.cpl) (s.linear seg off) n = .ok v := by
  simp only [State.segReadRmw, except_bind_ok]
  constructor
  · rintro ⟨⟨⟩, h, h'⟩; exact ⟨h, h'⟩
  · rintro ⟨h, h'⟩; exact ⟨(), h, h'⟩

theorem State.segWrite_ok {s t : State} {seg : SegReg} {off : Word} {n v : Nat} :
    s.segWrite seg off n v = .ok t ↔ s.segCheck seg true off n = .ok () ∧
      s.memWrite (isUser s.cpl) (s.linear seg off) n v = .ok t := by
  simp only [State.segWrite, except_bind_ok]
  constructor
  · rintro ⟨⟨⟩, h, h'⟩; exact ⟨h, h'⟩
  · rintro ⟨h, h'⟩; exact ⟨(), h, h'⟩

theorem State.segWrite_only {s t : State} {seg : SegReg} {off : Word} {n v : Nat} (h : s.segWrite seg off n v = .ok t) :
    OnlyMemory s t := State.memWrite_only (State.segWrite_ok.mp h).2

theorem State.segWrite_canonical {s t : State} {seg : SegReg} {off : Word} {n v : Nat}
    (h : s.segWrite seg off n v = .ok t) (hs : s.canonical = true) : t.canonical = true :=
  State.memWrite_canonical (State.segWrite_ok.mp h).2 hs

/-- An operand read to be written can be written (R224). -/
theorem State.segWrite_of_readRmw {s : State} {seg : SegReg} {off : Word} {n v : Nat}
    (h : s.segReadRmw seg off n = .ok v) (x : Nat) : ∃ t, s.segWrite seg off n x = .ok t := by
  obtain ⟨hc, hm⟩ := State.segReadRmw_ok.mp h
  obtain ⟨ps, hp, -⟩ := State.memRead_ok.mp hm
  exact ⟨_, State.segWrite_ok.mpr ⟨hc, State.memWrite_ok.mpr ⟨ps, hp, rfl⟩⟩⟩

/-! ## Operands -/

@[simp] theorem State.readLoc_reg (s : State) (w : Width) (r : BitVec 3) : s.readLoc w (.reg r) = .ok (s.reg w r) := rfl

@[simp] theorem State.readDst_reg (s : State) (w : Width) (r : BitVec 3) : s.readDst w (.reg r) = .ok (s.reg w r) := rfl

@[simp] theorem State.writeLoc_reg (s : State) (w : Width) (r : BitVec 3) (v : BitVec w.bits) :
    s.writeLoc w (.reg r) v = .ok (s.setReg w r v) := rfl

/-- A destination that can be read can be written, with any value (R224). -/
theorem State.writeLoc_of_readDst {s : State} {w : Width} {l : Loc} {a : BitVec w.bits} (h : s.readDst w l = .ok a)
    (v : BitVec w.bits) : ∃ t, s.writeLoc w l v = .ok t := by
  cases l with
  | reg r => exact ⟨_, rfl⟩
  | mem seg off =>
    simp only [State.readDst, except_bind_ok] at h
    obtain ⟨x, hx, -⟩ := h
    exact State.segWrite_of_readRmw hx _

/-- Everything a read-modify-write does (R326). -/
theorem State.rmw_ok {s : State} {w : Width} {l : Loc} {f : BitVec w.bits → BitVec w.bits × Flags} {u : State} :
    s.rmw w l f = .ok u ↔ ∃ a t, s.readDst w l = .ok a ∧ s.writeLoc w l (f a).1 = .ok t ∧ u = t.setFlags (f a).2 := by
  simp only [State.rmw, except_bind_ok, except_pure, Except.ok.injEq]
  constructor
  · rintro ⟨a, ha, t, ht, rfl⟩; exact ⟨a, t, ha, ht, rfl⟩
  · rintro ⟨a, t, ha, ht, rfl⟩; exact ⟨a, ha, t, ht, rfl⟩

/-- A write of an operand changes general registers, memory and the set of stored addresses only. -/
def OnlyData (s t : State) : Prop := t = { s with gpr := t.gpr, mem := t.mem, smcDirty := t.smcDirty }

theorem OnlyData.refl (s : State) : OnlyData s s := rfl

theorem OnlyData.trans {s t u : State} (h : OnlyData s t) (g : OnlyData t u) : OnlyData s u := by
  unfold OnlyData at *
  rw [g, h]

theorem OnlyMemory.data {s t : State} (h : OnlyMemory s t) : OnlyData s t := by
  unfold OnlyMemory OnlyData at *
  rw [h]

theorem State.setReg_data (s : State) (w : Width) (r : BitVec 3) (v : BitVec w.bits) : OnlyData s (s.setReg w r v) := rfl

theorem State.writeLoc_data {s t : State} {w : Width} {l : Loc} {v : BitVec w.bits} (h : s.writeLoc w l v = .ok t) :
    OnlyData s t := by
  cases l with
  | reg r =>
    injection h with h
    subst h
    rfl
  | mem seg off => exact (State.segWrite_only h).data

theorem State.writeLoc_canonical {s t : State} {w : Width} {l : Loc} {v : BitVec w.bits} (h : s.writeLoc w l v = .ok t)
    (hs : s.canonical = true) : t.canonical = true := by
  cases l with
  | reg r =>
    injection h with h
    subst h
    exact hs
  | mem seg off => exact State.segWrite_canonical h hs

/-! ## The stack -/

theorem State.setSp_data (s : State) (v : Word) : OnlyData s (s.setSp v) := by
  unfold State.setSp
  split <;> rfl

/-- Everything a push does (R840). -/
theorem State.push_ok {s u : State} {z : Size} {v : Word} :
    s.push z v = .ok u ↔ ∃ t, s.segWrite .ss (stackStep s.ss.db s.sp (0#32 - z.delta)) z.bytes v.toNat = .ok t ∧
      u = t.setSp (stackStep s.ss.db s.sp (0#32 - z.delta)) := by
  simp only [State.push, except_bind_ok, except_pure, Except.ok.injEq]
  constructor <;> rintro ⟨t, h, e⟩ <;> exact ⟨t, h, e.symm⟩

theorem State.push_data {s u : State} {z : Size} {v : Word} (h : s.push z v = .ok u) : OnlyData s u := by
  obtain ⟨t, ht, rfl⟩ := State.push_ok.mp h
  exact (State.segWrite_only ht).data.trans (State.setSp_data _ _)

theorem State.setSp_canonical {s : State} (v : Word) (h : s.canonical = true) : (s.setSp v).canonical = true := by
  unfold State.setSp
  split <;> exact h

theorem State.push_canonical {s u : State} {z : Size} {v : Word} (h : s.push z v = .ok u) (hs : s.canonical = true) :
    u.canonical = true := by
  obtain ⟨t, ht, rfl⟩ := State.push_ok.mp h
  exact State.setSp_canonical _ (State.segWrite_canonical ht hs)

theorem State.pushAll_data {s u : State} {z : Size} {vs : List Word} (h : s.pushAll z vs = .ok u) : OnlyData s u := by
  induction vs generalizing s with
  | nil =>
    injection h with h
    subst h
    rfl
  | cons v vs ih =>
    simp only [State.pushAll, except_bind_ok] at h
    obtain ⟨t, ht, h⟩ := h
    exact (State.push_data ht).trans (ih h)

theorem State.pushAll_canonical {s u : State} {z : Size} {vs : List Word} (h : s.pushAll z vs = .ok u)
    (hs : s.canonical = true) : u.canonical = true := by
  induction vs generalizing s with
  | nil =>
    injection h with h
    subst h
    exact hs
  | cons v vs ih =>
    simp only [State.pushAll, except_bind_ok] at h
    obtain ⟨t, ht, h⟩ := h
    exact ih h (State.push_canonical ht hs)

/-- The mask of a 16-bit stack pointer keeps its low half. -/
theorem and_ffff (x : Word) : x &&& 0xFFFF#32 = (x.setWidth 16 : Half).setWidth 32 := by
  apply BitVec.eq_of_toNat_eq
  rw [BitVec.toNat_and, BitVec.toNat_setWidth, BitVec.toNat_setWidth, Nat.mod_eq_of_lt (a := x.toNat % 2 ^ 16) (by omega)]
  exact Nat.and_two_pow_sub_one_eq_mod x.toNat 16

theorem stackStep_zero (db : Bool) (sp d : Word) : stackStep db (stackStep db sp d) 0#32 = stackStep db sp d := by
  cases db <;> simp [stackStep, BitVec.and_assoc]

/-- A stack pointer stepped at the width it is written at: the wrap is the write's own. -/
theorem State.setSp_stackStep (s : State) (v d : Word) : s.setSp (stackStep s.ss.db v d) = s.setSp (v + d) := by
  unfold State.setSp stackStep
  cases s.ss.db <;> simp [and_ffff]

/-- The stack pointer read after it was written (R840, R841). -/
theorem State.setSp_sp (s : State) (v : Word) : (s.setSp v).sp = stackStep s.ss.db v 0#32 := by
  unfold State.sp State.setSp
  cases h : s.ss.db
  · have e := Gpr.read_write_same s.gpr .w16 4#3 (v.setWidth 16)
    simp only [Gpr.read] at e
    simp only [Bool.false_eq_true, if_false, State.setReg, stackStep, h, BitVec.add_zero, and_ffff]
    exact congrArg (BitVec.setWidth 32) e
  · simp [h, stackStep, State.setReg, Gpr.write, Gpr.set]

/-- The check of pushes reads nothing of the state but CR0, the flags and paging's view. -/
theorem State.checkPushes_congr {s t : State} (h0 : t.cr0 = s.cr0) (hf : t.flags = s.flags)
    (hv : t.pagingView = s.pagingView) (c : SegCache) (sf : Exc) (n : BitVec 2) (z : Size) (sp : Word) (k : Nat) :
    t.checkPushes c sf n z sp k = s.checkPushes c sf n z sp k := by
  have hpg : t.pg = s.pg := by simp [State.pg, h0]
  have hc : ∀ w o m, t.segCheckAt c sf n w o m = s.segCheckAt c sf n w o m := by
    intro w o m
    simp [State.segCheckAt, State.misaligned, State.pe, h0, hf]
  induction k generalizing sp with
  | zero => rfl
  | succ k ih => simp only [State.checkPushes, hc, ih, State.physAll_congr hpg hv]

/-- A segment check that passes does so whatever exception it would raise. -/
theorem State.segCheckAt_any {s : State} {c : SegCache} {sf : Exc} {n : BitVec 2} {w : Bool} {o : Word} {m : Nat}
    (h : s.segCheckAt c sf n w o m = .ok ()) (sf' : Exc) : s.segCheckAt c sf' n w o m = .ok () := by
  revert h
  unfold State.segCheckAt
  simp only []
  split
  · exact id
  · split
    · simp
    · split
      · simp
      · exact id

theorem State.setSp_keeps (s : State) (v : Word) : (s.setSp v).ss = s.ss ∧ (s.setSp v).cpl = s.cpl ∧
    (s.setSp v).cr0 = s.cr0 ∧ (s.setSp v).flags = s.flags ∧ (s.setSp v).pagingView = s.pagingView := by
  unfold State.setSp
  split <;> exact ⟨rfl, rfl, rfl, rfl, rfl⟩

/-- Pushes that succeed pass the check made before them (R21, R840). -/
theorem State.checkStack_of_pushAll {s u : State} {z : Size} {vs : List Word} (h : s.pushAll z vs = .ok u) (sf : Exc) :
    s.checkStack sf z vs.length = .ok () := by
  induction vs generalizing s with
  | nil => rfl
  | cons v vs ih =>
    simp only [State.pushAll, except_bind_ok] at h
    obtain ⟨t, ht, h⟩ := h
    have key := ih h
    obtain ⟨t0, h0, rfl⟩ := State.push_ok.mp ht
    have hm := State.segWrite_only h0
    simp only [State.segWrite, except_bind_ok, State.segCheck, State.memWrite] at h0
    obtain ⟨_, hc, ps, hp, _⟩ := h0
    have h1 : t0.ss = s.ss ∧ t0.cpl = s.cpl ∧ t0.cr0 = s.cr0 ∧ t0.flags = s.flags ∧ t0.pagingView = s.pagingView := by
      rw [hm]
      exact ⟨rfl, rfl, rfl, rfl, rfl⟩
    obtain ⟨a1, a2, a3, a4, a5⟩ := t0.setSp_keeps (stackStep s.ss.db s.sp (0#32 - z.delta))
    unfold State.checkStack at key ⊢
    rw [State.setSp_sp, h1.1, stackStep_zero, a1, a2, h1.1, h1.2.1,
      State.checkPushes_congr (a3.trans h1.2.2.1) (a4.trans h1.2.2.2.1) (a5.trans h1.2.2.2.2)] at key
    simp only [List.length_cons, State.checkPushes, except_bind_ok]
    exact ⟨(), State.segCheckAt_any hc sf, ps, hp, key⟩

theorem enterCopies_data {z : Size} {k : Nat} {s u : State} (h : enterCopies z k s = .ok u) : OnlyData s u := by
  induction k generalizing s with
  | zero =>
    injection h with h
    subst h
    rfl
  | succ k ih =>
    simp only [enterCopies, except_bind_ok] at h
    obtain ⟨v, -, t, ht, h⟩ := h
    have h1 : OnlyData s (s.setStackReg 5#3 (stackStep s.ss.db s.gpr.ebp (0#32 - z.delta))) := by
      unfold State.setStackReg
      split <;> rfl
    exact (h1.trans (State.push_data ht)).trans (ih h)

theorem enterCopies_canonical {z : Size} {k : Nat} {s u : State} (h : enterCopies z k s = .ok u)
    (hs : s.canonical = true) : u.canonical = true := by
  induction k generalizing s with
  | zero =>
    injection h with h
    subst h
    exact hs
  | succ k ih =>
    simp only [enterCopies, except_bind_ok] at h
    obtain ⟨v, -, t, ht, h⟩ := h
    refine ih h (State.push_canonical ht ?_)
    unfold State.setStackReg
    split <;> exact hs

/-! ## Descriptors and segment loads -/

theorem State.lookup_ok {s : State} {sel : Half} {e : Exc} {addr : Word} {d : Desc} :
    s.lookup sel e = .ok (addr, d) ↔ s.descAddr sel = some addr ∧ s.readDesc addr = .ok d := by
  simp only [State.lookup]
  cases s.descAddr sel with
  | none => simp
  | some a =>
    simp only [except_bind_ok, except_pure, Except.ok.injEq, Prod.mk.injEq, Option.some.injEq]
    constructor
    · rintro ⟨x, hx, rfl, rfl⟩; exact ⟨rfl, hx⟩
    · rintro ⟨rfl, hx⟩; exact ⟨d, hx, rfl, rfl⟩

theorem State.setAccessed_only {s t : State} {addr : Word} {d : Desc} (h : s.setAccessed addr d = .ok t) :
    OnlyMemory s t := by
  unfold State.setAccessed at h
  split at h
  · injection h with h
    subst h
    rfl
  · exact State.memWrite_only h

theorem State.setAccessed_canonical {s t : State} {addr : Word} {d : Desc} (h : s.setAccessed addr d = .ok t)
    (hs : s.canonical = true) : t.canonical = true := by
  unfold State.setAccessed at h
  split at h
  · injection h with h
    subst h
    exact hs
  · exact State.memWrite_canonical h hs

/-- Everything a load of a data-segment register in protected mode does (R250). -/
theorem State.loadDataSeg_ok {s u : State} {r : SegReg} {sel : Half} (h : s.loadDataSeg r sel = .ok u) :
    (isNull sel = true ∧ u = s.setSeg r { s.seg r with selector := sel, valid := false }) ∨
    (isNull sel = false ∧ ∃ addr d t, s.lookup sel (.gp (selCode sel)) = .ok (addr, d) ∧ s.setAccessed addr d = .ok t ∧
      u = t.setSeg r (.ofDesc sel d)) := by
  unfold State.loadDataSeg at h
  split at h
  · injection h with h
    exact .inl ⟨‹_›, h.symm⟩
  · next hnull =>
    simp only [except_bind_ok, except_pure, Except.ok.injEq] at h
    obtain ⟨⟨addr, d⟩, hl, -, -, -, -, -, -, -, -, t, ht, rfl⟩ := h
    exact .inr ⟨by simpa using hnull, addr, d, t, hl, ht, rfl⟩

/-- Everything a load of SS in protected mode does (R251). -/
theorem State.loadSS_ok {s u : State} {sel : Half} (h : s.loadSS sel = .ok u) :
    isNull sel = false ∧ rpl sel = s.cpl ∧ ∃ addr d t, s.lookup sel (.gp (selCode sel)) = .ok (addr, d) ∧
      d.isWritableData = true ∧ d.dpl = s.cpl ∧ d.p = true ∧ s.setAccessed addr d = .ok t ∧
      u = t.setSeg .ss (.ofDesc sel d) := by
  simp only [State.loadSS, except_bind_ok, except_pure, Except.ok.injEq, raiseIf_ok] at h
  obtain ⟨-, hn, -, -, -, hr, ⟨addr, d⟩, hl, -, hw, -, hd, -, hp, t, ht, rfl⟩ := h
  exact ⟨hn, by simpa using hr, addr, d, t, hl, by simpa using hw, by simpa using hd, by simpa using hp, ht, rfl⟩

/-- Everything a load of CS by a transfer does (R929). -/
theorem State.loadCS_ok {s u : State} {sel : Half} {addr : Word} {d : Desc} {n : BitVec 2} :
    s.loadCS sel addr d n = .ok u ↔ ∃ t, s.setAccessed addr d = .ok t ∧
      u = { t with cs := .ofDesc ((sel &&& 0xFFFC#16) ||| n.setWidth 16) d, cpl := n } := by
  simp only [State.loadCS, except_bind_ok, except_pure, Except.ok.injEq]
  constructor <;> rintro ⟨t, h, e⟩ <;> exact ⟨t, h, e.symm⟩

theorem State.loadStack_ok {s u : State} {sel : Half} {addr : Word} {d : Desc} :
    s.loadStack sel addr d = .ok u ↔ ∃ t, s.setAccessed addr d = .ok t ∧ u = { t with ss := .ofDesc sel d } := by
  simp only [State.loadStack, except_bind_ok, except_pure, Except.ok.injEq]
  constructor <;> rintro ⟨t, h, e⟩ <;> exact ⟨t, h, e.symm⟩

/-- A load of a segment register by an instruction changes that register, memory and the stored addresses only. -/
theorem State.loadSegReg_only {s u : State} {r : SegReg} {sel : Half} (h : s.loadSegReg r sel = .ok u) :
    ∃ t, OnlyMemory s t ∧ u = t.setSeg r (u.seg r) := by
  unfold State.loadSegReg at h
  split at h
  · injection h with h
    subst h
    exact ⟨s, rfl, by cases r <;> rfl⟩
  · split at h
    · obtain ⟨-, -, addr, d, t, -, -, -, -, ht, rfl⟩ := State.loadSS_ok h
      have : r = .ss := by simpa using ‹(r == SegReg.ss) = true›
      subst this
      exact ⟨t, State.setAccessed_only ht, rfl⟩
    · rcases State.loadDataSeg_ok h with ⟨-, rfl⟩ | ⟨-, addr, d, t, -, ht, rfl⟩
      · exact ⟨s, rfl, by cases r <;> rfl⟩
      · exact ⟨t, State.setAccessed_only ht, by cases r <;> rfl⟩

theorem State.setSeg_canonical {s : State} (r : SegReg) (c : SegCache) (h : s.canonical = true) :
    (s.setSeg r c).canonical = true := by cases r <;> exact h

theorem State.loadSegReg_canonical {s u : State} {r : SegReg} {sel : Half} (h : s.loadSegReg r sel = .ok u)
    (hs : s.canonical = true) : u.canonical = true := by
  unfold State.loadSegReg at h
  split at h
  · injection h with h
    subst h
    exact State.setSeg_canonical _ _ hs
  · split at h
    · obtain ⟨-, -, addr, d, t, -, -, -, -, ht, rfl⟩ := State.loadSS_ok h
      exact State.setSeg_canonical _ _ (State.setAccessed_canonical ht hs)
    · rcases State.loadDataSeg_ok h with ⟨-, rfl⟩ | ⟨-, addr, d, t, -, ht, rfl⟩
      · exact State.setSeg_canonical _ _ hs
      · exact State.setSeg_canonical _ _ (State.setAccessed_canonical ht hs)

/-! ## The end of an instruction, and taking an exception -/

/-- How an execute ends (R19): it completes, its exception is delivered, or it is refused. -/
theorem finish_next {s u : State} {trap : Bool} {r : Except Stop (State × FlowClass)} (h : finish s trap r = .next u) :
    (∃ t c, r = .ok (t, c) ∧ u = retire s trap t c) ∨ (∃ x, r = .error (.raise x) ∧ deliverFault s x = .next u) := by
  match r, h with
  | .ok (t, c), h =>
    simp only [finish, Host.Outcome.next.injEq] at h
    exact .inl ⟨t, c, rfl, h.symm⟩
  | .error (.raise x), h => exact .inr ⟨x, rfl, h⟩
  | .error (.refuse r), h => simp [finish] at h

@[simp] theorem finish_ok (s : State) (trap : Bool) (t : State) (c : FlowClass) :
    finish s trap (.ok (t, c)) = .next (retire s trap t c) := rfl

@[simp] theorem finish_raise (s : State) (trap : Bool) (x : Exc) :
    finish s trap (.error (.raise x)) = deliverFault s x := rfl

@[simp] theorem finish_refuse (s : State) (trap : Bool) (r : Refusal) :
    finish s trap (.error (.refuse r)) = .refused r := rfl

theorem complete_ok (b : Bound) (s t : State) : complete b s (.ok t) = .next (retire s true (t.advance b) .none) := rfl

theorem complete_raise (b : Bound) (s : State) (x : Exc) : complete b s (.error (.raise x)) = deliverFault s x := rfl

theorem complete_refuse (b : Bound) (s : State) (r : Refusal) : complete b s (.error (.refuse r)) = .refused r := rfl

theorem completeAs_ok (c : FlowClass) (s t : State) : completeAs c s (.ok t) = .next (retire s true t c) := rfl

theorem completeAs_raise (c : FlowClass) (s : State) (x : Exc) :
    completeAs c s (.error (.raise x)) = deliverFault s x := rfl

/-- A faulting delivery leaves the state as it was, or with one accessed bit set (R1310, R247). -/
theorem State.keepAccessed_cases (s : State) (e : Event) :
    s.keepAccessed e = s ∨ ∃ addr d, s.setAccessed addr d = .ok (s.keepAccessed e) := by
  unfold State.keepAccessed
  dsimp only
  split
  · next u hu =>
    simp only [except_bind_ok, Prod.exists] at hu
    obtain ⟨g, -, -, t, -, h⟩ := hu
    split at h
    · simp only [except_bind_ok, Prod.exists] at h
      obtain ⟨-, saddr, d, -, -, h⟩ := h
      exact .inr ⟨saddr, d, h⟩
    · injection h with h
      exact .inl h.symm
  · exact .inl rfl
  · exact .inl rfl

theorem State.keepAccessed_only (s : State) (e : Event) : OnlyMemory s (s.keepAccessed e) := by
  rcases s.keepAccessed_cases e with h | ⟨addr, d, h⟩
  · rw [h]; exact .refl s
  · exact State.setAccessed_only h

theorem State.keepAccessed_canonical {s : State} (e : Event) (hs : s.canonical = true) :
    (s.keepAccessed e).canonical = true := by
  rcases s.keepAccessed_cases e with h | ⟨addr, d, h⟩
  · rw [h]; exact hs
  · exact State.setAccessed_canonical h hs

/-- A property of the state that one delivery attempt, what a faulting one leaves, the noting of a fault and a shutdown keep
is kept by delivery with everything R1331 makes of the faults inside it. -/
theorem deliverN_keeps {P : State → Prop} (hb : ∀ s e, P s → P (s.beginDelivery e))
    (ht : ∀ s e eip t, P s → s.tryDeliver e eip = .ok t → P { t with delivering := none })
    (hn : ∀ s x, P s → P (s.noteFault x)) (hk : ∀ s e, P s → P (s.keepAccessed e)) (hd : ∀ s, P s → P s.shutDown) {n : Nat} {s : State} {e : Event} {eip : Word}
    {u : State} (hs : P s) (h : deliverN n s e eip = .next u) : P u := by
  induction n generalizing s e eip with
  | zero => simp [deliverN] at h
  | succ n ih =>
    simp only [deliverN] at h
    split at h
    · next t hok =>
      injection h with h
      subst h
      exact ht _ _ _ _ (hb _ _ hs) hok
    · cases h
    · next x hx =>
      have hs2 := hn _ x (hk _ e (hb _ e hs))
      split at h
      · injection h with h
        subst h
        exact hd _ hs2
      · split at h
        · exact ih hs2 h
        · exact ih hs2 h

end Sys2Proof.Machine
end

