-- ==== Sys2Proof/Tests/Slice0.lean ====
section
/-! SUPPORT. Tests of the model on the words and values of the spec, and a witness for the hypotheses of every statement. -/
namespace Sys2Proof.Tests
open Sys2Proof Sys2Proof.Machine Sys2Proof.Claims

set_option maxRecDepth 20000

/-! ## Small states (the environments of spec/95_test_vectors.md, section 0) -/

/-- Bytes laid into memory, the highest first (each write then stands at the head of the list). -/
def poke (m : Memory) (a : Nat) : List Byte → Memory
  | [] => m
  | v :: vs => (poke m (a + 1) vs).write a v

/-- A descriptor or gate laid into memory. -/
def pokeQuad (m : Memory) (a : Nat) (v : Nat) : Memory := poke m a (leBytes 8 v)

/-- Real mode with CS at selector 0: RM16. -/
def rm16 : State := { State.reset with
  cs := { SegCache.resetCode with selector := 0#16, base := 0#32 }, eip := 0x100#32
  gpr := ⟨0#32, 0#32, 0#32, 0#32, 0#32, 0#32, 0#32, 0#32⟩ }

/-- A flat 32-bit segment. -/
def flat (sel : Half) (type : BitVec 4) (dpl : BitVec 2) : SegCache :=
  ⟨sel, 0#32, 0xFFFFFFFF#32, type, true, dpl, true, true, true, false, true⟩

/-- The GDT at 0x800: code 0, data 0, code 3, data 3, LDT, TSS, call gate, absent data, conforming code, a call gate to it,
absent code, a 16-bit call gate. -/
def gdtMem (m : Memory) : Memory :=
  pokeQuad (pokeQuad (pokeQuad (pokeQuad (pokeQuad (pokeQuad (pokeQuad (pokeQuad (pokeQuad (pokeQuad (pokeQuad (pokeQuad m
    0x860 0x0000E40100084000) 0x858 0x00CF1B000000FFFF) 0x850 0x0000EC0000484000) 0x848 0x00CF9F000000FFFF)
    0x840 0x00CF13000000FFFF) 0x838 0x0000EC0100084000) 0x830 0x0000890050000087) 0x828 0x000082001000FFFF)
    0x820 0x00CFF3000000FFFF) 0x818 0x00CFFB000000FFFF) 0x810 0x00CF93000000FFFF) 0x808 0x00CF9B000000FFFF

/-- 16-bit interrupt gates of the IDT at 0x1000: vector v enters 0x08:0x3000 + 16 v. (A 16-bit frame holds no free half.) -/
def idtMem (m : Memory) : List Nat → Memory
  | [] => m
  | v :: vs => pokeQuad (idtMem m vs) (0x1000 + 8 * v) (0x0000860000080000 + 0x3000 + 16 * v)

/-- Protected mode at CPL 0 on flat segments: PM32, with an IDT and a TSS. -/
def pm32 : State := { State.reset with
  gpr := ⟨0#32, 0#32, 0#32, 0#32, 0x8000#32, 0#32, 0#32, 0#32⟩
  eip := 0x2000#32, cr0 := 0x11#32
  cs := flat 0x08#16 0xB#4 0#2, ds := flat 0x10#16 0x3#4 0#2, es := flat 0x10#16 0x3#4 0#2
  ss := flat 0x10#16 0x3#4 0#2, fs := flat 0x10#16 0x3#4 0#2, gs := flat 0x10#16 0x3#4 0#2
  gdtr := ⟨0x800#32, 0x67#16⟩, idtr := ⟨0x1000#32, 0x7FF#16⟩
  ldtr := ⟨0x28#16, 0x1000#32, 0xFFFF#32, 0x2#4, true, true⟩
  tr := ⟨0x30#16, 0x5000#32, 0x87#32, 0xB#4, true, true⟩
  mem := gdtMem (idtMem (poke [] 0x5004 [0x00, 0x90, 0x00, 0x00, 0x10, 0x00]) [0, 1, 5, 6, 7, 10, 11, 12, 13, 17]) }

/-- The same at CPL 3: PM32u. -/
def pm32u : State := { pm32 with
  cs := flat 0x1B#16 0xB#4 3#2, ds := flat 0x23#16 0x3#4 3#2, es := flat 0x23#16 0x3#4 3#2
  ss := flat 0x23#16 0x3#4 3#2, fs := flat 0x23#16 0x3#4 3#2, gs := flat 0x23#16 0x3#4 3#2
  cpl := 3#2 }

/-- Some bytes of memory replaced. -/
def at' (s : State) (a : Nat) (bs : List Byte) : State := { s with mem := poke s.mem a bs }

/-- The whole flags image set. -/
def image (s : State) (v : Word) : State := { s with flags := s.flags.setImage v 0xFFFFFFFF#32 }

/-- One step of the instruction whose bytes stand at CS:EIP. -/
noncomputable def run (s : State) (bs : List Byte) : Result := step (at' s (s.fetchAddr 0).toNat bs)

/-- The step goes on, to a state with a property. -/
def goes (r : Result) (p : State → Bool) : Bool :=
  match r with
  | .next t => p t
  | .fault _ => false
  | .refused _ => false

/-- The step is refused by a name. -/
def refuses (r : Result) (n : Refusal) : Bool :=
  match r with
  | .next _ => false
  | .fault _ => false
  | .refused m => m == n

/-- The little-endian value in memory. -/
def peek (s : State) (a n : Nat) : Nat := leNat (s.mem.readAll ((List.range n).map (a + ·)))

/-- The exception of a vector was taken from PM32 or PM32u with the instruction's EIP and, if it has one, an error code. -/
def took (r : Result) (vector : Nat) (code : Option Nat) (eip : Nat) : Bool :=
  goes r fun t => t.eip.toNat == 0x3000 + 16 * vector && t.classOut == some .fault && t.cpl == 0#2 &&
    match code with
    | none => peek t t.gpr.esp.toNat 2 == eip
    | some c => peek t t.gpr.esp.toNat 2 == c && peek t (t.gpr.esp.toNat + 2) 2 == eip

/-- 32-bit prefixes-free attributes of a length. -/
def b32 (n : Nat) : Bound := ⟨.s32, .s32, none, .none, false, n⟩

/-- The same for 16-bit code. -/
def b16 (n : Nat) : Bound := ⟨.s16, .s16, none, .none, false, n⟩


/-! ## Well-formedness: an ill-formed term for each check -/

/-- 32-bit protected-mode code. -/
def m32 : DecodeMode := ⟨true, true, false⟩

/-- A form of the other address size (Addr.wf). -/
theorem test_wf_address_size :
    (Instr.incEb (b32 2) (.mem (.a16 3 .none))).wf m32 = false ∧ (Instr.incEb (b32 4) (.mem (.abs16 0))).wf m32 = false ∧
    (Instr.incEb (b16 2) (.mem (.a32 3 .none))).wf ⟨false, true, false⟩ = false ∧
    (Instr.incEb (b16 6) (.mem (.abs32 0))).wf ⟨false, true, false⟩ = false ∧
    (Instr.incEb (b16 3) (.mem (.sib 0 0 0 .none))).wf ⟨false, true, false⟩ = false ∧
    (Instr.incEb (b16 7) (.mem (.sibAbs 0 0 0))).wf ⟨false, true, false⟩ = false := by decide

/-- A form that the encoding gives another meaning (Addr.wf). -/
theorem test_wf_address_form :
    (Instr.incEb (b16 2) (.mem (.a16 6 .none))).wf ⟨false, true, false⟩ = false ∧
    (Instr.incEb (b32 2) (.mem (.a32 4 .none))).wf m32 = false ∧ (Instr.incEb (b32 2) (.mem (.a32 5 .none))).wf m32 = false ∧
    (Instr.incEb (b32 3) (.mem (.sib 0 0 5 .none))).wf m32 = false := by decide

/-- An immediate, a direct offset or a far offset wider than its size (Imm.wf). -/
theorem test_wf_immediate :
    (Instr.addEaxIz (b16 3) 0x10000).wf ⟨false, true, false⟩ = false ∧
    (Instr.movAlOb (b16 3) 0x10000).wf ⟨false, true, false⟩ = false ∧
    (Instr.jmpAp (b16 5) 0x10000 0).wf ⟨false, true, false⟩ = false := by decide

/-- LOCK on a register, on a row that takes none, without ModRM, and with REP (Parts.lockOk). -/
theorem test_wf_lock :
    (Instr.addEvGv { b32 3 with lock := true } (.reg 0) 0).wf m32 = false ∧
    (Instr.addGvEv { b32 3 with lock := true } 0 (.mem (.a32 3 .none))).wf m32 = false ∧
    (Instr.nop { b32 2 with lock := true }).wf m32 = false ∧
    (Instr.movsb { b32 3 with lock := true, rep := .rep }).wf m32 = false := by decide

/-- F2 on NOP, F3 on ADD (RepUse.allows). -/
theorem test_wf_repeat :
    (Instr.nop { b32 2 with rep := .repne }).wf m32 = false ∧
    (Instr.addEvGv { b32 3 with rep := .rep } (.reg 0) 0).wf m32 = false := by decide

/-- SLDT in real mode (Parts.pmOnly). -/
theorem test_wf_protected_only : (Instr.sldtEw (b16 3) (.reg 0)).wf ⟨false, false, false⟩ = false := by decide

/-- MOV to CS, and DR4 with CR4.DE set (Special.ok). -/
theorem test_wf_special :
    (Instr.movSwEw (b32 2) .cs (.reg 0)).wf m32 = false ∧
    (Instr.movDdRd (b32 3) 4 0).wf ⟨true, true, true⟩ = false := by decide

/-- A length shorter than the encoding, longer without a prefix to repeat, and past 15 (Parts.lenOk). -/
theorem test_wf_length :
    (Instr.addEvIbs (b32 2) (.reg 0) 1).wf m32 = false ∧ (Instr.addEvIbs (b32 4) (.reg 0) 1).wf m32 = false ∧
    (Instr.nop { b32 16 with osz := .s16 }).wf m32 = false := by decide

/-! ## Decoding: the words of spec/95_test_vectors.md W7 and section 2.2 -/

theorem test_decode_addressing : List.map (decodeBytes m32) [
      [0x8B, 0x44, 0x24, 0x08], [0x8B, 0x05, 0x78, 0x56, 0x34, 0x12], [0x8B, 0x04, 0x25, 0x78, 0x56, 0x34, 0x12],
      [0x8B, 0x45, 0x00], [0x8B, 0x44, 0x8D, 0xF0], [0x67, 0x8B, 0x46, 0x02], [0x67, 0xA1, 0x00, 0x10],
      [0x66, 0x8B, 0x44, 0x24, 0x08]]
    = List.map .ok [
      .movGvEv (b32 4) 0 (.mem (.sib 0 4 4 (.d8 8))), .movGvEv (b32 6) 0 (.mem (.abs32 0x12345678)),
      .movGvEv (b32 7) 0 (.mem (.sibAbs 0 4 0x12345678)), .movGvEv (b32 3) 0 (.mem (.a32 5 (.d8 0))),
      .movGvEv (b32 4) 0 (.mem (.sib 2 1 5 (.d8 0xF0))),
      .movGvEv { b32 4 with asz := .s16 } 0 (.mem (.a16 6 (.d8 2))), .movEaxOv { b32 4 with asz := .s16 } 0x1000,
      .movGvEv { b32 5 with osz := .s16 } 0 (.mem (.sib 0 4 4 (.d8 8)))] := by rfl

theorem test_decode_16_bit : List.map (decodeBytes ⟨false, false, false⟩) [
      [0x8B, 0x06, 0x34, 0x12], [0x8B, 0x86, 0x00, 0x01], [0x66, 0x8B, 0x07], [0xEA, 0x5B, 0xE0, 0x00, 0xF0]]
    = List.map .ok [
      .movGvEv (b16 4) 0 (.mem (.abs16 0x1234)), .movGvEv (b16 4) 0 (.mem (.a16 6 (.d16 0x100))),
      .movGvEv { b16 3 with osz := .s32 } 0 (.mem (.a16 7 .none)), .jmpAp (b16 5) 0xE05B 0xF000] := by rfl

theorem test_decode_immediates : List.map (decodeBytes m32) [
      [0x66, 0xC7, 0x00, 0x34, 0x12], [0xC7, 0x00, 0x34, 0x12, 0, 0], [0xC7, 0x43, 0x04, 1, 0, 0, 0],
      [0x69, 0xC0, 0x78, 0x56, 0x34, 0x12], [0x6B, 0xC0, 0xFF], [0xF6, 0xC0, 0x01], [0xF6, 0xD0], [0x0F, 0x20, 0x00],
      [0x9A, 0x00, 0x20, 0, 0, 0x08, 0x00], [0xC8, 0x08, 0x00, 0x00]]
    = List.map .ok [
      .movEvIz { b32 5 with osz := .s16 } (.mem (.a32 0 .none)) 0x1234, .movEvIz (b32 6) (.mem (.a32 0 .none)) 0x1234,
      .movEvIz (b32 7) (.mem (.a32 3 (.d8 4))) 1, .imulGvEvIz (b32 6) 0 (.reg 0) 0x12345678,
      .imulGvEvIbs (b32 3) 0 (.reg 0) 0xFF, .testEbIb (b32 3) (.reg 0) 1, .notEb (b32 2) (.reg 0), .movRdCd (b32 3) 0 .cr0,
      .callAp (b32 7) 0x2000 8, .enterIwIb (b32 4) 8 0] := by rfl

theorem test_decode_prefixes : List.map (decodeBytes m32) [
      [0x2E, 0x74, 0x05], [0x66, 0x66, 0x90], List.replicate 14 0x66 ++ [0x90], [0xF3, 0x90], [0xF0, 0x01, 0x03],
      [0xF3, 0xA4], [0xE8, 0, 0, 0, 0], [0x75, 0xFE]]
    = List.map .ok [
      .jccJb { b32 3 with seg := some .cs } 4 5, .nop { b32 3 with osz := .s16 }, .nop { b32 15 with osz := .s16 },
      .nop { b32 2 with rep := .rep }, .addEvGv { b32 3 with lock := true } (.mem (.a32 3 .none)) 0,
      .movsb { b32 2 with rep := .rep }, .callJz (b32 5) 0, .jccJb (b32 2) 5 0xFE] := by rfl

/-- D26 and D30 to D40: a sixteenth byte raises #GP, the others #UD. -/
theorem test_decode_illegal : List.map (decodeBytes m32) [
      List.replicate 15 0x66 ++ [0x90], [0xD6], [0xF6, 0xC8], [0xFE, 0xD0], [0x8D, 0xC0], [0x8E, 0xC8], [0xF0, 0x01, 0xC0],
      [0xF0, 0x90], [0x0F, 0xFF], [0x0F, 0x22, 0xC8]]
    = [.error .tooLong, .error .ud, .error .ud, .error .ud, .error .ud, .error .ud, .error .ud, .error .ud, .error .ud,
      .error .ud] ∧
    decodeBytes ⟨false, false, false⟩ [0x0F, 0x00, 0xC0] = .error .ud := ⟨rfl, rfl⟩

/-- D22, D28, D29: refused prefixes. -/
theorem test_decode_refused : List.map (decodeBytes m32) [[0x2E, 0x3E, 0x74, 0x05], [0xF3, 0x01, 0xC0], [0xF2, 0xF3, 0xA4]]
    = [.error .prefixConflict, .error .repOnNonString, .error .prefixConflict] := by rfl

/-! ## Decoding: a word for every row of spec/opcode_table.json -/

theorem test_decode_rows_addEbGb_to_sbbGvEv :
    List.map (decodeBytes m32) [
      [0x00, 0x6B, 0xF8],
      [0x01, 0xEE],
      [0x02, 0x2D, 0x44, 0x33, 0x22, 0x11],
      [0x03, 0xEE],
      [0x04, 0x9A],
      [0x05, 0x78, 0x56, 0x34, 0x92],
      [0x06],
      [0x07],
      [0x08, 0x6B, 0xF8],
      [0x09, 0xEE],
      [0x0A, 0x2D, 0x44, 0x33, 0x22, 0x11],
      [0x0B, 0xEE],
      [0x0C, 0x9A],
      [0x0D, 0x78, 0x56, 0x34, 0x92],
      [0x0E],
      [0x10, 0xEE],
      [0x11, 0x6B, 0xF8],
      [0x12, 0xEE],
      [0x13, 0x2D, 0x44, 0x33, 0x22, 0x11],
      [0x14, 0x9A],
      [0x15, 0x78, 0x56, 0x34, 0x92],
      [0x16],
      [0x17],
      [0x18, 0xEE],
      [0x19, 0x6B, 0xF8],
      [0x1A, 0xEE],
      [0x1B, 0x2D, 0x44, 0x33, 0x22, 0x11]] = List.map .ok [
      .addEbGb (b32 3) (.mem (.a32 3#3 (.d8 0xF8#8))) 5#3,
      .addEvGv (b32 2) (.reg 6#3) 5#3,
      .addGbEb (b32 6) 5#3 (.mem (.abs32 0x11223344#32)),
      .addGvEv (b32 2) 5#3 (.reg 6#3),
      .addAlIb (b32 2) 0x9A#8,
      .addEaxIz (b32 5) 0x92345678#32,
      .pushEs (b32 1),
      .popEs (b32 1),
      .orEbGb (b32 3) (.mem (.a32 3#3 (.d8 0xF8#8))) 5#3,
      .orEvGv (b32 2) (.reg 6#3) 5#3,
      .orGbEb (b32 6) 5#3 (.mem (.abs32 0x11223344#32)),
      .orGvEv (b32 2) 5#3 (.reg 6#3),
      .orAlIb (b32 2) 0x9A#8,
      .orEaxIz (b32 5) 0x92345678#32,
      .pushCs (b32 1),
      .adcEbGb (b32 2) (.reg 6#3) 5#3,
      .adcEvGv (b32 3) (.mem (.a32 3#3 (.d8 0xF8#8))) 5#3,
      .adcGbEb (b32 2) 5#3 (.reg 6#3),
      .adcGvEv (b32 6) 5#3 (.mem (.abs32 0x11223344#32)),
      .adcAlIb (b32 2) 0x9A#8,
      .adcEaxIz (b32 5) 0x92345678#32,
      .pushSs (b32 1),
      .popSs (b32 1),
      .sbbEbGb (b32 2) (.reg 6#3) 5#3,
      .sbbEvGv (b32 3) (.mem (.a32 3#3 (.d8 0xF8#8))) 5#3,
      .sbbGbEb (b32 2) 5#3 (.reg 6#3),
      .sbbGvEv (b32 6) 5#3 (.mem (.abs32 0x11223344#32))] := by rfl

theorem test_decode_rows_sbbAlIb_to_cmpEvGv :
    List.map (decodeBytes m32) [
      [0x1C, 0x9A],
      [0x1D, 0x78, 0x56, 0x34, 0x92],
      [0x1E],
      [0x1F],
      [0x20, 0xEE],
      [0x21, 0x6B, 0xF8],
      [0x22, 0xEE],
      [0x23, 0x2D, 0x44, 0x33, 0x22, 0x11],
      [0x24, 0x9A],
      [0x25, 0x78, 0x56, 0x34, 0x92],
      [0x27],
      [0x28, 0x2D, 0x44, 0x33, 0x22, 0x11],
      [0x29, 0xEE],
      [0x2A, 0x6B, 0xF8],
      [0x2B, 0xEE],
      [0x2C, 0x9A],
      [0x2D, 0x78, 0x56, 0x34, 0x92],
      [0x2F],
      [0x30, 0xEE],
      [0x31, 0x2D, 0x44, 0x33, 0x22, 0x11],
      [0x32, 0xEE],
      [0x33, 0x6B, 0xF8],
      [0x34, 0x9A],
      [0x35, 0x78, 0x56, 0x34, 0x92],
      [0x37],
      [0x38, 0x6B, 0xF8],
      [0x39, 0xEE]] = List.map .ok [
      .sbbAlIb (b32 2) 0x9A#8,
      .sbbEaxIz (b32 5) 0x92345678#32,
      .pushDs (b32 1),
      .popDs (b32 1),
      .andEbGb (b32 2) (.reg 6#3) 5#3,
      .andEvGv (b32 3) (.mem (.a32 3#3 (.d8 0xF8#8))) 5#3,
      .andGbEb (b32 2) 5#3 (.reg 6#3),
      .andGvEv (b32 6) 5#3 (.mem (.abs32 0x11223344#32)),
      .andAlIb (b32 2) 0x9A#8,
      .andEaxIz (b32 5) 0x92345678#32,
      .daa (b32 1),
      .subEbGb (b32 6) (.mem (.abs32 0x11223344#32)) 5#3,
      .subEvGv (b32 2) (.reg 6#3) 5#3,
      .subGbEb (b32 3) 5#3 (.mem (.a32 3#3 (.d8 0xF8#8))),
      .subGvEv (b32 2) 5#3 (.reg 6#3),
      .subAlIb (b32 2) 0x9A#8,
      .subEaxIz (b32 5) 0x92345678#32,
      .das (b32 1),
      .xorEbGb (b32 2) (.reg 6#3) 5#3,
      .xorEvGv (b32 6) (.mem (.abs32 0x11223344#32)) 5#3,
      .xorGbEb (b32 2) 5#3 (.reg 6#3),
      .xorGvEv (b32 3) 5#3 (.mem (.a32 3#3 (.d8 0xF8#8))),
      .xorAlIb (b32 2) 0x9A#8,
      .xorEaxIz (b32 5) 0x92345678#32,
      .aaa (b32 1),
      .cmpEbGb (b32 3) (.mem (.a32 3#3 (.d8 0xF8#8))) 5#3,
      .cmpEvGv (b32 2) (.reg 6#3) 5#3] := by rfl

theorem test_decode_rows_cmpGbEb_to_andEbIb :
    List.map (decodeBytes m32) [
      [0x3A, 0x2D, 0x44, 0x33, 0x22, 0x11],
      [0x3B, 0xEE],
      [0x3C, 0x9A],
      [0x3D, 0x78, 0x56, 0x34, 0x92],
      [0x3F],
      [0x46],
      [0x4E],
      [0x56],
      [0x5E],
      [0x60],
      [0x61],
      [0x62, 0xAC, 0x71, 0x44, 0x33, 0x22, 0x11],
      [0x63, 0x2D, 0x44, 0x33, 0x22, 0x11],
      [0x68, 0x78, 0x56, 0x34, 0x92],
      [0x69, 0x6B, 0xF8, 0x78, 0x56, 0x34, 0x92],
      [0x6A, 0x9A],
      [0x6B, 0x2D, 0x44, 0x33, 0x22, 0x11, 0x9A],
      [0x6C],
      [0x6D],
      [0x6E],
      [0x6F],
      [0x7D, 0x9A],
      [0x80, 0x43, 0xF8, 0x9A],
      [0x80, 0xCE, 0x9A],
      [0x80, 0x15, 0x44, 0x33, 0x22, 0x11, 0x9A],
      [0x80, 0xDE, 0x9A],
      [0x80, 0x63, 0xF8, 0x9A]] = List.map .ok [
      .cmpGbEb (b32 6) 5#3 (.mem (.abs32 0x11223344#32)),
      .cmpGvEv (b32 2) 5#3 (.reg 6#3),
      .cmpAlIb (b32 2) 0x9A#8,
      .cmpEaxIz (b32 5) 0x92345678#32,
      .aas (b32 1),
      .incZv (b32 1) 6#3,
      .decZv (b32 1) 6#3,
      .pushZv (b32 1) 6#3,
      .popZv (b32 1) 6#3,
      .pusha (b32 1),
      .popa (b32 1),
      .boundGvMa (b32 7) 5#3 (.sib 1#2 6#3 1#3 (.d32 0x11223344#32)),
      .arplEwGw (b32 6) (.mem (.abs32 0x11223344#32)) 5#3,
      .pushIz (b32 5) 0x92345678#32,
      .imulGvEvIz (b32 7) 5#3 (.mem (.a32 3#3 (.d8 0xF8#8))) 0x92345678#32,
      .pushIbs (b32 2) 0x9A#8,
      .imulGvEvIbs (b32 7) 5#3 (.mem (.abs32 0x11223344#32)) 0x9A#8,
      .insb (b32 1),
      .insv (b32 1),
      .outsb (b32 1),
      .outsv (b32 1),
      .jccJb (b32 2) 13#4 0x9A#8,
      .addEbIb (b32 4) (.mem (.a32 3#3 (.d8 0xF8#8))) 0x9A#8,
      .orEbIb (b32 3) (.reg 6#3) 0x9A#8,
      .adcEbIb (b32 7) (.mem (.abs32 0x11223344#32)) 0x9A#8,
      .sbbEbIb (b32 3) (.reg 6#3) 0x9A#8,
      .andEbIb (b32 4) (.mem (.a32 3#3 (.d8 0xF8#8))) 0x9A#8] := by rfl

theorem test_decode_rows_subEbIb_to_cmpEvIbs :
    List.map (decodeBytes m32) [
      [0x80, 0xEE, 0x9A],
      [0x80, 0x35, 0x44, 0x33, 0x22, 0x11, 0x9A],
      [0x80, 0xFE, 0x9A],
      [0x81, 0x43, 0xF8, 0x78, 0x56, 0x34, 0x92],
      [0x81, 0xCE, 0x78, 0x56, 0x34, 0x92],
      [0x81, 0x15, 0x44, 0x33, 0x22, 0x11, 0x78, 0x56, 0x34, 0x92],
      [0x81, 0xDE, 0x78, 0x56, 0x34, 0x92],
      [0x81, 0x63, 0xF8, 0x78, 0x56, 0x34, 0x92],
      [0x81, 0xEE, 0x78, 0x56, 0x34, 0x92],
      [0x81, 0x35, 0x44, 0x33, 0x22, 0x11, 0x78, 0x56, 0x34, 0x92],
      [0x81, 0xFE, 0x78, 0x56, 0x34, 0x92],
      [0x82, 0x43, 0xF8, 0x9A],
      [0x82, 0xCE, 0x9A],
      [0x82, 0x15, 0x44, 0x33, 0x22, 0x11, 0x9A],
      [0x82, 0xDE, 0x9A],
      [0x82, 0x63, 0xF8, 0x9A],
      [0x82, 0xEE, 0x9A],
      [0x82, 0x35, 0x44, 0x33, 0x22, 0x11, 0x9A],
      [0x82, 0xFE, 0x9A],
      [0x83, 0x43, 0xF8, 0x9A],
      [0x83, 0xCE, 0x9A],
      [0x83, 0x15, 0x44, 0x33, 0x22, 0x11, 0x9A],
      [0x83, 0xDE, 0x9A],
      [0x83, 0x63, 0xF8, 0x9A],
      [0x83, 0xEE, 0x9A],
      [0x83, 0x35, 0x44, 0x33, 0x22, 0x11, 0x9A],
      [0x83, 0xFE, 0x9A]] = List.map .ok [
      .subEbIb (b32 3) (.reg 6#3) 0x9A#8,
      .xorEbIb (b32 7) (.mem (.abs32 0x11223344#32)) 0x9A#8,
      .cmpEbIb (b32 3) (.reg 6#3) 0x9A#8,
      .addEvIz (b32 7) (.mem (.a32 3#3 (.d8 0xF8#8))) 0x92345678#32,
      .orEvIz (b32 6) (.reg 6#3) 0x92345678#32,
      .adcEvIz (b32 10) (.mem (.abs32 0x11223344#32)) 0x92345678#32,
      .sbbEvIz (b32 6) (.reg 6#3) 0x92345678#32,
      .andEvIz (b32 7) (.mem (.a32 3#3 (.d8 0xF8#8))) 0x92345678#32,
      .subEvIz (b32 6) (.reg 6#3) 0x92345678#32,
      .xorEvIz (b32 10) (.mem (.abs32 0x11223344#32)) 0x92345678#32,
      .cmpEvIz (b32 6) (.reg 6#3) 0x92345678#32,
      .addEbIb82 (b32 4) (.mem (.a32 3#3 (.d8 0xF8#8))) 0x9A#8,
      .orEbIb82 (b32 3) (.reg 6#3) 0x9A#8,
      .adcEbIb82 (b32 7) (.mem (.abs32 0x11223344#32)) 0x9A#8,
      .sbbEbIb82 (b32 3) (.reg 6#3) 0x9A#8,
      .andEbIb82 (b32 4) (.mem (.a32 3#3 (.d8 0xF8#8))) 0x9A#8,
      .subEbIb82 (b32 3) (.reg 6#3) 0x9A#8,
      .xorEbIb82 (b32 7) (.mem (.abs32 0x11223344#32)) 0x9A#8,
      .cmpEbIb82 (b32 3) (.reg 6#3) 0x9A#8,
      .addEvIbs (b32 4) (.mem (.a32 3#3 (.d8 0xF8#8))) 0x9A#8,
      .orEvIbs (b32 3) (.reg 6#3) 0x9A#8,
      .adcEvIbs (b32 7) (.mem (.abs32 0x11223344#32)) 0x9A#8,
      .sbbEvIbs (b32 3) (.reg 6#3) 0x9A#8,
      .andEvIbs (b32 4) (.mem (.a32 3#3 (.d8 0xF8#8))) 0x9A#8,
      .subEvIbs (b32 3) (.reg 6#3) 0x9A#8,
      .xorEvIbs (b32 7) (.mem (.abs32 0x11223344#32)) 0x9A#8,
      .cmpEvIbs (b32 3) (.reg 6#3) 0x9A#8] := by rfl

theorem test_decode_rows_testEbGb_to_sahf :
    List.map (decodeBytes m32) [
      [0x84, 0x6B, 0xF8],
      [0x85, 0xEE],
      [0x86, 0x2D, 0x44, 0x33, 0x22, 0x11],
      [0x87, 0xEE],
      [0x88, 0x6B, 0xF8],
      [0x89, 0xEE],
      [0x8A, 0x2D, 0x44, 0x33, 0x22, 0x11],
      [0x8B, 0xEE],
      [0x8C, 0x5B, 0xF8],
      [0x8D, 0xAC, 0x71, 0x44, 0x33, 0x22, 0x11],
      [0x8E, 0x1D, 0x44, 0x33, 0x22, 0x11],
      [0x8F, 0xC6],
      [0x90],
      [0x91],
      [0x92],
      [0x93],
      [0x94],
      [0x95],
      [0x96],
      [0x97],
      [0x98],
      [0x99],
      [0x9A, 0x78, 0x56, 0x34, 0x92, 0xCD, 0xAB],
      [0x9B],
      [0x9C],
      [0x9D],
      [0x9E]] = List.map .ok [
      .testEbGb (b32 3) (.mem (.a32 3#3 (.d8 0xF8#8))) 5#3,
      .testEvGv (b32 2) (.reg 6#3) 5#3,
      .xchgEbGb (b32 6) (.mem (.abs32 0x11223344#32)) 5#3,
      .xchgEvGv (b32 2) (.reg 6#3) 5#3,
      .movEbGb (b32 3) (.mem (.a32 3#3 (.d8 0xF8#8))) 5#3,
      .movEvGv (b32 2) (.reg 6#3) 5#3,
      .movGbEb (b32 6) 5#3 (.mem (.abs32 0x11223344#32)),
      .movGvEv (b32 2) 5#3 (.reg 6#3),
      .movEwSw (b32 3) (.mem (.a32 3#3 (.d8 0xF8#8))) .ds,
      .leaGvM (b32 7) 5#3 (.sib 1#2 6#3 1#3 (.d32 0x11223344#32)),
      .movSwEw (b32 6) .ds (.mem (.abs32 0x11223344#32)),
      .popEv (b32 2) (.reg 6#3),
      .nop (b32 1),
      .xchgEaxR1 (b32 1),
      .xchgEaxR2 (b32 1),
      .xchgEaxR3 (b32 1),
      .xchgEaxR4 (b32 1),
      .xchgEaxR5 (b32 1),
      .xchgEaxR6 (b32 1),
      .xchgEaxR7 (b32 1),
      .cbw (b32 1),
      .cwd (b32 1),
      .callAp (b32 7) 0x92345678#32 0xABCD#16,
      .wait (b32 1),
      .pushf (b32 1),
      .popf (b32 1),
      .sahf (b32 1)] := by rfl

theorem test_decode_rows_lahf_to_rolEvIb :
    List.map (decodeBytes m32) [
      [0x9F],
      [0xA0, 0x78, 0x56, 0x34, 0x92],
      [0xA1, 0x78, 0x56, 0x34, 0x92],
      [0xA2, 0x78, 0x56, 0x34, 0x92],
      [0xA3, 0x78, 0x56, 0x34, 0x92],
      [0xA4],
      [0xA5],
      [0xA6],
      [0xA7],
      [0xA8, 0x9A],
      [0xA9, 0x78, 0x56, 0x34, 0x92],
      [0xAA],
      [0xAB],
      [0xAC],
      [0xAD],
      [0xAE],
      [0xAF],
      [0xB6, 0x9A],
      [0xBE, 0x78, 0x56, 0x34, 0x92],
      [0xC0, 0x05, 0x44, 0x33, 0x22, 0x11, 0x9A],
      [0xC0, 0xCE, 0x9A],
      [0xC0, 0x53, 0xF8, 0x9A],
      [0xC0, 0xDE, 0x9A],
      [0xC0, 0x25, 0x44, 0x33, 0x22, 0x11, 0x9A],
      [0xC0, 0xEE, 0x9A],
      [0xC0, 0x7B, 0xF8, 0x9A],
      [0xC1, 0xC6, 0x9A]] = List.map .ok [
      .lahf (b32 1),
      .movAlOb (b32 5) 0x92345678#32,
      .movEaxOv (b32 5) 0x92345678#32,
      .movObAl (b32 5) 0x92345678#32,
      .movOvEax (b32 5) 0x92345678#32,
      .movsb (b32 1),
      .movsv (b32 1),
      .cmpsb (b32 1),
      .cmpsv (b32 1),
      .testAlIb (b32 2) 0x9A#8,
      .testEaxIz (b32 5) 0x92345678#32,
      .stosb (b32 1),
      .stosv (b32 1),
      .lodsb (b32 1),
      .lodsv (b32 1),
      .scasb (b32 1),
      .scasv (b32 1),
      .movZbIb (b32 2) 6#3 0x9A#8,
      .movZvIz (b32 5) 6#3 0x92345678#32,
      .rolEbIb (b32 7) (.mem (.abs32 0x11223344#32)) 0x9A#8,
      .rorEbIb (b32 3) (.reg 6#3) 0x9A#8,
      .rclEbIb (b32 4) (.mem (.a32 3#3 (.d8 0xF8#8))) 0x9A#8,
      .rcrEbIb (b32 3) (.reg 6#3) 0x9A#8,
      .shlEbIb (b32 7) (.mem (.abs32 0x11223344#32)) 0x9A#8,
      .shrEbIb (b32 3) (.reg 6#3) 0x9A#8,
      .sarEbIb (b32 4) (.mem (.a32 3#3 (.d8 0xF8#8))) 0x9A#8,
      .rolEvIb (b32 3) (.reg 6#3) 0x9A#8] := by rfl

theorem test_decode_rows_rorEvIb_to_sarEbCl :
    List.map (decodeBytes m32) [
      [0xC1, 0x0D, 0x44, 0x33, 0x22, 0x11, 0x9A],
      [0xC1, 0xD6, 0x9A],
      [0xC1, 0x5B, 0xF8, 0x9A],
      [0xC1, 0xE6, 0x9A],
      [0xC1, 0x2D, 0x44, 0x33, 0x22, 0x11, 0x9A],
      [0xC1, 0xFE, 0x9A],
      [0xD0, 0x43, 0xF8],
      [0xD0, 0xCE],
      [0xD0, 0x15, 0x44, 0x33, 0x22, 0x11],
      [0xD0, 0xDE],
      [0xD0, 0x63, 0xF8],
      [0xD0, 0xEE],
      [0xD0, 0x3D, 0x44, 0x33, 0x22, 0x11],
      [0xD1, 0xC6],
      [0xD1, 0x4B, 0xF8],
      [0xD1, 0xD6],
      [0xD1, 0x1D, 0x44, 0x33, 0x22, 0x11],
      [0xD1, 0xE6],
      [0xD1, 0x6B, 0xF8],
      [0xD1, 0xFE],
      [0xD2, 0x05, 0x44, 0x33, 0x22, 0x11],
      [0xD2, 0xCE],
      [0xD2, 0x53, 0xF8],
      [0xD2, 0xDE],
      [0xD2, 0x25, 0x44, 0x33, 0x22, 0x11],
      [0xD2, 0xEE],
      [0xD2, 0x7B, 0xF8]] = List.map .ok [
      .rorEvIb (b32 7) (.mem (.abs32 0x11223344#32)) 0x9A#8,
      .rclEvIb (b32 3) (.reg 6#3) 0x9A#8,
      .rcrEvIb (b32 4) (.mem (.a32 3#3 (.d8 0xF8#8))) 0x9A#8,
      .shlEvIb (b32 3) (.reg 6#3) 0x9A#8,
      .shrEvIb (b32 7) (.mem (.abs32 0x11223344#32)) 0x9A#8,
      .sarEvIb (b32 3) (.reg 6#3) 0x9A#8,
      .rolEb1 (b32 3) (.mem (.a32 3#3 (.d8 0xF8#8))),
      .rorEb1 (b32 2) (.reg 6#3),
      .rclEb1 (b32 6) (.mem (.abs32 0x11223344#32)),
      .rcrEb1 (b32 2) (.reg 6#3),
      .shlEb1 (b32 3) (.mem (.a32 3#3 (.d8 0xF8#8))),
      .shrEb1 (b32 2) (.reg 6#3),
      .sarEb1 (b32 6) (.mem (.abs32 0x11223344#32)),
      .rolEv1 (b32 2) (.reg 6#3),
      .rorEv1 (b32 3) (.mem (.a32 3#3 (.d8 0xF8#8))),
      .rclEv1 (b32 2) (.reg 6#3),
      .rcrEv1 (b32 6) (.mem (.abs32 0x11223344#32)),
      .shlEv1 (b32 2) (.reg 6#3),
      .shrEv1 (b32 3) (.mem (.a32 3#3 (.d8 0xF8#8))),
      .sarEv1 (b32 2) (.reg 6#3),
      .rolEbCl (b32 6) (.mem (.abs32 0x11223344#32)),
      .rorEbCl (b32 2) (.reg 6#3),
      .rclEbCl (b32 3) (.mem (.a32 3#3 (.d8 0xF8#8))),
      .rcrEbCl (b32 2) (.reg 6#3),
      .shlEbCl (b32 6) (.mem (.abs32 0x11223344#32)),
      .shrEbCl (b32 2) (.reg 6#3),
      .sarEbCl (b32 3) (.mem (.a32 3#3 (.d8 0xF8#8)))] := by rfl

theorem test_decode_rows_rolEvCl_to_loopeJb :
    List.map (decodeBytes m32) [
      [0xD3, 0xC6],
      [0xD3, 0x0D, 0x44, 0x33, 0x22, 0x11],
      [0xD3, 0xD6],
      [0xD3, 0x5B, 0xF8],
      [0xD3, 0xE6],
      [0xD3, 0x2D, 0x44, 0x33, 0x22, 0x11],
      [0xD3, 0xFE],
      [0xC2, 0x34, 0x12],
      [0xC3],
      [0xC4, 0x2D, 0x44, 0x33, 0x22, 0x11],
      [0xC5, 0x2E],
      [0xC6, 0x43, 0xF8, 0x9A],
      [0xC7, 0xC6, 0x78, 0x56, 0x34, 0x92],
      [0xC8, 0x34, 0x12, 0x05],
      [0xC9],
      [0xCA, 0x34, 0x12],
      [0xCB],
      [0xCC],
      [0xCD, 0x9A],
      [0xCE],
      [0xCF],
      [0xD4, 0x9A],
      [0xD5, 0x9A],
      [0xD7],
      [0xDB, 0xEE],
      [0xE0, 0x9A],
      [0xE1, 0x9A]] = List.map .ok [
      .rolEvCl (b32 2) (.reg 6#3),
      .rorEvCl (b32 6) (.mem (.abs32 0x11223344#32)),
      .rclEvCl (b32 2) (.reg 6#3),
      .rcrEvCl (b32 3) (.mem (.a32 3#3 (.d8 0xF8#8))),
      .shlEvCl (b32 2) (.reg 6#3),
      .shrEvCl (b32 6) (.mem (.abs32 0x11223344#32)),
      .sarEvCl (b32 2) (.reg 6#3),
      .retIw (b32 3) 0x1234#16,
      .ret (b32 1),
      .lesGvMp (b32 6) 5#3 (.abs32 0x11223344#32),
      .ldsGvMp (b32 2) 5#3 (.a32 6#3 .none),
      .movEbIb (b32 4) (.mem (.a32 3#3 (.d8 0xF8#8))) 0x9A#8,
      .movEvIz (b32 6) (.reg 6#3) 0x92345678#32,
      .enterIwIb (b32 4) 0x1234#16 5#8,
      .leave (b32 1),
      .retfIw (b32 3) 0x1234#16,
      .retf (b32 1),
      .int3 (b32 1),
      .intIb (b32 2) 0x9A#8,
      .into (b32 1),
      .iret (b32 1),
      .aamIb (b32 2) 0x9A#8,
      .aadIb (b32 2) 0x9A#8,
      .xlat (b32 1),
      .esc (b32 2) 3#3 5#3 (.reg 6#3),
      .loopneJb (b32 2) 0x9A#8,
      .loopeJb (b32 2) 0x9A#8] := by rfl

theorem test_decode_rows_loopJb_to_mulEv :
    List.map (decodeBytes m32) [
      [0xE2, 0x9A],
      [0xE3, 0x9A],
      [0xE4, 0x9A],
      [0xE5, 0x9A],
      [0xE6, 0x9A],
      [0xE7, 0x9A],
      [0xE8, 0x78, 0x56, 0x34, 0x92],
      [0xE9, 0x78, 0x56, 0x34, 0x92],
      [0xEA, 0x78, 0x56, 0x34, 0x92, 0xCD, 0xAB],
      [0xEB, 0x9A],
      [0xEC],
      [0xED],
      [0xEE],
      [0xEF],
      [0xF4],
      [0xF5],
      [0xF6, 0x43, 0xF8, 0x9A],
      [0xF6, 0xD6],
      [0xF6, 0x1D, 0x44, 0x33, 0x22, 0x11],
      [0xF6, 0xE6],
      [0xF6, 0x6B, 0xF8],
      [0xF6, 0xF6],
      [0xF6, 0x3D, 0x44, 0x33, 0x22, 0x11],
      [0xF7, 0xC6, 0x78, 0x56, 0x34, 0x92],
      [0xF7, 0x53, 0xF8],
      [0xF7, 0xDE],
      [0xF7, 0x25, 0x44, 0x33, 0x22, 0x11]] = List.map .ok [
      .loopJb (b32 2) 0x9A#8,
      .jcxzJb (b32 2) 0x9A#8,
      .inAlIb (b32 2) 0x9A#8,
      .inEaxIb (b32 2) 0x9A#8,
      .outIbAl (b32 2) 0x9A#8,
      .outIbEax (b32 2) 0x9A#8,
      .callJz (b32 5) 0x92345678#32,
      .jmpJz (b32 5) 0x92345678#32,
      .jmpAp (b32 7) 0x92345678#32 0xABCD#16,
      .jmpJb (b32 2) 0x9A#8,
      .inAlDx (b32 1),
      .inEaxDx (b32 1),
      .outDxAl (b32 1),
      .outDxEax (b32 1),
      .hlt (b32 1),
      .cmc (b32 1),
      .testEbIb (b32 4) (.mem (.a32 3#3 (.d8 0xF8#8))) 0x9A#8,
      .notEb (b32 2) (.reg 6#3),
      .negEb (b32 6) (.mem (.abs32 0x11223344#32)),
      .mulEb (b32 2) (.reg 6#3),
      .imulEb (b32 3) (.mem (.a32 3#3 (.d8 0xF8#8))),
      .divEb (b32 2) (.reg 6#3),
      .idivEb (b32 6) (.mem (.abs32 0x11223344#32)),
      .testEvIz (b32 6) (.reg 6#3) 0x92345678#32,
      .notEv (b32 3) (.mem (.a32 3#3 (.d8 0xF8#8))),
      .negEv (b32 2) (.reg 6#3),
      .mulEv (b32 6) (.mem (.abs32 0x11223344#32))] := by rfl

theorem test_decode_rows_imulEv_to_lgdtMs :
    List.map (decodeBytes m32) [
      [0xF7, 0xEE],
      [0xF7, 0x73, 0xF8],
      [0xF7, 0xFE],
      [0xF8],
      [0xF9],
      [0xFA],
      [0xFB],
      [0xFC],
      [0xFD],
      [0xFE, 0x43, 0xF8],
      [0xFE, 0xCE],
      [0xFF, 0x05, 0x44, 0x33, 0x22, 0x11],
      [0xFF, 0xCE],
      [0xFF, 0x53, 0xF8],
      [0xFF, 0x9C, 0x71, 0x44, 0x33, 0x22, 0x11],
      [0xFF, 0x25, 0x44, 0x33, 0x22, 0x11],
      [0xFF, 0x2E],
      [0xFF, 0x73, 0xF8],
      [0x0F, 0x00, 0xC6],
      [0x0F, 0x00, 0x0D, 0x44, 0x33, 0x22, 0x11],
      [0x0F, 0x00, 0xD6],
      [0x0F, 0x00, 0x5B, 0xF8],
      [0x0F, 0x00, 0xE6],
      [0x0F, 0x00, 0x2D, 0x44, 0x33, 0x22, 0x11],
      [0x0F, 0x01, 0x06],
      [0x0F, 0x01, 0x4B, 0xF8],
      [0x0F, 0x01, 0x94, 0x71, 0x44, 0x33, 0x22, 0x11]] = List.map .ok [
      .imulEv (b32 2) (.reg 6#3),
      .divEv (b32 3) (.mem (.a32 3#3 (.d8 0xF8#8))),
      .idivEv (b32 2) (.reg 6#3),
      .clc (b32 1),
      .stc (b32 1),
      .cli (b32 1),
      .sti (b32 1),
      .cld (b32 1),
      .std (b32 1),
      .incEb (b32 3) (.mem (.a32 3#3 (.d8 0xF8#8))),
      .decEb (b32 2) (.reg 6#3),
      .incEv (b32 6) (.mem (.abs32 0x11223344#32)),
      .decEv (b32 2) (.reg 6#3),
      .callEv (b32 3) (.mem (.a32 3#3 (.d8 0xF8#8))),
      .callMp (b32 7) (.sib 1#2 6#3 1#3 (.d32 0x11223344#32)),
      .jmpEv (b32 6) (.mem (.abs32 0x11223344#32)),
      .jmpMp (b32 2) (.a32 6#3 .none),
      .pushEv (b32 3) (.mem (.a32 3#3 (.d8 0xF8#8))),
      .sldtEw (b32 3) (.reg 6#3),
      .strEw (b32 7) (.mem (.abs32 0x11223344#32)),
      .lldtEw (b32 3) (.reg 6#3),
      .ltrEw (b32 4) (.mem (.a32 3#3 (.d8 0xF8#8))),
      .verrEw (b32 3) (.reg 6#3),
      .verwEw (b32 7) (.mem (.abs32 0x11223344#32)),
      .sgdtMs (b32 3) (.a32 6#3 .none),
      .sidtMs (b32 4) (.a32 3#3 (.d8 0xF8#8)),
      .lgdtMs (b32 8) (.sib 1#2 6#3 1#3 (.d32 0x11223344#32))] := by rfl

theorem test_decode_rows_lidtMs_to_pushGs :
    List.map (decodeBytes m32) [
      [0x0F, 0x01, 0x1D, 0x44, 0x33, 0x22, 0x11],
      [0x0F, 0x01, 0xE6],
      [0x0F, 0x01, 0x73, 0xF8],
      [0x0F, 0x01, 0xBC, 0x71, 0x44, 0x33, 0x22, 0x11],
      [0x0F, 0x02, 0x2D, 0x44, 0x33, 0x22, 0x11],
      [0x0F, 0x03, 0xEE],
      [0x0F, 0x06],
      [0x0F, 0x08],
      [0x0F, 0x09],
      [0x0F, 0x0B],
      [0x0F, 0x20, 0xDE],
      [0x0F, 0x21, 0xFE],
      [0x0F, 0x22, 0xDE],
      [0x0F, 0x23, 0xFE],
      [0x0F, 0x30],
      [0x0F, 0x31],
      [0x0F, 0x32],
      [0x0F, 0x4D, 0xEE],
      [0x0F, 0x8D, 0x78, 0x56, 0x34, 0x92],
      [0x0F, 0x9D, 0xEE],
      [0x0F, 0xA0],
      [0x0F, 0xA1],
      [0x0F, 0xA2],
      [0x0F, 0xA3, 0xEE],
      [0x0F, 0xA4, 0x2D, 0x44, 0x33, 0x22, 0x11, 0x9A],
      [0x0F, 0xA5, 0xEE],
      [0x0F, 0xA8]] = List.map .ok [
      .lidtMs (b32 7) (.abs32 0x11223344#32),
      .smswEw (b32 3) (.reg 6#3),
      .lmswEw (b32 4) (.mem (.a32 3#3 (.d8 0xF8#8))),
      .invlpgM (b32 8) (.sib 1#2 6#3 1#3 (.d32 0x11223344#32)),
      .larGvEw (b32 7) 5#3 (.mem (.abs32 0x11223344#32)),
      .lslGvEw (b32 3) 5#3 (.reg 6#3),
      .clts (b32 2),
      .invd (b32 2),
      .wbinvd (b32 2),
      .ud2 (b32 2),
      .movRdCd (b32 3) 6#3 .cr3,
      .movRdDd (b32 3) 6#3 7#3,
      .movCdRd (b32 3) .cr3 6#3,
      .movDdRd (b32 3) 7#3 6#3,
      .wrmsr (b32 2),
      .rdtsc (b32 2),
      .rdmsr (b32 2),
      .cmovccGvEv (b32 3) 13#4 5#3 (.reg 6#3),
      .jccJz (b32 6) 13#4 0x92345678#32,
      .setccEb (b32 3) 13#4 (.reg 6#3),
      .pushFs (b32 2),
      .popFs (b32 2),
      .cpuid (b32 2),
      .btEvGv (b32 3) (.reg 6#3) 5#3,
      .shldEvGvIb (b32 8) (.mem (.abs32 0x11223344#32)) 5#3 0x9A#8,
      .shldEvGvCl (b32 3) (.reg 6#3) 5#3,
      .pushGs (b32 2)] := by rfl

theorem test_decode_rows_popGs_to_bswapZd :
    List.map (decodeBytes m32) [
      [0x0F, 0xA9],
      [0x0F, 0xAA],
      [0x0F, 0xAB, 0xEE],
      [0x0F, 0xAC, 0x6B, 0xF8, 0x9A],
      [0x0F, 0xAD, 0xEE],
      [0x0F, 0xAF, 0x2D, 0x44, 0x33, 0x22, 0x11],
      [0x0F, 0xB0, 0xEE],
      [0x0F, 0xB1, 0x6B, 0xF8],
      [0x0F, 0xB2, 0xAC, 0x71, 0x44, 0x33, 0x22, 0x11],
      [0x0F, 0xB3, 0x2D, 0x44, 0x33, 0x22, 0x11],
      [0x0F, 0xB4, 0x2E],
      [0x0F, 0xB5, 0x6B, 0xF8],
      [0x0F, 0xB6, 0xEE],
      [0x0F, 0xB7, 0x2D, 0x44, 0x33, 0x22, 0x11],
      [0x0F, 0xBA, 0xE6, 0x9A],
      [0x0F, 0xBA, 0x6B, 0xF8, 0x9A],
      [0x0F, 0xBA, 0xF6, 0x9A],
      [0x0F, 0xBA, 0x3D, 0x44, 0x33, 0x22, 0x11, 0x9A],
      [0x0F, 0xBB, 0xEE],
      [0x0F, 0xBC, 0x6B, 0xF8],
      [0x0F, 0xBD, 0xEE],
      [0x0F, 0xBE, 0x2D, 0x44, 0x33, 0x22, 0x11],
      [0x0F, 0xBF, 0xEE],
      [0x0F, 0xC0, 0x6B, 0xF8],
      [0x0F, 0xC1, 0xEE],
      [0x0F, 0xC7, 0x0D, 0x44, 0x33, 0x22, 0x11],
      [0x0F, 0xCE]] = List.map .ok [
      .popGs (b32 2),
      .rsm (b32 2),
      .btsEvGv (b32 3) (.reg 6#3) 5#3,
      .shrdEvGvIb (b32 5) (.mem (.a32 3#3 (.d8 0xF8#8))) 5#3 0x9A#8,
      .shrdEvGvCl (b32 3) (.reg 6#3) 5#3,
      .imulGvEv (b32 7) 5#3 (.mem (.abs32 0x11223344#32)),
      .cmpxchgEbGb (b32 3) (.reg 6#3) 5#3,
      .cmpxchgEvGv (b32 4) (.mem (.a32 3#3 (.d8 0xF8#8))) 5#3,
      .lssGvMp (b32 8) 5#3 (.sib 1#2 6#3 1#3 (.d32 0x11223344#32)),
      .btrEvGv (b32 7) (.mem (.abs32 0x11223344#32)) 5#3,
      .lfsGvMp (b32 3) 5#3 (.a32 6#3 .none),
      .lgsGvMp (b32 4) 5#3 (.a32 3#3 (.d8 0xF8#8)),
      .movzxGvEb (b32 3) 5#3 (.reg 6#3),
      .movzxGvEw (b32 7) 5#3 (.mem (.abs32 0x11223344#32)),
      .btEvIb (b32 4) (.reg 6#3) 0x9A#8,
      .btsEvIb (b32 5) (.mem (.a32 3#3 (.d8 0xF8#8))) 0x9A#8,
      .btrEvIb (b32 4) (.reg 6#3) 0x9A#8,
      .btcEvIb (b32 8) (.mem (.abs32 0x11223344#32)) 0x9A#8,
      .btcEvGv (b32 3) (.reg 6#3) 5#3,
      .bsfGvEv (b32 4) 5#3 (.mem (.a32 3#3 (.d8 0xF8#8))),
      .bsrGvEv (b32 3) 5#3 (.reg 6#3),
      .movsxGvEb (b32 7) 5#3 (.mem (.abs32 0x11223344#32)),
      .movsxGvEw (b32 3) 5#3 (.reg 6#3),
      .xaddEbGb (b32 4) (.mem (.a32 3#3 (.d8 0xF8#8))) 5#3,
      .xaddEvGv (b32 3) (.reg 6#3) 5#3,
      .cmpxchg8bMq (b32 7) (.abs32 0x11223344#32),
      .bswapZd (b32 2) 6#3] := by rfl

/-! ## The host's two questions -/

theorem test_table_word_nop : decodeTableWord 8 0x90 = some (.nop (b16 1)) := by rfl

theorem test_table_word_bswap : decodeTableWord 16 0xC90F = some (.bswapZd (b16 2) 1) := by rfl

theorem test_fetch_word_runs :
    goes (step (State.reset.withFetchWord 8 0xF9)) (fun t => t.flags.cf && t.eip == 0xFFF1#32) = true := by decide

/-! ## One step: the vectors of spec/95_test_vectors.md, named by their ids there

The expected values are the spec's. Where a vector of the spec takes an exception, the test's IDT holds 16-bit gates, whose
frames hold no free half. The tests without such an id are worked by hand from the rule of their instruction. -/

theorem test_W1 :
    goes (run { pm32 with gpr := { (pm32).gpr with eax := 0x7FFFFFFF#32 } } [0x83, 0xC0, 0x01])
    (fun t => t.gpr.eax == 0x80000000#32 && t.flags.of && t.flags.sf && !t.flags.cf && !t.flags.zf && t.flags.af && t.flags.pf && t.eip == 0x2003#32 && t.classOut == some .none) = true := by decide

theorem test_W2a :
    goes (run { pm32 with gpr := { (pm32).gpr with eax := 0xFFFFFFFF#32, ebx := 0x1#32 } } [0x01, 0xD8])
    (fun t => t.gpr.eax == 0x0#32 && t.flags.cf && t.flags.zf && t.flags.pf && t.flags.af && !t.flags.sf && !t.flags.of) = true := by decide

theorem test_W2b :
    goes (run (image pm32 0x3#32) [0x11, 0xCA])
    (fun t => t.gpr.edx == 0x1#32 && !t.flags.cf && !t.flags.zf && !t.flags.pf && !t.flags.af && !t.flags.sf && !t.flags.of) = true := by decide

theorem test_W4a :
    goes (run { (image pm32 0x8D7#32) with gpr := { (pm32).gpr with eax := 0x80000001#32 } } [0xD3, 0xE0])
    (fun t => t.gpr.eax == 0x80000001#32 && t.flags.image == 0x8D7#32) = true := by decide

theorem test_W4b :
    goes (run { (image pm32 0x802#32) with gpr := { (pm32).gpr with eax := 0x81#32, ecx := 0x20#32 } } [0xD2, 0xC0])
    (fun t => t.gpr.eax == 0x81#32 && !t.flags.cf && t.flags.of) = true := by decide

theorem test_W4c :
    goes (run { (image (at' pm32 0x300 [0x5A]) 0x3#32) with gpr := { (pm32).gpr with ebx := 0x300#32, ecx := 0x40#32 } } [0xD2, 0x1B])
    (fun t => peek t 0x300 1 == 0x5A && t.flags.cf && t.smcDirty == [0x300]) = true := by decide

theorem test_W5a :
    goes (run { pm32 with gpr := { (pm32).gpr with eax := 0x12345678#32 } } [0xB0, 0x55])
    (fun t => t.gpr.eax == 0x12345655#32) = true := by decide

theorem test_W5b :
    goes (run { pm32 with gpr := { (pm32).gpr with eax := 0x12345655#32 } } [0xB4, 0x99])
    (fun t => t.gpr.eax == 0x12349955#32) = true := by decide

theorem test_W5c :
    goes (run { pm32 with gpr := { (pm32).gpr with eax := 0x12349955#32 } } [0x66, 0xB8, 0xEF, 0xBE])
    (fun t => t.gpr.eax == 0x1234BEEF#32) = true := by decide

theorem test_W5e :
    goes (run { pm32 with gpr := { (pm32).gpr with eax := 0xAABBCCDD#32 } } [0x88, 0xC7])
    (fun t => t.gpr.ebx == 0xDD00#32) = true := by decide

theorem test_W5f :
    goes (run { pm32 with gpr := { (pm32).gpr with eax := 0xFFFFFFFF#32, ebx := 0x80#32 } } [0x0F, 0xB6, 0xC3])
    (fun t => t.gpr.eax == 0x80#32) = true := by decide

theorem test_W6a :
    goes (run { pm32 with gpr := { (pm32).gpr with edx := 0x1#32, ecx := 0x2#32 } } [0xF7, 0xF1])
    (fun t => t.gpr.eax == 0x80000000#32 && t.gpr.edx == 0x0#32) = true := by decide

theorem test_W6b :
    took (run { pm32 with gpr := { (pm32).gpr with edx := 0x2#32, ecx := 0x2#32 } } [0xF7, 0xF1]) 0 none 0x2000 = true := by decide

theorem test_W6d :
    goes (run { pm32 with gpr := { (pm32).gpr with eax := 0x64#32, ecx := 0x7#32 } } [0xF6, 0xF1])
    (fun t => t.gpr.eax == 0x20E#32) = true := by decide

theorem test_W6e :
    goes (run { pm32 with gpr := { (pm32).gpr with eax := 0xFFF9#32, ecx := 0x2#32 } } [0xF6, 0xF9])
    (fun t => t.gpr.eax == 0xFFFD#32) = true := by decide

theorem test_W6f :
    took (run { pm32 with gpr := { (pm32).gpr with edx := 0xFFFFFFFF#32, eax := 0x80000000#32, ecx := 0xFFFFFFFF#32 } } [0xF7, 0xF9]) 0 none 0x2000 = true := by decide

theorem test_W6h :
    took (run { pm32 with gpr := { (pm32).gpr with eax := 0x80#32, ecx := 0x1#32 } } [0xF6, 0xF9]) 0 none 0x2000 = true := by decide

theorem test_W8a :
    goes (run { (at' pm32 0x10FFC [0x01, 0x02, 0x03, 0x04]) with ds := { flat 0x10#16 0x3#4 0#2 with base := 0x10000#32, limit := 0xFFF#32 } } [0xA1, 0xFC, 0x0F, 0x00, 0x00])
    (fun t => t.gpr.eax == 0x4030201#32) = true := by decide

theorem test_W8b :
    took (run { pm32 with ds := { flat 0x10#16 0x3#4 0#2 with base := 0x10000#32, limit := 0xFFF#32 } } [0xA1, 0xFD, 0x0F, 0x00, 0x00]) 13 (some 0x0) 0x2000 = true := by decide

theorem test_W8c :
    took (run { pm32 with ds := { flat 0x10#16 0x3#4 0#2 with base := 0x10000#32, limit := 0xFFF#32 } } [0xA3, 0xFD, 0x0F, 0x00, 0x00]) 13 (some 0x0) 0x2000 = true := by decide

theorem test_W8f :
    goes (run { pm32 with ds := { flat 0x10#16 0x7#4 0#2 with base := 0x10000#32, limit := 0xFFF#32 } } [0x8B, 0x05, 0x00, 0x10, 0x00, 0x00])
    (fun t => t.gpr.eax == 0x0#32) = true := by decide

theorem test_W8g :
    took (run { pm32 with ds := { flat 0x10#16 0x7#4 0#2 with base := 0x10000#32, limit := 0xFFF#32 } } [0x03, 0x05, 0xFE, 0x0F, 0x00, 0x00]) 13 (some 0x0) 0x2000 = true := by decide

theorem test_W8j :
    refuses (run rm16 [0x8B, 0x06, 0xFF, 0xFF]) .realModeLimit = true := by decide

theorem test_M1 :
    goes (run { pm32 with gpr := { (pm32).gpr with eax := 0x11223344#32, ebx := 0x300#32 } } [0x89, 0x03])
    (fun t => peek t 0x300 4 == 0x11223344 && peek t 0x300 1 == 0x44) = true := by decide

theorem test_M2 :
    goes (run (at' pm32 0x300 [0x44, 0x33]) [0x66, 0xA1, 0x00, 0x03, 0x00, 0x00])
    (fun t => t.gpr.eax == 0x3344#32) = true := by decide

theorem test_M6a :
    goes (run { rm16 with gpr := { (rm16).gpr with eax := 0x1234#32 } } [0x8E, 0xD8])
    (fun t => t.ds.base == 0x12340#32 && t.ds.selector == 0x1234#16) = true := by decide

theorem test_M7 :
    took (run { (image pm32u 0x40002#32) with cr0 := 0x40011#32 } [0x2B, 0x05, 0x01, 0x10, 0x00, 0x00]) 17 (some 0x0) 0x2000 = true := by decide

theorem test_M10 :
    took (run { pm32 with gpr := { (pm32).gpr with ebx := 0x300#32 }, ds := flat 0x10#16 0x1#4 0#2 } [0xFF, 0x03]) 13 (some 0x0) 0x2000 = true := by decide

theorem test_D22 :
    refuses (run pm32 [0x2E, 0x3E, 0x74, 0x05]) .prefixConflict = true := by decide

theorem test_D26 :
    took (run pm32 [0x66, 0x66, 0x66, 0x66, 0x66, 0x66, 0x66, 0x66, 0x66, 0x66, 0x66, 0x66, 0x66, 0x66, 0x66, 0x90]) 13 (some 0x0) 0x2000 = true := by decide

theorem test_D31 :
    took (run pm32 [0x0F, 0x0B]) 6 none 0x2000 = true := by decide

theorem test_F1 :
    goes (run (image pm32 0x47#32) [0x9F]) (fun t => t.gpr.eax == 0x4700#32) = true := by decide

theorem test_F2 :
    goes (run { pm32 with gpr := { (pm32).gpr with eax := 0xFF00#32 } } [0x9E])
    (fun t => t.flags.cf && t.flags.pf && t.flags.af && t.flags.zf && t.flags.sf && !t.flags.of) = true := by decide

theorem test_F3 :
    goes (run (image pm32 0xED7#32) [0x9C])
    (fun t => peek t 0x7FFC 4 == 0xED7 && t.gpr.esp == 0x7FFC#32) = true := by decide

theorem test_F4 :
    goes (run { (at' pm32 0x7FFC [0xFF, 0xFF, 0xFF, 0xFF]) with gpr := { (pm32).gpr with esp := 0x7FFC#32 } } [0x9D])
    (fun t => t.flags.image == 0x247FD7#32 && t.gpr.esp == 0x8000#32) = true := by decide

theorem test_F5 :
    goes (run { (image rm16 0x36D7#32) with gpr := { (rm16).gpr with esp := 0x200#32 } } [0x9D])
    (fun t => t.flags.image == 0x2#32 && t.gpr.esp == 0x202#32) = true := by decide

theorem test_A4 :
    goes (run { (image pm32 0x3#32) with gpr := { (pm32).gpr with eax := 0x7F#32 } } [0x14, 0x00])
    (fun t => t.gpr.eax == 0x80#32 && !t.flags.cf && !t.flags.pf && t.flags.af && !t.flags.zf && t.flags.sf && t.flags.of) = true := by decide

theorem test_A6 :
    goes (run { pm32 with gpr := { (pm32).gpr with eax := 0x0#32 } } [0x83, 0xE8, 0x01])
    (fun t => t.gpr.eax == 0xFFFFFFFF#32 && t.flags.cf && t.flags.pf && t.flags.af && !t.flags.zf && t.flags.sf && !t.flags.of) = true := by decide

theorem test_A8 :
    goes (run { (image pm32 0x3#32) with gpr := { (pm32).gpr with eax := 0x5#32 } } [0x66, 0x19, 0xC0])
    (fun t => t.gpr.eax == 0xFFFF#32 && t.flags.cf && t.flags.pf && t.flags.af && !t.flags.zf && t.flags.sf && !t.flags.of) = true := by decide

theorem test_A9 :
    goes (run { (image pm32 0x3#32) with gpr := { (pm32).gpr with eax := 0x80#32 } } [0x1C, 0x00])
    (fun t => t.gpr.eax == 0x7F#32 && !t.flags.cf && !t.flags.pf && t.flags.af && !t.flags.zf && !t.flags.sf && t.flags.of) = true := by decide

theorem test_A10 :
    goes (run { pm32 with gpr := { (pm32).gpr with eax := 0x7F#32 } } [0x3C, 0x80])
    (fun t => t.gpr.eax == 0x7F#32 && t.flags.cf && t.flags.pf && !t.flags.af && !t.flags.zf && t.flags.sf && t.flags.of) = true := by decide

theorem test_A11 :
    goes (run { pm32 with gpr := { (pm32).gpr with eax := 0x7F#32 } } [0xFE, 0xC0])
    (fun t => t.gpr.eax == 0x80#32 && !t.flags.pf && t.flags.af && !t.flags.zf && t.flags.sf && t.flags.of && !t.flags.cf) = true := by decide

theorem test_A13 :
    goes (run { pm32 with gpr := { (pm32).gpr with eax := 0x80#32 } } [0xFE, 0xC8])
    (fun t => t.gpr.eax == 0x7F#32 && !t.flags.pf && t.flags.af && !t.flags.zf && !t.flags.sf && t.flags.of) = true := by decide

theorem test_A15 :
    goes (run { pm32 with gpr := { (pm32).gpr with eax := 0x80#32 } } [0xF6, 0xD8])
    (fun t => t.gpr.eax == 0x80#32 && t.flags.cf && !t.flags.pf && !t.flags.af && !t.flags.zf && t.flags.sf && t.flags.of) = true := by decide

theorem test_A17 :
    goes (run { pm32 with gpr := { (pm32).gpr with eax := 0x0#32 } } [0xF7, 0xD8])
    (fun t => t.gpr.eax == 0x0#32 && !t.flags.cf && t.flags.pf && !t.flags.af && t.flags.zf && !t.flags.sf && !t.flags.of) = true := by decide

theorem test_A18 :
    goes (run { pm32 with gpr := { (pm32).gpr with eax := 0xFF#32, ecx := 0xFF#32 } } [0xF6, 0xE1])
    (fun t => t.gpr.eax == 0xFE01#32 && t.flags.cf && t.flags.of) = true := by decide

theorem test_A19 :
    goes (run { pm32 with gpr := { (pm32).gpr with eax := 0xF#32, ecx := 0x11#32 } } [0xF6, 0xE1])
    (fun t => t.gpr.eax == 0xFF#32 && !t.flags.cf && !t.flags.of) = true := by decide

theorem test_A20 :
    goes (run { pm32 with gpr := { (pm32).gpr with eax := 0xFFFFFFFF#32, ecx := 0xFFFFFFFF#32 } } [0xF7, 0xE1])
    (fun t => t.gpr.eax == 0x1#32 && t.gpr.edx == 0xFFFFFFFE#32 && t.flags.cf && t.flags.of) = true := by decide

theorem test_A21 :
    goes (run { pm32 with gpr := { (pm32).gpr with eax := 0xFF#32, ecx := 0xFF#32 } } [0xF6, 0xE9])
    (fun t => t.gpr.eax == 0x1#32 && !t.flags.cf && !t.flags.of) = true := by decide

theorem test_A23 :
    goes (run { pm32 with gpr := { (pm32).gpr with eax := 0x7FFFFFFF#32, ecx := 0x2#32 } } [0x0F, 0xAF, 0xC1])
    (fun t => t.gpr.eax == 0xFFFFFFFE#32 && t.flags.cf && t.flags.of) = true := by decide

theorem test_A24 :
    goes (run { pm32 with gpr := { (pm32).gpr with ecx := 0xFFFFFFFF#32 } } [0x6B, 0xC1, 0x03])
    (fun t => t.gpr.eax == 0xFFFFFFFD#32 && !t.flags.cf && !t.flags.of) = true := by decide

theorem test_A26 :
    goes (run { pm32 with gpr := { (pm32).gpr with eax := 0x9A#32 } } [0x27])
    (fun t => t.gpr.eax == 0x0#32 && t.flags.cf && t.flags.af && t.flags.zf) = true := by decide

theorem test_A27 :
    took (run { pm32 with gpr := { (pm32).gpr with eax := 0x5#32 } } [0xD4, 0x00]) 0 none 0x2000 = true := by decide

theorem test_A28 :
    goes (run { pm32 with gpr := { (pm32).gpr with eax := 0x607#32 } } [0xD5, 0x00])
    (fun t => t.gpr.eax == 0x7#32) = true := by decide

theorem test_A29 :
    goes (run { pm32 with gpr := { (pm32).gpr with eax := 0x5#32, ecx := 0x7#32, edx := 0x9#32 } } [0x0F, 0xB1, 0xD1])
    (fun t => t.gpr.eax == 0x7#32 && t.gpr.ecx == 0x7#32 && !t.flags.zf && t.flags.cf && !t.flags.pf && t.flags.af && t.flags.sf && !t.flags.of) = true := by decide

theorem test_A30 :
    goes (run { pm32 with gpr := { (pm32).gpr with eax := 0x3#32 } } [0x0F, 0xC1, 0xC0])
    (fun t => t.gpr.eax == 0x6#32) = true := by decide

theorem test_L1 :
    goes (run { pm32 with gpr := { (pm32).gpr with eax := 0xF0F0#32 } } [0x66, 0x25, 0x0F, 0x0F])
    (fun t => t.gpr.eax == 0x0#32 && !t.flags.cf && !t.flags.of && !t.flags.af && t.flags.zf && !t.flags.sf && t.flags.pf) = true := by decide

theorem test_L2 :
    goes (run { pm32 with gpr := { (pm32).gpr with eax := 0x80#32 } } [0x0C, 0x01])
    (fun t => t.gpr.eax == 0x81#32 && !t.flags.cf && !t.flags.of && !t.flags.af && !t.flags.zf && t.flags.sf && t.flags.pf) = true := by decide

theorem test_L3 :
    goes (run { (image pm32 0x813#32) with gpr := { (pm32).gpr with eax := 0x1234#32 } } [0x31, 0xC0])
    (fun t => t.gpr.eax == 0x0#32 && !t.flags.cf && !t.flags.of && !t.flags.af && t.flags.zf && !t.flags.sf && t.flags.pf) = true := by decide

theorem test_L4 :
    goes (run { pm32 with gpr := { (pm32).gpr with eax := 0x80000000#32 } } [0x85, 0xC0])
    (fun t => t.gpr.eax == 0x80000000#32 && !t.flags.cf && !t.flags.of && !t.flags.af && !t.flags.zf && t.flags.sf && t.flags.pf) = true := by decide

theorem test_L5 :
    goes (run { (image pm32 0x8D7#32) with gpr := { (pm32).gpr with eax := 0x0#32 } } [0xF7, 0xD0])
    (fun t => t.gpr.eax == 0xFFFFFFFF#32 && t.flags.image == 0x8D7#32) = true := by decide

theorem test_L6 :
    goes (run { pm32 with gpr := { (pm32).gpr with eax := 0x80000000#32, ecx := 0x3F#32 } } [0x0F, 0xA3, 0xC8])
    (fun t => t.flags.cf && !t.flags.zf) = true := by decide

theorem test_L8 :
    goes (run { pm32 with gpr := { (pm32).gpr with ebx := 0x6000#32, ecx := 0x23#32 } } [0x0F, 0xAB, 0x0B])
    (fun t => peek t 0x6004 4 == 0x8 && !t.flags.cf) = true := by decide

theorem test_L9 :
    goes (run { (at' pm32 0x6000 [0x08]) with gpr := { (pm32).gpr with ebx := 0x6000#32 } } [0x0F, 0xBA, 0x23, 0x23])
    (fun t => t.flags.cf) = true := by decide

theorem test_L10 :
    goes (run { pm32 with gpr := { (pm32).gpr with eax := 0x8000#32 } } [0x66, 0x0F, 0xBA, 0xF8, 0x0F])
    (fun t => t.gpr.eax == 0x0#32 && t.flags.cf) = true := by decide

theorem test_L11 :
    goes (run { pm32 with gpr := { (pm32).gpr with ecx := 0x80000000#32 } } [0x0F, 0xBC, 0xC1])
    (fun t => t.gpr.eax == 0x1F#32 && !t.flags.zf) = true := by decide

theorem test_L12 :
    goes (run { pm32 with gpr := { (pm32).gpr with ecx := 0x1#32 } } [0x0F, 0xBD, 0xC1])
    (fun t => t.gpr.eax == 0x0#32 && !t.flags.zf) = true := by decide

theorem test_L14 :
    goes (run { (image (at' pm32 0x300 [0x05]) 0x42#32) with gpr := { (pm32).gpr with ebx := 0x300#32 } } [0x0F, 0x95, 0x03])
    (fun t => peek t 0x300 1 == 0x0) = true := by decide

theorem test_S1 :
    goes (run { pm32 with gpr := { (pm32).gpr with eax := 0x81#32 } } [0xD0, 0xC0])
    (fun t => t.gpr.eax == 0x3#32 && t.flags.cf && t.flags.of) = true := by decide

theorem test_S3 :
    goes (run { pm32 with gpr := { (pm32).gpr with eax := 0x12345678#32 } } [0xC1, 0xC8, 0x08])
    (fun t => t.gpr.eax == 0x78123456#32 && !t.flags.cf) = true := by decide

theorem test_S6 :
    goes (run { pm32 with gpr := { (pm32).gpr with eax := 0x80#32 } } [0xD0, 0xD0])
    (fun t => t.gpr.eax == 0x0#32 && t.flags.cf && t.flags.of) = true := by decide

theorem test_S8 :
    goes (run { (image pm32 0x3#32) with gpr := { (pm32).gpr with eax := 0x1#32 } } [0xC0, 0xD0, 0x02])
    (fun t => t.gpr.eax == 0x6#32 && !t.flags.cf) = true := by decide

theorem test_S10 :
    goes (run { (image pm32 0x3#32) with gpr := { (pm32).gpr with ebx := 0x1#32 } } [0xD0, 0xDB])
    (fun t => t.gpr.ebx == 0x80#32 && t.flags.cf && t.flags.of) = true := by decide

theorem test_S12 :
    goes (run { (image pm32 0x3#32) with gpr := { (pm32).gpr with eax := 0xF#32 } } [0xC0, 0xD8, 0x04])
    (fun t => t.gpr.eax == 0xF0#32 && t.flags.cf) = true := by decide

theorem test_S13 :
    goes (run { pm32 with gpr := { (pm32).gpr with eax := 0x80000001#32 } } [0xD1, 0xE0])
    (fun t => t.gpr.eax == 0x2#32 && t.flags.cf && t.flags.of && !t.flags.zf && !t.flags.sf && !t.flags.pf) = true := by decide

theorem test_S17 :
    goes (run { pm32 with gpr := { (pm32).gpr with eax := 0x81#32 } } [0xC0, 0xE0, 0x08])
    (fun t => t.gpr.eax == 0x0#32 && t.flags.zf && !t.flags.sf && t.flags.pf) = true := by decide

theorem test_S18 :
    goes (run { pm32 with gpr := { (pm32).gpr with eax := 0x81#32 } } [0xD0, 0xE8])
    (fun t => t.gpr.eax == 0x40#32 && t.flags.cf && t.flags.of && !t.flags.sf && !t.flags.zf && !t.flags.pf) = true := by decide

theorem test_S20 :
    goes (run { pm32 with gpr := { (pm32).gpr with eax := 0x80#32 } } [0xD0, 0xF8])
    (fun t => t.gpr.eax == 0xC0#32 && !t.flags.cf && !t.flags.of && t.flags.sf && t.flags.pf) = true := by decide

theorem test_S21 :
    goes (run { pm32 with gpr := { (pm32).gpr with eax := 0x8001#32 } } [0x66, 0xC1, 0xF8, 0x10])
    (fun t => t.gpr.eax == 0xFFFF#32 && t.flags.cf && t.flags.sf && t.flags.pf) = true := by decide

theorem test_S24 :
    goes (run { pm32 with gpr := { (pm32).gpr with eax := 0x11223344#32, edx := 0xAABBCCDD#32 } } [0x0F, 0xA4, 0xD0, 0x08])
    (fun t => t.gpr.eax == 0x223344AA#32 && t.flags.cf) = true := by decide

theorem test_S25 :
    goes (run { pm32 with gpr := { (pm32).gpr with eax := 0x11223344#32, edx := 0xAABBCCDD#32 } } [0x0F, 0xAC, 0xD0, 0x08])
    (fun t => t.gpr.eax == 0xDD112233#32 && !t.flags.cf) = true := by decide

theorem test_V1 :
    goes (run { rm16 with gpr := { (rm16).gpr with eax := 0x1234#32 } } [0x50])
    (fun t => peek t 0xFFFE 2 == 0x1234 && t.gpr.esp == 0xFFFE#32) = true := by decide

theorem test_V2 :
    goes (run { (at' rm16 0xFFFE [0x34, 0x12]) with gpr := { (rm16).gpr with esp := 0xFFFE#32 } } [0x58])
    (fun t => t.gpr.eax == 0x1234#32 && t.gpr.esp == 0x0#32) = true := by decide

theorem test_V3 :
    goes (run pm32 [0x54]) (fun t => peek t 0x7FFC 4 == 0x8000 && t.gpr.esp == 0x7FFC#32) = true := by decide

theorem test_V4 :
    goes (run { (at' pm32 0x7FFC [0x00, 0x50, 0x00, 0x00]) with gpr := { (pm32).gpr with esp := 0x7FFC#32 } } [0x5C])
    (fun t => t.gpr.esp == 0x5000#32) = true := by decide

theorem test_V6 :
    goes (run pm32 [0x68, 0x34, 0x12, 0x00, 0x00])
    (fun t => peek t 0x7FFC 4 == 0x1234 && t.gpr.esp == 0x7FFC#32) = true := by decide

theorem test_V8 :
    goes (run { rm16 with gpr := { (rm16).gpr with esp := 0x100#32, eax := 0x1#32, ecx := 0x2#32, edx := 0x3#32, ebx := 0x4#32, ebp := 0x5#32, esi := 0x6#32, edi := 0x7#32 } } [0x60])
    (fun t => peek t 0xF0 16 == 0x10002000300040100000500060007 && t.gpr.esp == 0xF0#32) = true := by decide

theorem test_V9 :
    goes (run { (at' rm16 0xF0 [0x07, 0x00, 0x06, 0x00, 0x05, 0x00, 0x99, 0x99, 0x04, 0x00, 0x03, 0x00, 0x02, 0x00, 0x01, 0x00]) with gpr := { (rm16).gpr with esp := 0xF0#32 } } [0x61])
    (fun t => t.gpr.esp == 0x100#32 && t.gpr.eax == 0x1#32 && t.gpr.ecx == 0x2#32 && t.gpr.edx == 0x3#32 && t.gpr.ebx == 0x4#32 && t.gpr.ebp == 0x5#32 && t.gpr.esi == 0x6#32 && t.gpr.edi == 0x7#32) = true := by decide

theorem test_V10 :
    goes (run { pm32 with gpr := { (pm32).gpr with eax := 0x1#32, ebx := 0x2#32 } } [0x93])
    (fun t => t.gpr.eax == 0x2#32 && t.gpr.ebx == 0x1#32) = true := by decide

theorem test_V11 :
    goes (run { pm32 with gpr := { (pm32).gpr with eax := 0x7#32, ebx := 0x300#32 } } [0x0F, 0x44, 0x03])
    (fun t => t.gpr.eax == 0x7#32) = true := by decide

theorem test_V12 :
    goes (run { rm16 with gpr := { (rm16).gpr with ebx := 0xFFF0#32, esi := 0x20#32 } } [0x8D, 0x40, 0x10])
    (fun t => t.gpr.eax == 0x20#32) = true := by decide

theorem test_V14 :
    goes (run { rm16 with gpr := { (rm16).gpr with eax := 0x80#32 } } [0x98])
    (fun t => t.gpr.eax == 0xFF80#32) = true := by decide

theorem test_V15 :
    goes (run { rm16 with gpr := { (rm16).gpr with eax := 0x8000#32 } } [0x99])
    (fun t => t.gpr.edx == 0xFFFF#32) = true := by decide

theorem test_V16 :
    goes (run { (at' rm16 0x1 [0x77]) with gpr := { (rm16).gpr with ebx := 0xFFFF#32, eax := 0x2#32 } } [0xD7])
    (fun t => t.gpr.eax == 0x77#32) = true := by decide

theorem test_V17 :
    goes (run { pm32 with gpr := { (pm32).gpr with ecx := 0xFF00AA#32 } } [0x0F, 0xC9])
    (fun t => t.gpr.ecx == 0xAA00FF00#32) = true := by decide

theorem test_V19 :
    took (run { pm32 with gpr := { (pm32).gpr with eax := 0x13#32 } } [0x8E, 0xD8]) 13 (some 0x10) 0x2000 = true := by decide

theorem test_V21 :
    goes (run { pm32 with gpr := { (pm32).gpr with eax := 0x3#32 } } [0x8E, 0xD8])
    (fun t => !t.ds.valid && t.ds.selector == 3#16) = true := by decide

theorem test_V22 :
    goes (run { pm32 with gpr := { (pm32).gpr with ebp := 0x2222#32 } } [0xC8, 0x08, 0x00, 0x00])
    (fun t => peek t 0x7FFC 4 == 0x2222 && t.gpr.ebp == 0x7FFC#32 && t.gpr.esp == 0x7FF4#32) = true := by decide

theorem test_V22b :
    goes (run { (at' pm32 0x7FFC [0x00, 0x20, 0x00, 0x00]) with gpr := { (pm32).gpr with ebp := 0x7FFC#32, esp := 0x7FF4#32 } } [0xC9])
    (fun t => t.gpr.ebp == 0x2000#32 && t.gpr.esp == 0x8000#32) = true := by decide

theorem test_C1 :
    goes (run pm32 [0xEB, 0xFE]) (fun t => t.eip == 0x2000#32 && t.classOut == some .taken) = true := by decide

theorem test_C2 :
    goes (run { rm16 with eip := 0xFFF0#32 } [0xE9, 0x20, 0x00])
    (fun t => t.eip == 0x13#32 && t.classOut == some .taken) = true := by decide

theorem test_C3 :
    goes (run (image pm32 0x42#32) [0x74, 0x05])
    (fun t => t.eip == 0x2007#32 && t.classOut == some .taken) = true := by decide

theorem test_C8 :
    goes (run pm32 [0xE3, 0x04]) (fun t => t.eip == 0x2006#32 && t.classOut == some .taken) = true := by decide

theorem test_C10 :
    goes (run pm32 [0xE2, 0xFE])
    (fun t => t.gpr.ecx == 0xFFFFFFFF#32 && t.eip == 0x2000#32 && t.classOut == some .taken) = true := by decide

theorem test_C11 :
    goes (run { pm32 with gpr := { (pm32).gpr with ecx := 0x1#32 } } [0xE2, 0xFE])
    (fun t => t.gpr.ecx == 0x0#32 && t.eip == 0x2002#32 && t.classOut == some .notTaken) = true := by decide

theorem test_C12 :
    goes (run { pm32 with gpr := { (pm32).gpr with ecx := 0x5#32 } } [0xE1, 0xFE])
    (fun t => t.gpr.ecx == 0x4#32 && t.eip == 0x2002#32 && t.classOut == some .notTaken) = true := by decide

theorem test_C13 :
    goes (run { pm32 with gpr := { (pm32).gpr with ecx := 0x5#32 } } [0xE0, 0xFE])
    (fun t => t.gpr.ecx == 0x4#32 && t.eip == 0x2000#32 && t.classOut == some .taken) = true := by decide

theorem test_C14 :
    goes (run pm32 [0xE8, 0x10, 0x00, 0x00, 0x00])
    (fun t => peek t 0x7FFC 4 == 0x2005 && t.gpr.esp == 0x7FFC#32 && t.eip == 0x2015#32 && t.classOut == some .call) = true := by decide

theorem test_C15 :
    goes (run { (at' pm32 0x7FFC [0x05, 0x10, 0x00, 0x00]) with gpr := { (pm32).gpr with esp := 0x7FFC#32 } } [0xC3])
    (fun t => t.gpr.esp == 0x8000#32 && t.eip == 0x1005#32 && t.classOut == some .ret) = true := by decide

theorem test_C16 :
    goes (run { (at' pm32 0x7FFC [0x05, 0x10, 0x00, 0x00]) with gpr := { (pm32).gpr with esp := 0x7FFC#32 } } [0xC2, 0x08, 0x00])
    (fun t => t.gpr.esp == 0x8008#32 && t.eip == 0x1005#32 && t.classOut == some .ret) = true := by decide

theorem test_C17 :
    goes (run { pm32 with gpr := { (pm32).gpr with eax := 0x3000#32 } } [0xFF, 0xD0])
    (fun t => peek t 0x7FFC 4 == 0x2002 && t.eip == 0x3000#32 && t.classOut == some .call) = true := by decide

theorem test_C19 :
    goes (run { rm16 with gpr := { (rm16).gpr with esp := 0x200#32 } } [0x9A, 0x10, 0x00, 0x00, 0x10])
    (fun t => peek t 0x1FE 2 == 0x0 && peek t 0x1FC 2 == 0x105 && t.gpr.esp == 0x1FC#32 && t.eip == 0x10#32 && t.classOut == some .call && t.cs.selector == 0x1000#16 && t.cs.base == 0x10000#32) = true := by decide

theorem test_C20 :
    goes (run { (at' rm16 0x1FC [0x05, 0x01, 0x00, 0x00]) with gpr := { (rm16).gpr with esp := 0x1FC#32 } } [0xCB])
    (fun t => t.gpr.esp == 0x200#32 && t.eip == 0x105#32 && t.classOut == some .ret) = true := by decide

theorem test_C21 :
    goes (run pm32 [0x9A, 0x00, 0x20, 0x00, 0x00, 0x08, 0x00])
    (fun t => t.gpr.esp == 0x7FF8#32 && t.eip == 0x2000#32 && t.classOut == some .call && t.cs.selector == 8#16) = true := by decide

theorem test_C22 :
    goes (run { (at' pm32 0x7FF8 [0x07, 0x10, 0x00, 0x00, 0x08, 0x00, 0x55, 0x55]) with gpr := { (pm32).gpr with esp := 0x7FF8#32 } } [0xCB])
    (fun t => t.gpr.esp == 0x8000#32 && t.eip == 0x1007#32 && t.classOut == some .ret) = true := by decide

theorem test_C23 :
    took (run pm32 [0xEA, 0x00, 0x00, 0x00, 0x00, 0x0B, 0x00]) 13 (some 0x8) 0x2000 = true := by decide

theorem test_C26 :
    took (run pm32 [0xEA, 0x00, 0x00, 0x00, 0x00, 0x58, 0x00]) 11 (some 0x58) 0x2000 = true := by decide

theorem test_C28 :
    goes (run pm32 [0xCE]) (fun t => t.eip == 0x2001#32 && t.classOut == some .none) = true := by decide

theorem test_C31 :
    took (run pm32u [0xCD, 0x0D]) 13 (some 0x6A) 0x2000 = true := by decide

theorem test_C32 :
    goes (run { (image (at' rm16 0xC [0x00, 0x04, 0x00, 0x00]) 0x202#32) with gpr := { (rm16).gpr with esp := 0x100#32 }, eip := 0x50#32 } [0xCC])
    (fun t => peek t 0xFE 2 == 0x202 && peek t 0xFC 2 == 0x0 && peek t 0xFA 2 == 0x51 && t.eip == 0x400#32 && !t.flags.ifl && !t.flags.tf && t.classOut == some .fault) = true := by decide

theorem test_T1s :
    goes (run { (at' pm32 0x300 [0x5A]) with gpr := { (pm32).gpr with esi := 0x300#32, edi := 0x400#32 } } [0xA4])
    (fun t => peek t 0x400 1 == 0x5A && t.gpr.esi == 0x301#32 && t.gpr.edi == 0x401#32 && t.classOut == some .none) = true := by decide

theorem test_T2s :
    goes (run { (image (at' pm32 0x300 [0x01, 0x02, 0x03, 0x04]) 0x402#32) with gpr := { (pm32).gpr with esi := 0x300#32, edi := 0x400#32 } } [0xA5])
    (fun t => peek t 0x400 4 == 0x4030201 && t.gpr.esi == 0x2FC#32 && t.gpr.edi == 0x3FC#32) = true := by decide

theorem test_T4s :
    goes (run { pm32 with gpr := { (pm32).gpr with ecx := 0x3#32, eax := 0xEE#32, edi := 0x300#32 } } [0xF3, 0xAA])
    (fun t => peek t 0x300 1 == 0xEE && t.gpr.ecx == 0x2#32 && t.classOut == some .taken && t.eip == 0x2000#32) = true := by decide

theorem test_T5s :
    goes (run { (at' (at' pm32 0x300 [0x43]) 0x400 [0x58]) with gpr := { (pm32).gpr with ecx := 0x2#32, esi := 0x300#32, edi := 0x400#32 } } [0xF3, 0xA6])
    (fun t => t.gpr.ecx == 0x1#32 && !t.flags.zf && t.flags.cf && t.flags.sf && t.flags.af && t.flags.pf && !t.flags.of && t.classOut == some .notTaken && t.eip == 0x2002#32) = true := by decide

theorem test_T6s :
    goes (run { (at' pm32 0x400 [0x68]) with gpr := { (pm32).gpr with ecx := 0xFFFFFFFF#32, edi := 0x400#32 } } [0xF2, 0xAE])
    (fun t => t.gpr.ecx == 0xFFFFFFFE#32 && t.gpr.edi == 0x401#32 && !t.flags.zf && t.classOut == some .taken && t.eip == 0x2000#32) = true := by decide

theorem test_T8s :
    refuses (run { rm16 with gpr := { (rm16).gpr with esi := 0x10005#32 } } [0x67, 0xAC]) .realModeLimit = true := by decide

theorem test_I1 :
    goes (run { rm16 with gpr := { (rm16).gpr with eax := 0x55#32 } } [0xE6, 0x80])
    (fun t => t.ioWrites == [⟨0x80#16, 1, 0x55#32⟩]) = true := by decide

theorem test_I3 :
    refuses (run { pm32 with gpr := { (pm32).gpr with edx := 0xFFFE#32 } } [0xED]) .ioWrap = true := by decide

theorem test_I4 :
    took (run { (at' (at' pm32u 0x5066 [0x68, 0x00]) 0x5078 [0x01]) with gpr := { (pm32u).gpr with edx := 0x80#32 } } [0xEE]) 13 (some 0x0) 0x2000 = true := by decide

theorem test_I5 :
    goes (run { (at' (at' pm32u 0x5066 [0x68, 0x00]) 0x5078 [0xFE]) with gpr := { (pm32u).gpr with edx := 0x80#32, eax := 0x7#32 } } [0xEE])
    (fun t => t.ioWrites == [⟨0x80#16, 1, 7#32⟩]) = true := by decide

theorem test_Y1a :
    goes (run pm32 [0xF9]) (fun t => t.flags.cf) = true := by decide

theorem test_Y1b :
    goes (run (image pm32 0x3#32) [0xF5]) (fun t => !t.flags.cf) = true := by decide

theorem test_Y2 :
    took (run pm32u [0xFA]) 13 (some 0x0) 0x2000 = true := by decide

theorem test_Y3 :
    goes (run (image pm32u 0x3202#32) [0xFA]) (fun t => !t.flags.ifl) = true := by decide

theorem test_Y5 :
    goes (run pm32 [0xFB]) (fun t => t.flags.ifl && t.intShadow) = true := by decide

theorem test_Y6 :
    goes (run (at' rm16 0x900 [0x17, 0x00, 0x00, 0x08, 0x00, 0xFF]) [0x0F, 0x01, 0x16, 0x00, 0x09])
    (fun t => t.gdtr == ⟨0x800#32, 0x17#16⟩) = true := by decide

theorem test_Y8 :
    took (run { pm32 with gpr := { (pm32).gpr with eax := 0x80000010#32 } } [0x0F, 0x22, 0xC0]) 13 (some 0x0) 0x2000 = true := by decide

theorem test_Y10 :
    refuses (run { pm32 with gpr := { (pm32).gpr with eax := 0x51#32 } } [0x0F, 0x22, 0xC0]) .cr0Reserved = true := by decide

theorem test_Y14 :
    goes (run pm32 [0x0F, 0x01, 0xF0]) (fun t => t.cr0 == 0x11#32) = true := by decide

theorem test_Y15 :
    took (run pm32u [0x0F, 0x20, 0xC0]) 13 (some 0x0) 0x2000 = true := by decide

theorem test_Y16 :
    goes (run pm32u [0x66, 0x0F, 0x01, 0xE0]) (fun t => t.gpr.eax == 0x11#32) = true := by decide

theorem test_Y20 :
    took (run { pm32 with cr0 := 0x15#32 } [0xD8, 0xC0]) 7 none 0x2000 = true := by decide

theorem test_Y22 :
    goes (run { pm32 with cr0 := 0x19#32 } [0x9B])
    (fun t => t.classOut == some .none && t.eip == 0x2001#32) = true := by decide

theorem test_Y23 :
    goes (run { pm32u with gpr := { (pm32u).gpr with eax := 0x23#32 } } [0x0F, 0x00, 0xE0])
    (fun t => t.flags.zf) = true := by decide

theorem test_Y24 :
    goes (run { (image pm32 0x42#32) with gpr := { (pm32).gpr with eax := 0x9#32 } } [0x0F, 0x02, 0xC3])
    (fun t => t.gpr.eax == 0x9#32 && !t.flags.zf) = true := by decide

theorem test_Y25 :
    goes (run { (image pm32 0x42#32) with gpr := { (pm32).gpr with eax := 0xB#32, ebx := 0x3#32 } } [0x63, 0xD8])
    (fun t => t.gpr.eax == 0xB#32 && !t.flags.zf) = true := by decide

theorem test_Y26 :
    refuses (run pm32 [0x0F, 0x08]) .invdDataLoss = true := by decide

theorem test_X1 :
    goes (run { (image (at' rm16 0x0 [0x00, 0x04, 0x00, 0x00]) 0x202#32) with gpr := { (rm16).gpr with esp := 0x1000#32 } } [0xF6, 0xF1])
    (fun t => peek t 0xFFE 2 == 0x202 && peek t 0xFFC 2 == 0x0 && peek t 0xFFA 2 == 0x100 && t.gpr.esp == 0xFFA#32 && t.flags.image == 0x2#32 && t.eip == 0x400#32 && t.classOut == some .fault) = true := by decide

theorem test_X2 :
    goes (run { (image pm32 0x202#32) with gpr := { (pm32).gpr with eax := 0x13#32 } } [0x8E, 0xD8])
    (fun t => peek t 0x7FFE 2 == 0x202 && peek t 0x7FFC 2 == 0x8 && peek t 0x7FFA 2 == 0x2000 && peek t 0x7FF8 2 == 0x10 && t.gpr.esp == 0x7FF8#32 && t.eip == 0x30D0#32 && !t.flags.ifl && t.cs.selector == 8#16 && t.ds == pm32.ds) = true := by decide

theorem test_X3 :
    goes (run { (image (at' pm32 0x1040 [0x00, 0x40, 0x08, 0x00, 0x00, 0x8E, 0x00, 0x00]) 0x202#32) with idtr := ⟨0x1000#32, 0x47#16⟩, ds := { flat 0#16 0x3#4 0#2 with valid := false } } [0xA1, 0x00, 0x00, 0x00, 0x00])
    (fun t => t.eip == 0x4000#32 && t.gpr.esp == 0x7FF0#32) = true := by decide

theorem test_X4 :
    goes (run { (image pm32 0x202#32) with idtr := ⟨0x1000#32, 0x3F#16⟩, ds := { flat 0#16 0x3#4 0#2 with valid := false } } [0xA1, 0x00, 0x00, 0x00, 0x00])
    (fun t => t.shutdown && t.gpr.esp == 0x8000#32) = true := by decide

theorem test_X5 :
    goes (run { (image pm32 0x202#32) with idtr := ⟨0x1000#32, 0x1FF#16⟩, inputs := [⟨false, false, some 0x40#8⟩] } [0x90])
    (fun t => peek t 0x7FF8 2 == 0x203 && t.eip == 0x30D0#32) = true := by decide

theorem test_X6a :
    goes (run (image pm32 0x302#32) [0x90]) (fun t => t.pendingTrapDB && t.eip == 0x2001#32) = true := by decide

theorem test_X6b :
    goes (run { (image pm32 0x302#32) with eip := 0x2001#32, pendingTrapDB := true } [0x90])
    (fun t => t.eip == 0x3010#32 && peek t 0x7FFA 2 == 0x2001 && peek t 0x7FFE 2 == 0x302 && !t.flags.tf && !t.flags.ifl && t.dr6.getLsbD 14 && !t.pendingTrapDB) = true := by decide

theorem test_X8 :
    goes (run { (at' pm32 0x1010 [0x00, 0x40, 0x08, 0x00, 0x00, 0x86, 0x00, 0x00]) with inputs := [⟨false, true, none⟩] } [0x90])
    (fun t => t.eip == 0x4000#32 && peek t 0x7FFA 2 == 0x2000 && t.nmiBlocked) = true := by decide

theorem test_X8b :
    goes (run { (at' pm32 0x7FF4 [0x05, 0x10, 0x00, 0x00, 0x08, 0x00, 0x00, 0x00, 0x02, 0x02, 0x00, 0x00]) with gpr := { (pm32).gpr with esp := 0x7FF4#32 }, nmiBlocked := true } [0xCF])
    (fun t => t.eip == 0x1005#32 && t.gpr.esp == 0x8000#32 && t.flags.image == 0x202#32 && !t.nmiBlocked && t.classOut == some .ret) = true := by decide

theorem test_X9 :
    goes (run { (image pm32 0x202#32) with gpr := { (pm32).gpr with eax := 0x10#32 } } [0x8E, 0xD0])
    (fun t => t.intShadow && t.ss.selector == 0x10#16) = true := by decide

theorem test_X9b :
    goes (run { (image pm32 0x202#32) with gpr := { (pm32).gpr with ebx := 0x9000#32 }, intShadow := true, inputs := [⟨false, true, some 0x40#8⟩] } [0x89, 0xDC])
    (fun t => t.gpr.esp == 0x9000#32 && !t.intShadow) = true := by decide

theorem test_X10 :
    goes (run { (image (at' pm32u 0x1108 [0x00, 0x40, 0x08, 0x00, 0x00, 0xEE, 0x00, 0x00]) 0x202#32) with gpr := { (pm32u).gpr with esp := 0x7000#32 }, cs := flat 0x1B#16 0xB#4 3#2 } [0xCD, 0x21])
    (fun t => t.gpr.esp == 0x8FEC#32 && t.eip == 0x4000#32 && !t.flags.ifl && t.cpl == 0#2 && t.ss.selector == 0x10#16 && t.ds.selector == 0x23#16) = true := by decide

theorem test_R2v :
    goes (run State.reset [0xEA, 0x5B, 0xE0, 0x00, 0xF0])
    (fun t => t.eip == 0xE05B#32 && t.classOut == some .unknownTarget && t.cs.selector == 0xF000#16 && t.cs.base == 0xF0000#32) = true := by decide

theorem test_H1vb :
    refuses (run { rm16 with eip := 0x105#32, smcDirty := [0x105] } [0x40]) .smcHazard = true := by decide

theorem test_lldt :
    goes (run { pm32 with gpr := { (pm32).gpr with eax := 0x28#32 } } [0x0F, 0x00, 0xD0])
    (fun t => t.ldtr == ⟨0x28#16, 0x1000#32, 0xFFFF#32, 0x2#4, true, true⟩) = true := by decide

theorem test_ltr :
    goes (run { pm32 with gpr := { (pm32).gpr with eax := 0x30#32 } } [0x0F, 0x00, 0xD8])
    (fun t => peek t 0x835 1 == 0x8B && t.tr == ⟨0x30#16, 0x5000#32, 0x87#32, 0xB#4, true, true⟩) = true := by decide

theorem test_sgdt :
    goes (run { pm32 with gpr := { (pm32).gpr with ebx := 0x300#32 } } [0x0F, 0x01, 0x03])
    (fun t => peek t 0x300 2 == 0x67 && peek t 0x302 4 == 0x800) = true := by decide

theorem test_lsl :
    goes (run { pm32 with gpr := { (pm32).gpr with ebx := 0x30#32 } } [0x0F, 0x03, 0xC3])
    (fun t => t.gpr.eax == 0x87#32 && t.flags.zf) = true := by decide

theorem test_dr7 :
    goes (run { pm32 with gpr := { (pm32).gpr with eax := 0x100#32 } } [0x0F, 0x23, 0xF8])
    (fun t => t.dr7 == 0x500#32) = true := by decide

theorem test_les :
    goes (run { (at' rm16 0x300 [0x34, 0x12, 0x00, 0xB8]) with gpr := { (rm16).gpr with ebx := 0x300#32 } } [0xC4, 0x07])
    (fun t => t.gpr.eax == 0x1234#32 && t.es.base == 0xB8000#32) = true := by decide

theorem test_cmpxchg8b :
    goes (run { (at' pm32 0x300 [0x01, 0x00, 0x00, 0x00, 0x02, 0x00, 0x00, 0x00]) with gpr := { (pm32).gpr with ebx := 0x300#32, eax := 0x1#32, edx := 0x2#32, ecx := 0x9#32 } } [0x0F, 0xC7, 0x0B])
    (fun t => peek t 0x300 8 == 0x900000300 && t.flags.zf) = true := by decide

theorem test_aaa :
    goes (run { pm32 with gpr := { (pm32).gpr with eax := 0xB#32 } } [0x37])
    (fun t => t.gpr.eax == 0x101#32 && t.flags.cf && t.flags.af) = true := by decide

theorem test_invlpg :
    goes (run { pm32 with gpr := { (pm32).gpr with ebx := 0x300#32 } } [0x0F, 0x01, 0x3B])
    (fun t => t.pagingSignals == [.invlpg 0x300#32]) = true := by decide

theorem test_realNt :
    goes (run { (image (at' rm16 0xC [0x00, 0x04, 0x00, 0x00]) 0x4302#32) with gpr := { (rm16).gpr with esp := 0x1000#32 } } [0xCC])
    (fun t => t.eip == 0x400#32 && peek t 0xFFE 2 == 0x4302 && !t.flags.nt && !t.flags.tf && !t.flags.ifl) = true := by decide

theorem test_postponeSet :
    goes (run { (image rm16 0x102#32) with gpr := { (rm16).gpr with esp := 0x1000#32 } } [0x17])
    (fun t => t.trapPostponed && !t.pendingTrapDB && t.intShadow) = true := by decide

theorem test_postponeInto :
    goes (run { (image (at' rm16 0x10 [0x00, 0x04, 0x00, 0x00]) 0x902#32) with gpr := { (rm16).gpr with esp := 0x1000#32 }, trapPostponed := true } [0xCE])
    (fun t => t.eip == 0x400#32 && t.pendingTrapDB && !t.trapPostponed && !t.flags.tf) = true := by decide

theorem test_popEspBase :
    goes (run { (at' rm16 0x200 [0x01, 0x02, 0x03, 0x04]) with gpr := { (rm16).gpr with esp := 0xABCD0200#32 } } [0x67, 0x66, 0x8F, 0x04, 0x24])
    (fun t => peek t 0x204 4 == 0x4030201 && t.gpr.esp == 0xABCD0204#32) = true := by decide

theorem test_popSsWidth :
    goes (run { (at' (at' pm32 0x1FFFC [0x40]) 0x840 [0xFF, 0xFF, 0x00, 0x00, 0x00, 0x93, 0x00, 0x00]) with gpr := { (pm32).gpr with esp := 0x1FFFC#32 } } [0x17])
    (fun t => t.gpr.esp == 0x10000#32 && !t.ss.db && t.intShadow) = true := by decide

theorem test_cr0Signal :
    goes (run { pm32 with gpr := { (pm32).gpr with eax := 0x11#32 } } [0x0F, 0x22, 0xC0])
    (fun t => t.pagingSignals == [.pgWrite false]) = true := by decide

/-! ## Witnesses: concrete states and operands that meet the hypotheses of each statement -/

/-- A port that holds some bytes. -/
def stopPort (bs : List Byte) : Port Stop := fun k => .ok (bs.getD k 0)

/-- The descriptors of the test GDT. -/
def dCode0 : Desc := ⟨0x00CF9B000000FFFF#64⟩
def dData0 : Desc := ⟨0x00CF93000000FFFF#64⟩
def dCode3 : Desc := ⟨0x00CFFB000000FFFF#64⟩
def dData3 : Desc := ⟨0x00CFF3000000FFFF#64⟩
def dConform : Desc := ⟨0x00CF9F000000FFFF#64⟩
def dAbsentData : Desc := ⟨0x00CF13000000FFFF#64⟩
def dAbsentCode : Desc := ⟨0x00CF1B000000FFFF#64⟩
def dGate16 : Desc := ⟨0x0000E40100084000#64⟩
def dGateConform : Desc := ⟨0x0000EC0000484000#64⟩

/-- EBX at 0x300 and DS null, so that [EBX] faults. -/
def pmNull : State := { pm32 with ds := { pm32.ds with valid := false } }

/-- A memory operand [EBX]. -/
def ebxMem : Rm := .mem (.a32 3#3 .none)

theorem witness_DecodeEncode :
    (Instr.addEvIbs (b32 3) (.reg 0) 1).wf ⟨true, true, false⟩ = true ∧
    (Instr.movGvEv ⟨.s16, .s16, some .cs, .none, false, 5⟩ 7 (.mem (.a16 6 (.d16 0xFFFF)))).wf ⟨false, false, false⟩ = true ∧
    (Instr.nop (b32 1)).wf ⟨true, true, true⟩ = true := by decide

theorem witness_DecodeSound :
    decode ⟨true, true, false⟩ (stopPort (List.replicate 14 0x66 ++ [0x90]))
      = .ok (.nop ⟨.s16, .s32, none, .none, false, 15⟩) ∧
    decode ⟨true, true, false⟩ (stopPort [0x90]) = .ok (.nop (b32 1)) := ⟨rfl, rfl⟩

theorem witness_IllegalEncodings :
    stopPort [0xD6] 0 = .ok 0xD6 ∧ stopPort [0xF1] 0 = .ok 0xF1 ∧
    (stopPort [0x0F, 0x04] 1 = .ok 0x04 ∧ stopPort [0x0F, 0xFF] 1 = .ok 0xFF) ∧
    (stopPort [0x8F, 0xFF] 1 = .ok 0xFF ∧ (0xFF#8).extractLsb' 3 3 ∈ ([1, 2, 3, 4, 5, 6, 7] : List (BitVec 3))) ∧
    (stopPort [0x0F, 0xC7, 0x3F] 2 = .ok 0x3F ∧ (0x3F#8).extractLsb' 3 3 ∈ ([0, 2, 3, 4, 5, 6, 7] : List (BitVec 3))) ∧
    (stopPort [0x8D, 0xFF] 1 = .ok 0xFF ∧ (0xFF#8).extractLsb' 6 2 = 3#2) ∧
    (stopPort [0xFF, 0xE8] 1 = .ok 0xE8 ∧ (0xE8#8).extractLsb' 3 3 ∈ ([3, 5] : List (BitVec 3))) ∧
    (stopPort [0x8E, 0xC8] 1 = .ok 0xC8 ∧ (0xC8#8).extractLsb' 3 3 ∈ ([1, 6, 7] : List (BitVec 3))) ∧
    (stopPort [0x0F, 0x23, 0xE0] 2 = .ok 0xE0 ∧ (⟨true, true, true⟩ : DecodeMode).de = true ∧
      (0xE0#8).extractLsb' 3 3 ∈ ([4, 5] : List (BitVec 3))) ∧
    (⟨false, false, false⟩ : DecodeMode).pe = false ∧
    (let s := at' rm16 0x100 [0xD6]; decode s.decodeMode s.fetchByte = .error .ud) ∧
    (let s := at' rm16 0x100 (List.replicate 15 0x66); (List.range 15).map s.fetchByte = List.replicate 15 (.ok 0x66)) ∧
    decode ⟨false, false, false⟩ (stopPort [0xF4]) = .ok (.hlt (b16 1)) := by
  exact ⟨rfl, rfl, ⟨rfl, rfl⟩, ⟨rfl, by decide⟩, ⟨rfl, by decide⟩, ⟨rfl, by decide⟩, ⟨rfl, by decide⟩, ⟨rfl, by decide⟩,
    ⟨rfl, rfl, by decide⟩, rfl, rfl, rfl, rfl⟩

/-- The length clause of IllegalEncodings: that list of fetches is its hypothesis. -/
theorem witness_lengthLimit (s : State) (h : (List.range 15).map s.fetchByte = List.replicate 15 (.ok 0x66)) :
    ∀ k < 15, s.fetchByte k = .ok 0x66 :=
  fun _ hk => (List.eq_replicate_iff.1 h).2 _ (List.mem_map_of_mem (List.mem_range.2 hk))

theorem witness_ResetState :
    ({ rm16 with inputs := [⟨true, false, none⟩] } : State).input.reset = true ∧
    ({ pm32u with inputs := [⟨true, true, some 0#8⟩], shutdown := true } : State).input.reset = true := by decide

theorem witness_Conditions :
    (∃ t, pm32.writeLoc .w8 (pm32.loc (b32 3) ebxMem) (if pm32.flags.cond 5 then 1 else 0) = .ok t) ∧
    (∃ v, pm32.readLoc .w32 (pm32.loc (b32 3) (.reg 7)) = .ok v) ∧
    pmNull.readLoc .w32 (pmNull.loc (b32 3) ebxMem) = .error (.raise (.gp 0#32)) := ⟨⟨_, rfl⟩, ⟨_, rfl⟩, rfl⟩

theorem witness_SegmentCheck :
    rm16.segCheck .ds true 0xFFFF#32 1 = .ok () ∧ rm16.segCheck .ds true 0xFFFF#32 2 = .error (.refuse .realModeLimit) ∧
    pmNull.segCheck .ds false 0#32 1 = .error (.raise (.gp 0#32)) ∧
    pm32.segCheck .ss false 0xFFFFFFFF#32 2 = .error (.raise (.ss 0#32)) ∧
    pm32.segCheck .ds false 0xFFFFFFFC#32 4 = .ok () ∧ pm32.segCheck .cs true 0#32 1 = .error (.raise (.gp 0#32)) ∧
    (let s : State := { pm32u with cr0 := 0x40011#32, flags := { pm32u.flags with ac := true } }
     s.segCheck .ds false 3#32 2 = .error (.raise .ac) ∧ s.segCheck .ds false 2#32 2 = .ok ()) ∧
    (let s : State := { pm32 with ds := { pm32.ds with type := 0x7#4, limit := 0xFFF#32 } }
     s.segCheck .ds true 0x1000#32 4 = .ok () ∧ s.segCheck .ds true 0xFFF#32 4 = .error (.raise (.gp 0#32))) :=
  ⟨rfl, rfl, rfl, rfl, rfl, rfl, ⟨rfl, rfl⟩, rfl, rfl⟩

theorem witness_OperandRead :
    pm32.pg = false ∧ pm32.segCheck .ds false 0xFFFFFFFC#32 Width.w32.bytes = .ok () ∧
    pm32.segCheck .ss true 0#32 Width.w8.bytes = .ok () := ⟨rfl, rfl, rfl⟩

theorem witness_OperandWrite :
    (∃ t, pm32.writeLoc .w32 (.mem .ds 0xFFFFFFFC#32) 0x11223344 = .ok t) ∧ pm32.pg = false ∧ pm32.mem.wf = true ∧
    pm32.segCheck .ds true 0xFFFFFFFC#32 Width.w32.bytes = .ok () ∧
    pm32.segCheck .ds true 0xFFFFFFFD#32 Width.w32.bytes = .error (.raise (.gp 0#32)) ∧
    pm32.segCheck .ds false 0xFFFFFFFD#32 Width.w32.bytes = .error (.raise (.gp 0#32)) :=
  ⟨⟨_, rfl⟩, rfl, by decide, rfl, rfl, rfl⟩

/-- The operands that AluForms, UnaryForms, CompareExchange, ShiftForms, DoubleShifts and Moves rewrite: a register and
memory. -/
theorem witness_Rewrites :
    (∃ a, pm32.readDst .w8 (pm32.loc (b32 2) ebxMem) = .ok a) ∧ (∃ a, pm32.readDst .w32 (.reg 7) = .ok a) ∧
    (∃ a, rm16.readDst .w16 (rm16.loc (b16 2) (.mem (.abs16 0xFFFE))) = .ok a) := ⟨⟨_, rfl⟩, ⟨_, rfl⟩, ⟨_, rfl⟩⟩

/-- Readable sources of AluForms, Multiply, Divide and BitInstructions. -/
theorem witness_Sources :
    (∃ a, pm32.readLoc .w8 (pm32.loc (b32 2) ebxMem) = .ok a) ∧ (∃ a, pm32.readLoc .w32 (.reg 7) = .ok a) ∧
    (∃ a, rm16.readLoc .w16 (rm16.loc (b16 2) (.mem (.abs16 0xFFFE))) = .ok a) := ⟨⟨_, rfl⟩, ⟨_, rfl⟩, ⟨_, rfl⟩⟩

theorem witness_Divide :
    (∃ d : BitVec 32, pm32.readLoc .w32 (.reg 0) = .ok d ∧ d.toNat = 0) ∧
    (∃ d : BitVec 32, pm32.readLoc .w32 (.reg 4) = .ok d ∧ d.toNat ≠ 0 ∧ d.toInt ≠ 0) :=
  ⟨⟨0#32, rfl, rfl⟩, ⟨0x8000#32, rfl, by decide, by decide⟩⟩

theorem witness_CompareExchange :
    (∃ d : BitVec 32, pm32.readDst .w32 (pm32.loc (b32 3) ebxMem) = .ok d ∧ pm32.reg .w32 0 = d) ∧
    (∃ d : BitVec 32, pm32.readDst .w32 (.reg 4) = .ok d ∧ pm32.reg .w32 0 ≠ d) ∧
    pm32.segReadRmw .ds (Addr.offset pm32.gpr (.a32 3 .none)) 8 = .ok 0 ∧
    pm32.gpr.edx.toNat * 2 ^ 32 + pm32.gpr.eax.toNat = 0 := ⟨⟨0#32, rfl, rfl⟩, ⟨0x8000#32, rfl, by decide⟩, rfl, rfl⟩

theorem witness_BitInstructions :
    (∃ v : BitVec 32, pm32.readLoc .w32 (.reg 0) = .ok v ∧ v.toNat = 0) ∧
    (∃ v : BitVec 32, pm32.readLoc .w32 (.reg 4) = .ok v ∧ v.toNat ≠ 0) ∧
    (∃ v, pm32.readDst .w32 (.mem .ds 0x6004#32) = .ok v) := ⟨⟨0#32, rfl, rfl⟩, ⟨0x8000#32, rfl, by decide⟩, ⟨_, rfl⟩⟩

theorem witness_Shifts :
    (0x20#8).toNat % 32 = 0 ∧ (0x1F#8).toNat % 32 ≠ 0 ∧ (16 < (0x1F#8).toNat % 32) ∧
    (∃ d, pm32.readDst .w16 (pm32.loc (b32 3) ebxMem) = .ok d) := ⟨rfl, by decide, by decide, ⟨_, rfl⟩⟩

theorem witness_Moves :
    (∃ t, pm32.writeLoc .w8 (pm32.loc (b32 2) ebxMem) (pm32.reg .w8 7) = .ok t) ∧
    (∃ t, pm32.writeLoc .w32 (.mem .ds 0xFFFFFFFC#32) (pm32.reg .w32 0) = .ok t) ∧
    (∃ v, pm32.readLoc .w8 (.mem .ds 0xFFFFFFFF#32) = .ok v) ∧
    (∃ t, pm32.segWrite .ds 0#32 2 (pm32.seg .ss).selector.toNat = .ok t) ∧
    (∃ a, pm32.readDst .w32 (pm32.loc (b32 2) ebxMem) = .ok a) := ⟨⟨_, rfl⟩, ⟨_, rfl⟩, ⟨_, rfl⟩, ⟨_, rfl⟩, ⟨_, rfl⟩⟩

theorem witness_RegisterMoves :
    (∃ v, pm32.readLoc .w8 (pm32.loc (b32 3) ebxMem) = .ok v) ∧ (∃ v, pm32.readLoc .w16 (pm32.loc (b32 3) (.reg 3)) = .ok v) ∧
    (∃ v, rm16.readLoc .w8 (.mem .ds (((0xFFFF#16 : Half) + 0#16).setWidth 32)) = .ok v) :=
  ⟨⟨_, rfl⟩, ⟨_, rfl⟩, ⟨_, rfl⟩⟩

theorem witness_SegmentLoads :
    rm16.pe = false ∧ rm16.readLoc .w16 (rm16.loc (b16 2) (.reg 0)) = .ok 0#16 ∧
    (∃ t, rm16.loadSegReg .ss 0#16 = .ok t) ∧ (∃ t, pm32.loadSegReg .ds 0x10#16 = .ok t) ∧
    StackHolds rm16 .s16 0 0#32 ∧ (∃ t, rm16.loadSegReg .es 0#16 = .ok t) ∧
    (∃ off, rm16.segRead .ds 0x300#32 2 = .ok off) ∧ (∃ sel, rm16.segRead .ds 0x302#32 2 = .ok sel) :=
  ⟨rfl, rfl, ⟨_, rfl⟩, ⟨_, rfl⟩, ⟨rfl, by decide⟩, ⟨_, rfl⟩, ⟨_, rfl⟩, ⟨_, rfl⟩⟩

theorem witness_ProtectedSegmentLoad :
    pm32.pe = true ∧ isNull 3#16 = true ∧ isNull 4#16 = false ∧ pm32.descAddr 0x68#16 = none ∧
    Names pm32 0x10#16 0x810#32 dData0 ∧ Names pm32 0x1B#16 0x818#32 dCode3 ∧ Names pm32 0x40#16 0x840#32 dAbsentData ∧
    dAbsentData.p = false ∧ (∃ t, pm32.setAccessed 0x810#32 dData0 = .ok t) ∧
    (dData0.s = true ∧ dData0.type.getLsbD 3 = false ∧ dData0.type.getLsbD 1 = true ∧ dData0.dpl = pm32.cpl ∧
      rpl 0x10#16 = pm32.cpl) ∧
    ¬(rpl 0x13#16 ≤ dData0.dpl ∧ pm32.cpl ≤ dData0.dpl) :=
  ⟨rfl, rfl, rfl, rfl, ⟨rfl, rfl, rfl⟩, ⟨rfl, rfl, rfl⟩, ⟨rfl, rfl, rfl⟩, rfl, ⟨_, rfl⟩, by decide, by decide⟩

theorem witness_PushPopForms :
    (∃ t, pm32.segWrite .ss (stackAt pm32 (0#32 - slots .s32 1)) 4 5 = .ok t) ∧
    (∃ t, rm16.segWrite .ss (stackAt rm16 (0#32 - slots .s16 1)) 2 5 = .ok t) ∧
    StackHolds pm32 .s32 0 0#32 ∧ StackHolds (at' rm16 0 [0xFF, 0xFF]) .s16 0 0xFFFF#32 ∧
    (∃ t, (popped pm32 (slots .s32 1)).writeLoc .w32
      (resolve (b32 2) { pm32.gpr with esp := stackAt pm32 (slots .s32 1) } ebxMem) 0 = .ok t) ∧
    pm32.segRead .ss pm32.gpr.ebp 4 = .ok 0 :=
  ⟨⟨_, rfl⟩, ⟨_, rfl⟩, ⟨rfl, by decide⟩, ⟨rfl, by decide⟩, ⟨_, rfl⟩, rfl⟩

theorem witness_StackFlags : StackHolds (at' pm32u 0x8000 [0xFF, 0xFF, 0xFF, 0xFF]) .s32 0 0xFFFFFFFF#32 :=
  ⟨rfl, by decide⟩

theorem witness_PushPopAll :
    (∃ t, pm32.pushAll .s32 [pm32.gpr.eax, pm32.gpr.ecx, pm32.gpr.edx, pm32.gpr.ebx, pm32.gpr.esp, pm32.gpr.ebp,
      pm32.gpr.esi, pm32.gpr.edi] = .ok t) ∧
    (∀ k ∈ ([0, 1, 2, 3, 4, 5, 6, 7] : List Nat), StackHolds pm32 .s32 k 0#32) ∧
    (∃ s1 s3 s2, pm32.push .s32 pm32.gpr.ebp = .ok s1 ∧ enterCopies .s32 30 s1 = .ok s3 ∧
      s3.push .s32 (stackAt s1 0) = .ok s2) := by
  refine ⟨⟨_, rfl⟩, fun k h => ?_, ⟨_, _, _, rfl, rfl, rfl⟩⟩
  simp only [List.mem_cons, List.not_mem_nil, or_false] at h
  rcases h with rfl | rfl | rfl | rfl | rfl | rfl | rfl | rfl <;> exact ⟨rfl, by decide⟩

theorem witness_PushThenPop :
    pm32.pg = false ∧ pm32.mem.wf = true ∧ ∃ t, pm32.push .s32 0x11223344#32 = .ok t ∧
      t.segCheck .ss false (stackAt t 0#32) 4 = .ok () := ⟨rfl, by decide, ⟨_, rfl, rfl⟩⟩

theorem witness_NearTransfers :
    (let s : State := { pm32 with cs := { pm32.cs with limit := 0x2007#32 } }
     (target .s32 (nextEip (b32 2) s + (5#8 : Byte).signExtend 32)).toNat ≤ s.cs.limit.toNat ∧
     s.cs.limit.toNat < (target .s32 (nextEip (b32 2) s + (6#8 : Byte).signExtend 32)).toNat) ∧
    (∃ v, pm32.readLoc .w32 (pm32.loc (b32 2) (.reg 0)) = .ok v) ∧ (∃ u, pm32.push .s32 0x2005#32 = .ok u) ∧
    StackHolds pm32 .s32 0 0#32 ∧ (0#32).toNat ≤ pm32.cs.limit.toNat ∧
    pm32.flags.cond 5 = true ∧ pm32.flags.cond 4 = false ∧ pm32.count (b32 2) = 0#32 ∧ pm32.count (b32 2) ≠ 1#32 ∧
    ({ pm32 with gpr := { pm32.gpr with ecx := 1#32 } } : State).count (b32 2) = 1#32 :=
  ⟨by decide, ⟨_, rfl⟩, ⟨_, rfl⟩, ⟨rfl, by decide⟩, by decide, by decide, by decide, by decide, by decide, by decide⟩

theorem witness_FarTransfersReal :
    rm16.pe = false ∧ (target .s16 0xFFFF#32).toNat ≤ rm16.cs.limit.toNat ∧
    rm16.cs.limit.toNat < (target .s32 0x10000#32).toNat ∧
    (∃ t, rm16.pushAll .s32 [slot .s32 rm16.drawHalf2 rm16.cs.selector, nextEip (b32 7) rm16] = .ok t) ∧
    rm16.readFarPtr (b16 4) (.abs16 0xFFFC) = .ok (0#32, 0#16) ∧
    StackHolds rm16 .s16 0 0#32 ∧ StackHolds rm16 .s16 1 0#32 ∧ (0#32 : Word).setWidth 16 = 0#16 ∧
    StackHolds (at' rm16 4 [0xD7, 0x0F]) .s16 2 0xFD7#32 ∧
    (let s := at' rm16 0 [0, 0, 1]
     s.readFarPtr (b32 7) (.abs32 0) = .ok (0x10000#32, 0#16) ∧ StackHolds s .s32 0 0x10000#32 ∧
       StackHolds s .s32 1 0#32 ∧ StackHolds s .s32 2 0#32) :=
  ⟨rfl, by decide, by decide, ⟨_, rfl⟩, rfl, ⟨rfl, by decide⟩, ⟨rfl, by decide⟩, rfl, ⟨rfl, by decide⟩,
    rfl, ⟨rfl, by decide⟩, ⟨rfl, by decide⟩, ⟨rfl, by decide⟩⟩

theorem witness_FarTransfersProtected :
    pm32.pe = true ∧ isNull 0#16 = true ∧ isNull 0x68#16 = false ∧ pm32.descAddr 0x68#16 = none ∧
    Names pm32 8#16 0x808#32 dCode0 ∧ FarCodeOk pm32 8#16 dCode0 ∧ FarCodeOk pm32u 0x4B#16 dConform ∧
    (target .s32 0xFFFFFFFF#32) ≤ dCode0.limit ∧ (∃ t, pm32.setAccessed 0x808#32 dCode0 = .ok t) ∧
    (∃ t u, pm32.pushAll .s32 [slot .s32 pm32.drawHalf2 pm32.cs.selector, nextEip (b32 7) pm32] = .ok t ∧
      t.setAccessed 0x808#32 dCode0 = .ok u) ∧
    (let s := at' pm32 0x300 [0, 0x20, 0, 0, 8]; s.readFarPtr (b32 2) (.abs32 0x300) = .ok (0x2000#32, 8#16)) ∧
    (Names pm32 0x58#16 0x858#32 dAbsentCode ∧ dAbsentCode.s = true ∧ dAbsentCode.type.getLsbD 3 = true ∧
      dAbsentCode.p = false ∧ rpl 0x58#16 ≤ pm32.cpl ∧ dAbsentCode.dpl = pm32.cpl) ∧
    (Names pm32 0x30#16 0x830#32 ⟨0x0000890050000087#64⟩ ∧
      (⟨0x0000890050000087#64⟩ : Desc).type ∈ ([0x1, 0x3, 0x5, 0x9, 0xB] : List (BitVec 4))) :=
  ⟨rfl, rfl, rfl, rfl, ⟨rfl, rfl, rfl⟩, by unfold FarCodeOk; decide, by unfold FarCodeOk; decide, by decide, ⟨_, rfl⟩,
    ⟨_, _, rfl, rfl⟩, rfl, ⟨⟨rfl, rfl, rfl⟩, by decide⟩, ⟨rfl, rfl, rfl⟩, by decide⟩

/-- A call gate to the same level, to a conforming segment, and to an inner level on the stack of the TSS. -/
theorem witness_CallGates :
    (pm32.pe = true ∧ Names pm32 0x60#16 0x860#32 dGate16 ∧ GateOk pm32 0x60#16 dGate16 dCode0 0x808#32 ∧
      dCode0.dpl = pm32.cpl ∧ ∃ u v, pm32.pushAll .s16 [slot .s16 pm32.drawHalf2 pm32.cs.selector, nextEip (b32 7) pm32]
        = .ok u ∧ u.setAccessed 0x808#32 dCode0 = .ok v) ∧
    (Names pm32u 0x50#16 0x850#32 dGateConform ∧ GateOk pm32u 0x50#16 dGateConform dConform 0x848#32 ∧
      dConform.type.getLsbD 2 = true) ∧
    (Names pm32u 0x63#16 0x860#32 dGate16 ∧ GateOk pm32u 0x63#16 dGate16 dCode0 0x808#32 ∧
      dCode0.type.getLsbD 2 = false ∧ dCode0.dpl < pm32u.cpl ∧ pm32u.stackFromTSS 0#2 0#32 = .ok (0x10#16, 0x9000#32) ∧
      StackOk pm32u 0x10#16 0#2 0x810#32 dData0 ∧ pm32u.readParams .s16 0#32 1 = .ok [0#32] ∧
      ∃ u v x, pm32u.setAccessed 0x810#32 dData0 = .ok u ∧
        (({ u with ss := .ofDesc 0x10#16 dData0, cpl := 0#2 } : State).setSp 0x9000#32).pushAll .s16
          ([slot .s16 pm32u.drawHalf pm32u.ss.selector, stackAt pm32u 0#32] ++ [0#32].reverse
            ++ [slot .s16 pm32u.drawHalf2 pm32u.cs.selector, nextEip (b32 7) pm32u]) = .ok v ∧
        v.setAccessed 0x808#32 dCode0 = .ok x) :=
  ⟨⟨rfl, ⟨rfl, rfl, rfl⟩, ⟨by decide, by decide, by decide, by decide, by decide, ⟨rfl, rfl, rfl⟩, by decide⟩, rfl,
      ⟨_, _, rfl, rfl⟩⟩,
    ⟨⟨rfl, rfl, rfl⟩, ⟨by decide, by decide, by decide, by decide, by decide, ⟨rfl, rfl, rfl⟩, by decide⟩, rfl⟩,
    ⟨rfl, rfl, rfl⟩, ⟨by decide, by decide, by decide, by decide, by decide, ⟨rfl, rfl, rfl⟩, by decide⟩, rfl, by decide,
    rfl, ⟨⟨rfl, rfl, rfl⟩, by decide⟩, rfl, ⟨_, _, _, rfl, rfl, rfl⟩⟩

/-- Returns to the same level, and to CPL 3 with the outer stack after CS (RET) or after the flags (IRET). -/
theorem witness_FarReturnsProtected :
    (let s := at' pm32 0x8000 [7, 0x10, 0, 0, 8, 0, 0, 0, 2]
     s.pe = true ∧ StackHolds s .s32 0 0x1007#32 ∧ StackHolds s .s32 1 8#32 ∧ ReturnOk s 8#16 0x808#32 dCode0 ∧
       0x1007#32 ≤ dCode0.limit ∧ rpl 8#16 = s.cpl ∧ StackHolds s .s32 2 2#32 ∧ s.flags.nt = false ∧
       ¬((2#32).getLsbD 17 = true ∧ s.cpl = 0#2) ∧ ∃ t, s.setAccessed 0x808#32 dCode0 = .ok t) ∧
    (let s := at' pm32 0x8000 [7, 0x10, 0, 0, 0x1B, 0, 0, 0, 0, 0x70, 0, 0, 0x23, 0, 0, 0, 0x23]
     StackHolds s .s32 1 0x1B#32 ∧ ReturnOk s 0x1B#16 0x818#32 dCode3 ∧ s.cpl < rpl 0x1B#16 ∧
       StackHolds s .s32 2 0x7000#32 ∧ StackHolds s .s32 3 0x23#32 ∧ StackHolds s .s32 4 0x23#32 ∧
       s.segRead .ss (stackAt s (slots .s32 2 + (4#16).setWidth 32)) 4 = .ok 0x23 ∧
       s.segRead .ss (stackAt s (slots .s32 3 + (4#16).setWidth 32)) 4 = .ok 0x23 ∧
       StackOk s 0x23#16 3#2 0x820#32 dData3 ∧ ∃ t v, s.setAccessed 0x818#32 dCode3 = .ok t ∧
         ({ t with cs := loadedCS 0x1B#16 dCode3 3#2, cpl := 3#2 } : State).setAccessed 0x820#32 dData3 = .ok v) :=
  ⟨⟨rfl, ⟨rfl, by decide⟩, ⟨rfl, by decide⟩, ⟨⟨rfl, rfl, rfl⟩, by decide⟩, by decide, rfl, ⟨rfl, by decide⟩, rfl,
      by decide, ⟨_, rfl⟩⟩,
    ⟨rfl, by decide⟩, ⟨⟨rfl, rfl, rfl⟩, by decide⟩, by decide, ⟨rfl, by decide⟩, ⟨rfl, by decide⟩, ⟨rfl, by decide⟩, rfl,
    rfl, ⟨⟨rfl, rfl, rfl⟩, by decide⟩, ⟨_, _, rfl, rfl⟩⟩

/-- The gate of vector 13 in the test IDT. -/
def dIdt13 : Desc := ⟨0x00008600000830D0#64⟩

theorem witness_RealEntry : ∃ u, RealEntry rm16 ⟨0x21#8, .soft, none⟩ 0x102#32 u :=
  ⟨_, rfl, by decide, _, _, _, rfl, rfl, rfl, rfl⟩

theorem witness_SameEntry : ∃ u, SameEntry pm32 ⟨13#8, .fault, some 0x10#32⟩ 0x2000#32 u :=
  ⟨_, rfl, dIdt13, dCode0, 0x808#32, _, _, ⟨by decide, rfl, by decide, by decide, by decide, by decide, ⟨rfl, rfl, rfl⟩,
    by decide⟩, .inr rfl, rfl, rfl, rfl⟩

theorem witness_InnerEntry : ∃ u, InnerEntry pm32u ⟨13#8, .fault, some 0x10#32⟩ 0x2000#32 u :=
  ⟨_, rfl, dIdt13, dCode0, 0x808#32, 0x10#16, 0x9000#32, 0x810#32, dData0, _, _, _,
    ⟨by decide, rfl, by decide, by decide, by decide, by decide, ⟨rfl, rfl, rfl⟩, by decide⟩, rfl, by decide, rfl,
    ⟨⟨rfl, rfl, rfl⟩, by decide⟩, rfl, rfl, rfl, rfl⟩

/-- HandlerEntry and SoftwareInterrupts: a handler is entered in each of the three ways; a page fault from the state
that its class and CR2 were noted in. -/
theorem witness_HandlerEntry :
    (∃ u, Enters { rm16 with classOut := some .fault } ⟨6#8, .fault, none⟩ 0x100#32 u) ∧
    (∃ u, Enters { pm32 with classOut := some .fault } ⟨6#8, .fault, none⟩ 0x2000#32 u) :=
  ⟨⟨_, .inl ⟨rfl, by decide, _, _, _, rfl, rfl, rfl, rfl⟩⟩,
    ⟨_, .inr (.inl ⟨rfl, ⟨0x0000860000083060#64⟩, dCode0, 0x808#32, _, _, ⟨by decide, rfl, by decide, by decide, by decide,
      by decide, ⟨rfl, rfl, rfl⟩, by decide⟩, .inr rfl, rfl, rfl, rfl⟩)⟩⟩

theorem witness_SoftwareInterrupts :
    (∃ u, Enters { rm16 with classOut := some .fault } ⟨3#8, .soft, none⟩ (nextEip (b16 1) rm16) u) ∧
    (image rm16 0x802#32).flags.of = true ∧ rm16.flags.of = false :=
  ⟨⟨_, .inl ⟨rfl, by decide, _, _, _, rfl, rfl, rfl, rfl⟩⟩, by decide, by decide⟩

theorem witness_GateFaults :
    (let s : State := { rm16 with idtr := ⟨0#32, 0x3FE#16⟩ }
     s.pe = false ∧ s.idtr.limit.toNat < 4 * (0xFF#8).toNat + 3) ∧
    (let s : State := { pm32 with idtr := ⟨0x1000#32, 0x6E#16⟩ }
     s.pe = true ∧ s.idtr.limit.toNat < 8 * (13#8).toNat + 7) ∧
    (8 * (13#8).toNat + 7 ≤ 0x6F ∧ ({ pm32 with idtr := ⟨0x1000#32, 0x6F#16⟩ } : State).readDesc 0x1068#32 = .ok dIdt13) ∧
    (pm32.readDesc 0x1010#32 = .ok ⟨0#64⟩ ∧ ¬((⟨0#64⟩ : Desc).type ∈ ([0x5, 0x6, 0x7, 0xE, 0xF] : List (BitVec 4)))) ∧
    dIdt13.dpl < pm32u.cpl ∧
    (at' pm32 0x106D [0x06]).readDesc 0x1068#32 = .ok ⟨0x00000600000830D0#64⟩ ∧
    (at' pm32 0x106D [0x85]).readDesc 0x1068#32 = .ok ⟨0x00008500000830D0#64⟩ :=
  ⟨by decide, by decide, ⟨by decide, rfl⟩, ⟨rfl, by decide⟩, by decide, rfl, rfl⟩

/-- A delivery that faults, for an event of each class. -/
theorem witness_DoubleFaults :
    (∀ p ∈ ([(8, 0x43), (13, 0x6B), (14, 0x73), (0x40, 0x203)] : List (Byte × Word)),
      ({ pm32 with
          idtr := ⟨0x1000#32, 0x3F#16⟩, halted := false, smcDirty := []
          delivering := some (⟨p.1, .fault, none⟩ : Event).cls } : State).tryDeliver ⟨p.1, .fault, none⟩ 0x2000#32
        = .error (.raise (.gp p.2))) ∧
    (Exc.gp 0x6B#32).event.vector = 13 := by
  refine ⟨fun p h => ?_, rfl⟩
  simp only [List.mem_cons, List.not_mem_nil, or_false] at h
  rcases h with rfl | rfl | rfl | rfl <;> rfl

/-- A delivery that sets the accessed bit of the new stack's descriptor. -/
theorem witness_keepAccessed :
    let s := at' pm32u 0x815 [0x92]
    let d : Desc := ⟨0x00CF92000000FFFF#64⟩
    s.pe = true ∧ VectorOk s ⟨13#8, .fault, some 0x10#32⟩ dIdt13 dCode0 0x808#32 ∧ dCode0.type.getLsbD 2 = false ∧
    dCode0.dpl < s.cpl ∧ s.stackFromTSS 0#2 1#32 = .ok (0x10#16, 0x9000#32) ∧ StackOk s 0x10#16 0#2 0x810#32 d ∧
    s.checkPushes (.ofDesc 0x10#16 d) (.ss 0x11#32) 0#2 dIdt13.gateSize (stackStep d.db 0x9000#32 0#32) 6 = .ok () ∧
    ∃ u, s.setAccessed 0x810#32 d = .ok u ∧ u.mem.read 0x815 = 0x93 :=
  ⟨rfl, ⟨by decide, rfl, by decide, by decide, by decide, by decide, ⟨rfl, rfl, rfl⟩, by decide⟩, rfl, by decide, rfl,
    ⟨⟨rfl, rfl, rfl⟩, by decide⟩, rfl, ⟨_, rfl, by decide⟩⟩

theorem witness_BoundCheck :
    (let s := at' { pm32 with gpr := { pm32.gpr with eax := 9#32, ebx := 0x300#32 } } 0x304 [9]
     s.readLoc .w32 (.mem (Addr.segment (b32 2) (.a32 3 .none)) (Addr.offset s.gpr (.a32 3 .none))) = .ok 0#32 ∧
     s.readLoc .w32 (.mem (Addr.segment (b32 2) (.a32 3 .none)) (indexOf (b32 2) (Addr.offset s.gpr (.a32 3 .none) + 4#32)))
       = .ok 9#32 ∧ (0#32).toInt ≤ (s.reg .w32 0).toInt ∧ (s.reg .w32 0).toInt = (9#32).toInt) :=
  ⟨rfl, rfl, by decide, by decide⟩

theorem witness_StringInstructions :
    (∃ v t, pm32.readLoc .w32 (.mem .ds 0xFFFFFFFC#32) = .ok v ∧ pm32.writeLoc .w32 (.mem .es 0#32) v = .ok t) ∧
    (⟨.s32, .s32, none, .rep, false, 2⟩ : Bound).rep ≠ .none ∧ (b32 1).rep = .none ∧
    pm32.count ⟨.s32, .s32, none, .rep, false, 2⟩ = 0#32 ∧
    ({ pm32 with gpr := { pm32.gpr with ecx := 1#32 } } : State).count ⟨.s32, .s32, none, .rep, false, 2⟩ ≠ 0#32 :=
  ⟨⟨_, _, rfl, rfl⟩, by decide, rfl, rfl, by decide⟩

/-- Ports allowed by CPL, by the bitmap of the TSS, denied by it, and past the last port. -/
theorem witness_PortAccess :
    pm32.ioCheck 0xFFFF#16 1 = .ok () ∧ rm16.ioCheck 0xFFFC#16 4 = .ok () ∧
    (let s := at' (at' pm32u 0x5078 [0xFE]) 0x5066 [0x68, 0]
     s.ioCheck 0x80#16 1 = .ok () ∧ s.ioCheck 0x81#16 1 = .error (.raise (.gp 0#32))) ∧
    (let s : State := { at' (at' pm32u 0x5078 [0xFE]) 0x5066 [0x68, 0] with
       gpr := { pm32u.gpr with edx := 0x81#32, ecx := 1#32 } }
     s.ioCheck (s.gpr.edx.setWidth 16) 1 = .error (.raise (.gp 0#32)) ∧
       s.count ⟨.s32, .s32, none, .rep, false, 2⟩ ≠ 0#32 ∧ (b32 1).rep = .none) ∧
    rm16.ioCheck 0xFFFE#16 4 = .error (.refuse .ioWrap) ∧
    0xFFFF < (0xFFFE#16).toNat + 4 - 1 ∧ (∃ t, pm32.writeLoc .w8 (.mem .es 0#32) (pm32.drawWord.setWidth _) = .ok t) ∧
    (∃ v, pm32.readLoc .w32 (.mem .ds 0#32) = .ok v) :=
  ⟨rfl, rfl, ⟨rfl, rfl⟩, ⟨rfl, by decide, rfl⟩, rfl, by decide, ⟨_, rfl⟩, ⟨_, rfl⟩⟩

theorem witness_FlagControl :
    (pm32u.pe = true ∧ pm32u.flags.iopl < pm32u.cpl ∧ pm32u.cpl ≠ 0#2) ∧ pm32.cpl = 0#2 ∧ pm32.cpl ≤ pm32.flags.iopl ∧
    rm16.pe = false := by decide

theorem witness_PrivilegedInstructions :
    pm32u.pe = true ∧ pm32u.cpl ≠ 0#2 ∧ pm32u.cr4.getLsbD 3 = false ∧
    ({ pm32u with cr4 := 4#32 } : State).cr4.getLsbD 2 = true := by decide

theorem witness_DescriptorTables :
    pm32.cpl = 0#2 ∧ (∃ l, pm32.segRead .ds 0x300#32 2 = .ok l) ∧ (∃ v, pm32.segRead .ds 0x302#32 4 = .ok v) ∧
    (∀ j < 32, pm32.gdtr.base.getLsbD j = pm32.gdtr.base.getLsbD j) ∧
    (∃ t u, pm32.segWrite .ds 0x300#32 2 0x67 = .ok t ∧ t.segWrite .ds 0x302#32 4 0x800 = .ok u) ∧
    (let s : State := { pm32 with gpr := { pm32.gpr with eax := 0x28#32, ecx := 0x30#32 } }
     s.readLoc .w16 (.reg 0) = .ok 0x28#16 ∧ Names s 0x28#16 0x828#32 ⟨0x000082001000FFFF#64⟩ ∧
     (⟨0x000082001000FFFF#64⟩ : Desc).type = 0x2#4 ∧ (⟨0x000082001000FFFF#64⟩ : Desc).p = true ∧
     s.readLoc .w16 (.reg 1) = .ok 0x30#16 ∧ Names s 0x30#16 0x830#32 ⟨0x0000890050000087#64⟩ ∧
     (⟨0x0000890050000087#64⟩ : Desc).type = 0x9#4 ∧ ∃ t, s.memWrite false 0x835#32 1 0x8B = .ok t) ∧
    pm32.readLoc .w16 (.reg 0) = .ok 0#16 ∧ isNull 0#16 = true ∧ rm16.pe = false :=
  ⟨rfl, ⟨_, rfl⟩, ⟨_, rfl⟩, fun _ _ => rfl, ⟨_, _, rfl, rfl⟩,
    ⟨rfl, ⟨rfl, rfl, rfl⟩, rfl, rfl, rfl, ⟨rfl, rfl, rfl⟩, rfl, ⟨_, rfl⟩⟩, rfl, rfl, rfl⟩

/-- Values of MOV CR0 and CR4 on each side of their checks. -/
theorem witness_ControlRegisters :
    pm32.cpl = 0#2 ∧
    ((0x80000010#32).getLsbD 31 = true ∧ (0x80000010#32).getLsbD 0 = false) ∧
    ((0x20000011#32).getLsbD 29 = true ∧ (0x20000011#32).getLsbD 30 = false) ∧
    0x51#32 &&& 0x1FFAFFC0#32 ≠ 0#32 ∧ 0xE005003F#32 &&& 0x1FFAFFC0#32 = 0#32 ∧ 0x200#32 &&& 0xFFFFFE00#32 ≠ 0#32 ∧
    0x1FC#32 &&& 0xFFFFFE03#32 = 0#32 ∧ pm32.readLoc .w16 (pm32.loc (b32 3) (.reg 0)) = .ok 0#16 ∧
    (∃ t, pm32.segWrite .ds 0#32 2 (pm32.cr0.toNat % 2 ^ 16) = .ok t) :=
  ⟨rfl, by decide, by decide, by decide, by decide, by decide, by decide, rfl, ⟨_, rfl⟩⟩

theorem witness_DebugRegisters :
    pm32.cpl = 0#2 ∧ pm32.cr4.getLsbD 3 = false ∧ ({ pm32 with cr4 := 8#32 } : State).cr4.getLsbD 3 = true ∧
    1#32 &&& 0x20FF#32 ≠ 0#32 ∧ 0xDF00#32 &&& 0x20FF#32 = 0#32 := by decide

theorem witness_SelectorInspection :
    rm16.pe = false ∧ pm32.readLoc .w16 (.reg 0) = .ok 0#16 ∧ isNull 0#16 = true ∧ pm32.descAddr 0x68#16 = none ∧
    Names pm32u 0x23#16 0x820#32 dData3 ∧ Visible pm32u 0x23#16 dData3 ∧ Names pm32u 0x10#16 0x810#32 dData0 ∧
    ¬Visible pm32u 0x10#16 dData0 ∧
    (let s : State := { pm32 with gpr := { pm32.gpr with ebx := 3#32 } }
     s.readDst .w16 (.reg 0) = .ok 0#16 ∧ rpl 0#16 < rpl (s.reg .w16 3)) ∧
    rpl (pm32.reg .w16 3) ≤ rpl 0#16 :=
  ⟨rfl, rfl, rfl, rfl, ⟨rfl, rfl, rfl⟩, by unfold Visible; decide, ⟨rfl, rfl, rfl⟩, by unfold Visible; decide,
    ⟨rfl, by decide⟩, by decide⟩

theorem witness_Identification :
    (∃ a bx c d, Config.cpuidTable pm32.gpr.eax = (a, bx, c, d)) ∧ pm32.cr4.getLsbD 2 = false ∧ pm32.cpl = 0#2 ∧
    ({ pm32 with gpr := { pm32.gpr with ecx := 0x10#32 } } : State).gpr.ecx = 0x10#32 ∧ pm32.gpr.ecx ≠ 0x10#32 :=
  ⟨⟨_, _, _, _, rfl⟩, rfl, rfl, rfl, by decide⟩

theorem witness_StepRunsDecoded :
    (let s := at' pm32 0x2000 [0x90]
     s.input = .quiet ∧ s.shutdown = false ∧ s.pendingTrapDB = false ∧ s.halted = false ∧
       decode ⟨s.cs.db, s.pe, s.cr4.getLsbD 3⟩ s.fetchByte = .ok (.nop (b32 1))) ∧
    (let s := at' pm32 0x2000 [0x0F, 0xFF]; decode ⟨s.cs.db, s.pe, s.cr4.getLsbD 3⟩ s.fetchByte = .error .ud) ∧
    (let s : State := { pm32 with cs := { pm32.cs with limit := 0x1FFF#32 } }
     decode ⟨s.cs.db, s.pe, s.cr4.getLsbD 3⟩ s.fetchByte = .error (.port (.raise (.gp 0#32)))) :=
  ⟨⟨rfl, rfl, rfl, rfl, rfl⟩, rfl, rfl⟩

theorem witness_BoundaryEvents :
    ({ pm32 with inputs := [⟨true, true, none⟩] } : State).input.reset = true ∧
    (pm32.input.reset = false ∧ pm32.shutdown = false ∧ pm32.pendingTrapDB = false ∧ pm32.halted = false) ∧
    (let s : State := { pm32 with inputs := [⟨false, true, none⟩] }
     s.input.nmi = true ∧ s.nmiBlocked = false ∧ s.intShadow = false) ∧
    (let s : State := { pm32 with inputs := [⟨false, false, some 0xFF#8⟩], flags := { pm32.flags with ifl := true } }
     s.input.intr = some 0xFF#8 ∧ s.flags.ifl = true ∧ s.intShadow = false ∧ s.input.nmi = false) := by decide

/-- The premises of the invariants hold of a protected-mode state that runs an instruction. -/
theorem witness_Invariants :
    pm32.canonical = true ∧ pm32.legalMode = true ∧ pm32.debugFixed = true ∧ pm32.segmentsShaped = true ∧
    pm32.settled = true ∧ pm32u.legalMode = true ∧ goes (run pm32 [0x90]) (fun _ => true) = true := by decide

theorem witness_UnprivilegedIsolation :
    pm32u.pe = true ∧ pm32u.cpl ≠ 0#2 ∧ ∃ t, exec (.addEvGv (b32 2) ebxMem 0) pm32u = .next t := ⟨rfl, by decide, ⟨_, rfl⟩⟩

/-- CPL falls through a call gate and rises with a far return. -/
theorem witness_PrivilegeRises :
    goes (exec (.callAp (b32 7) 0#32 0x60#16) pm32u) (fun t => decide (t.cpl < pm32u.cpl)) = true ∧
    goes (exec (.retf (b32 1)) (at' pm32 0x8000 [7, 0x10, 0, 0, 0x1B, 0, 0, 0, 0, 0x70, 0, 0, 0x23]))
      (fun t => decide (pm32.cpl < t.cpl)) = true := by decide

theorem witness_Frames :
    (∃ t, exec (.addEbGb (b32 2) ebxMem 0) pm32 = .next t ∧ t.classOut = some .none) ∧
    (∃ t, exec (.pushZv (b32 1) 4) pm32 = .next t ∧ t.classOut = some .none) ∧
    (∃ t, exec (.cmpEvGv (b32 2) ebxMem 0) pm32 = .next t ∧ t.classOut = some .none) ∧
    pm32.loc (b32 2) ebxMem = .mem .ds 0#32 ∧ pm32.loc (b32 2) (.reg 7) = .reg 7 :=
  ⟨⟨_, rfl, rfl⟩, ⟨_, rfl, rfl⟩, ⟨_, rfl, rfl⟩, rfl, rfl⟩

theorem witness_FlowCapability :
    ∃ t, exec (.jmpJb (b32 2) 0xFE) pm32 = .next t ∧ t.classOut = some .taken ∧ FlowClass.taken ≠ .none ∧
      FlowClass.taken ≠ .fault := ⟨_, rfl, rfl, by decide, by decide⟩

end Sys2Proof.Tests
end

section
/-! PROOFS. How an instruction of class none ends, as the statements say it. -/
namespace Sys2Proof.Machine
open Sys2Proof Sys2Proof.Claims

/-- An execute that succeeds without a jump leaves what the statements call `done` (R19, R111, R470). -/
theorem complete_eq_done (b : Bound) {s t : State} (heip : t.eip = s.eip) :
    complete b s (.ok t) = .next (done b s t) := by
  rw [complete_ok]
  simp [retire, done, State.advance, State.next, heip, FlowClass.serialises]

/-- A check that raises, before the rest of an execute. -/
theorem raiseIf_bind {α : Type} (c : Bool) (x : Exc) (f : Unit → Except Stop α) :
    raiseIf c x >>= f = if c = true then .error (.raise x) else f () := by cases c <;> rfl

/-- A check that refuses, before the rest of an execute. -/
theorem refuseIf_bind {α : Type} (c : Bool) (r : Refusal) (f : Unit → Except Stop α) :
    refuseIf c r >>= f = if c = true then .error (.refuse r) else f () := by cases c <;> rfl

end Sys2Proof.Machine
end

section
/-! PROOFS. DIV and IDIV (R513, R514). -/
namespace Sys2Proof.Machine
open Sys2Proof Sys2Proof.Claims

theorem exec_divEb (b : Bound) (e : Rm) (s : State) : exec (.divEb b e) s = divRm .w8 b e s := rfl
theorem exec_divEv (b : Bound) (e : Rm) (s : State) : exec (.divEv b e) s = divRm b.osz.width b e s := rfl
theorem exec_idivEb (b : Bound) (e : Rm) (s : State) : exec (.idivEb b e) s = idivRm .w8 b e s := rfl
theorem exec_idivEv (b : Bound) (e : Rm) (s : State) : exec (.idivEv b e) s = idivRm b.osz.width b e s := rfl

@[simp] theorem State.setAccPair_eip (s : State) (w : Width) (hi lo : BitVec w.bits) :
    (s.setAccPair w hi lo).eip = s.eip := by cases w <;> rfl

/-- The accumulator pair holds a number of twice the width. -/
theorem State.accPair_lt (s : State) (w : Width) : s.accPair w < 2 ^ (2 * w.bits) := by
  cases w with
  | w8 => exact (s.reg .w16 0#3).isLt
  | w16 =>
    have hhi : _ < 2 ^ 16 := (s.reg .w16 2#3).isLt
    have hlo : _ < 2 ^ 16 := (s.reg .w16 0#3).isLt
    show _ * 2 ^ 16 + _ < 2 ^ 32
    omega
  | w32 =>
    have hhi : _ < 2 ^ 32 := (s.reg .w32 2#3).isLt
    have hlo : _ < 2 ^ 32 := (s.reg .w32 0#3).isLt
    show _ * 2 ^ 32 + _ < 2 ^ 64
    omega

/-- The signed dividend is the pair in two's complement (R514). -/
theorem State.signedAccPair_eq (s : State) (w : Width) : s.signedAccPair w =
    if 2 ^ (2 * w.bits - 1) ≤ s.accPair w then (s.accPair w : Int) - 2 ^ (2 * w.bits) else s.accPair w := by
  have hlt := s.accPair_lt w
  have hhalf : 2 ^ (2 * w.bits) = 2 * 2 ^ (2 * w.bits - 1) := by
    rw [← Nat.pow_succ', Nat.succ_eq_add_one, Nat.sub_add_cancel (by cases w <;> decide)]
  rw [State.signedAccPair, BitVec.toInt_eq_toNat_cond, BitVec.toNat_ofNat, ← Nat.two_mul, Nat.mod_eq_of_lt hlt]
  push_cast
  split <;> split <;> omega

/-- Division truncating toward zero leaves a remainder of the dividend's sign (R23). -/
theorem tmod_eq_zero_or_sign (n d : Int) : n.tmod d = 0 ∨ (n.tmod d < 0 ↔ n < 0) := by
  rcases Int.lt_or_le n 0 with hn | hn
  · have := Int.tmod_nonneg d (a := -n) (by omega)
    rw [Int.neg_tmod] at this
    omega
  · have := Int.tmod_nonneg d hn
    omega

section
variable {w : Width} {b : Bound} {e : Rm} {s : State} {d : BitVec w.bits} (hd : s.readLoc w (s.loc b e) = .ok d)
include hd

theorem divRm_of_zero (h0 : d.toNat = 0) : divRm w b e s = deliverFault s .de := by
  have : d = 0#_ := BitVec.eq_of_toNat_eq (by simpa using h0)
  simp [divRm, hd, this, complete_raise]

theorem divRm_of_ne_zero (h0 : d.toNat ≠ 0) : divRm w b e s =
    if 2 ^ w.bits ≤ s.accPair w / d.toNat then deliverFault s .de
    else .next (done b s ((s.setAccPair w (BitVec.ofNat _ (s.accPair w % d.toNat))
      (BitVec.ofNat _ (s.accPair w / d.toNat))).setFlags (s.flags.undefined s.flagDraws))) := by
  have hne : (d == 0#_) = false := by
    rw [beq_eq_false_iff_ne]
    rintro rfl
    exact h0 (by simp)
  by_cases hbig : 2 ^ w.bits ≤ s.accPair w / d.toNat
  · simp [divRm, hd, hne, hbig, complete_raise]
  · simp only [divRm, hd, hne, hbig, decide_false, except_ok_bind, raiseIf_false, except_pure, if_false]
    exact complete_eq_done b (by simp)

theorem idivRm_of_zero (h0 : d.toInt = 0) : idivRm w b e s = deliverFault s .de := by
  have : d = 0#_ := BitVec.eq_of_toInt_eq (by simpa using h0)
  simp [idivRm, hd, this, complete_raise]

theorem idivRm_of_ne_zero (h0 : d.toInt ≠ 0) : idivRm w b e s =
    let q := (s.signedAccPair w).tdiv d.toInt
    if q < -(2 ^ (w.bits - 1) : Int) ∨ (2 ^ (w.bits - 1) : Int) ≤ q then deliverFault s .de
    else .next (done b s ((s.setAccPair w (BitVec.ofInt _ ((s.signedAccPair w).tmod d.toInt))
      (BitVec.ofInt _ q)).setFlags (s.flags.undefined s.flagDraws))) := by
  have hne : (d == 0#_) = false := by
    rw [beq_eq_false_iff_ne]
    rintro rfl
    exact h0 (by simp)
  simp only [idivRm, hd, hne, except_ok_bind, raiseIf_false, ← Bool.decide_or]
  split
  · next hbig => simp only [hbig, decide_true, raiseIf_true, except_error_bind, complete_raise]
  · next hfit =>
    simp only [hfit, decide_false, raiseIf_false, except_ok_bind, except_pure]
    exact complete_eq_done b (by simp)

/-- DIV at any width: quotient and remainder, or #DE (R513). -/
theorem divRm_spec : (d.toNat = 0 → divRm w b e s = deliverFault s .de) ∧
    (d.toNat ≠ 0 → ∃ q r, s.accPair w = q * d.toNat + r ∧ r < d.toNat ∧ divRm w b e s =
      if 2 ^ w.bits ≤ q then deliverFault s .de
      else .next (done b s ((s.setAccPair w (BitVec.ofNat _ r) (BitVec.ofNat _ q)).setFlags
        (s.flags.undefined s.flagDraws)))) :=
  ⟨divRm_of_zero hd, fun h0 => ⟨s.accPair w / d.toNat, s.accPair w % d.toNat, (Nat.div_add_mod' _ _).symm,
    Nat.mod_lt _ (by omega), divRm_of_ne_zero hd h0⟩⟩

/-- IDIV at any width: quotient and remainder of truncating division, or #DE (R514, R23). -/
theorem idivRm_spec :
    let n : Int := if 2 ^ (2 * w.bits - 1) ≤ s.accPair w then (s.accPair w : Int) - 2 ^ (2 * w.bits) else s.accPair w
    (d.toInt = 0 → idivRm w b e s = deliverFault s .de) ∧
    (d.toInt ≠ 0 → ∃ q r : Int, n = q * d.toInt + r ∧ r.natAbs < d.toInt.natAbs ∧ (r = 0 ∨ (r < 0 ↔ n < 0)) ∧
      idivRm w b e s =
        if q < -(2 ^ (w.bits - 1) : Int) ∨ (2 ^ (w.bits - 1) : Int) ≤ q then deliverFault s .de
        else .next (done b s ((s.setAccPair w (BitVec.ofInt _ r) (BitVec.ofInt _ q)).setFlags
          (s.flags.undefined s.flagDraws)))) := by
  rw [← State.signedAccPair_eq]
  refine ⟨idivRm_of_zero hd, fun h0 => ⟨(s.signedAccPair w).tdiv d.toInt, (s.signedAccPair w).tmod d.toInt, ?_, ?_,
    tmod_eq_zero_or_sign _ _, idivRm_of_ne_zero hd h0⟩⟩
  · exact (Int.tdiv_mul_add_tmod _ _).symm
  · rw [Int.natAbs_tmod]
    exact Nat.mod_lt _ (Int.natAbs_pos.mpr h0)
end

/-- Settles O17: one specification of DIV and one of IDIV, each read at the two widths. -/
theorem divide : Obligations.Divide := by
  intro b e s
  constructor
  · intro p hp d hd
    simp only [List.mem_cons, List.not_mem_nil, or_false] at hp
    rcases hp with rfl | rfl
    · rw [exec_divEb]
      exact divRm_spec hd
    · rw [exec_divEv]
      exact divRm_spec hd
  · intro p hp d hd
    simp only [List.mem_cons, List.not_mem_nil, or_false] at hp
    rcases hp with rfl | rfl
    · rw [exec_idivEb]
      exact idivRm_spec hd
    · rw [exec_idivEv]
      exact idivRm_spec hd

end Sys2Proof.Machine
end

section
/-! PROOFS. The state after RESET, the events of the boundary and the instruction that starts there (R19, R1350). -/
namespace Sys2Proof.Machine
open Sys2Proof

/-! ## The boundary events, one for each case of R1350 -/

theorem State.takesNmi_iff {s : State} {x : BoundaryInput} :
    s.takesNmi x = true ↔ x.nmi = true ∧ s.nmiBlocked = false ∧ s.intShadow = false := by
  simp [State.takesNmi, and_assoc]

theorem State.takesNmi_eq_false {s : State} {x : BoundaryInput} :
    s.takesNmi x = false ↔ x.nmi = false ∨ s.nmiBlocked = true ∨ s.intShadow = true := by
  unfold State.takesNmi
  cases x.nmi <;> cases s.nmiBlocked <;> cases s.intShadow <;> decide

theorem State.takesIntr_eq_some {s : State} {x : BoundaryInput} {v : Byte} :
    s.takesIntr x = some v ↔ x.intr = some v ∧ s.flags.ifl = true ∧ s.intShadow = false := by
  simp [State.takesIntr, and_comm]

theorem State.takesIntr_eq_none {s : State} {x : BoundaryInput} :
    s.takesIntr x = none ↔ x.intr = none ∨ s.flags.ifl = false ∨ s.intShadow = true := by
  unfold State.takesIntr
  cases s.flags.ifl <;> cases s.intShadow <;> simp

/-- Where no trap is pending, the one postponed before becomes pending as the instruction starts (R1340; log 29). -/
theorem State.beginInstruction_of_no_trap {s : State} (ht : s.pendingTrapDB = false) : s.beginInstruction =
    { s with intShadow := false, pendingTrapDB := s.trapPostponed, trapPostponed := false } := by
  simp [State.beginInstruction, ht]

section
variable {s : State} {x : BoundaryInput}

theorem boundary_reset (hr : x.reset = true) : boundary s x = .next s.resetTo := by simp [boundary, hr]

theorem boundary_shutdown (hr : x.reset = false) (hs : s.shutdown = true) : boundary s x = .next s := by
  simp [boundary, hr, hs]

variable (hr : x.reset = false) (hs : s.shutdown = false)
include hr hs

theorem boundary_trap (ht : s.pendingTrapDB = true) : boundary s x = deliverTrap s := by
  simp [boundary, hr, hs, ht]

variable (ht : s.pendingTrapDB = false)
include ht

theorem boundary_nmi (hn : s.takesNmi x = true) : boundary s x = deliverNmi s := by
  simp [boundary, hr, hs, ht, hn]

variable (hn : s.takesNmi x = false)
include hn

theorem boundary_intr {v : Byte} (hi : s.takesIntr x = some v) : boundary s x = deliverIntr s v := by
  simp [boundary, hr, hs, ht, hn, hi]

variable (hi : s.takesIntr x = none)
include hi

theorem boundary_halted (hh : s.halted = true) : boundary s x = .next s := by
  simp [boundary, hr, hs, ht, hn, hi, hh]

theorem boundary_instruction (hh : s.halted = false) : boundary s x = runInstruction s.beginInstruction := by
  simp [boundary, hr, hs, ht, hn, hi, hh]
end

/-- Settles O52: each clause is one case of the boundary, on the begun state. -/
theorem boundaryEvents : Obligations.BoundaryEvents := by
  intro s x c
  refine ⟨boundary_reset, boundary_shutdown (s := c), fun hr hs => ⟨boundary_trap (s := c) hr hs, fun ht => ?_⟩⟩
  refine ⟨?_, fun hn => ?_⟩
  · intro h1 h2 h3
    exact boundary_nmi (s := c) hr hs ht (State.takesNmi_iff.mpr ⟨h1, h2, h3⟩)
  have hn : c.takesNmi x = false := State.takesNmi_eq_false.mpr hn
  refine ⟨fun v h1 h2 h3 => ?_, fun hi => ?_⟩
  · exact boundary_intr (s := c) hr hs ht hn (State.takesIntr_eq_some.mpr ⟨h1, h2, h3⟩)
  have hi : c.takesIntr x = none := State.takesIntr_eq_none.mpr hi
  refine ⟨boundary_halted (s := c) hr hs ht hn hi, fun hh => ?_⟩
  rw [← State.beginInstruction_of_no_trap (s := c) ht]
  exact boundary_instruction (s := c) hr hs ht hn hi hh

/-! ## The instruction at the boundary -/

theorem runInstruction_of_decoded {s : State} {i : Instr} (h : decode s.decodeMode s.fetchByte = .ok i) :
    runInstruction s = exec i s := by
  simp [runInstruction, h]

theorem runInstruction_of_stopped {s : State} {d : DecodeStop Stop} {x : Exc}
    (h : decode s.decodeMode s.fetchByte = .error d) (hx : stopOf d = .raise x) :
    runInstruction s = deliverFault s x := by
  simp [runInstruction, h, hx]

/-- A byte is fetched past the limit check and the check of stored bytes, at its physical address (R230). -/
theorem State.fetchByte_eq (s : State) (k : Nat) : s.fetchByte k =
    if s.cs.limit.toNat < s.eip.toNat + k then
      .error (if s.pe = true then .raise (.gp 0#32) else .refuse .realModeLimit)
    else if (s.fetchAddr k).toNat ∈ s.smcDirty then .error (.refuse .smcHazard)
    else (s.phys .fetch (s.cpl == 3#2) (s.fetchAddr k)).map fun p => s.mem.read p := by
  unfold State.fetchByte
  split
  · split <;> rfl
  · simp only [List.contains_iff_mem]
    split
    · rfl
    · rw [isUser]
      cases s.phys .fetch (s.cpl == 3#2) (s.fetchAddr k) <;> rfl

/-- Settles O51: with no event the boundary comes to the instruction, and the decoder's answer says what it runs. -/
theorem stepRunsDecoded : Obligations.StepRunsDecoded := by
  intro s hq hs ht hh begun
  have hstep : step s = runInstruction begun := by
    obtain ⟨-, -, hevents⟩ := boundaryEvents s
    obtain ⟨-, hnotrap⟩ := hevents (by rw [hq]; rfl) hs
    obtain ⟨-, hnonmi⟩ := hnotrap ht
    obtain ⟨-, hnointr⟩ := hnonmi (.inl (by rw [hq]; rfl))
    exact (hnointr (.inl (by rw [hq]; rfl))).2 hh
  rw [hstep]
  exact ⟨fun i h => runInstruction_of_decoded h, fun h => runInstruction_of_stopped h rfl,
    fun x h => runInstruction_of_stopped h rfl, fun k => begun.fetchByte_eq k⟩

/-! ## RESET -/

/-- The general registers after RESET: all 0 but EDX (R195). -/
theorem Gpr.reset_get (r : BitVec 3) : Gpr.reset.get r = if r = 2#3 then Config.resetEdx else 0#32 := by
  rcases bv3_cases r with rfl | rfl | rfl | rfl | rfl | rfl | rfl | rfl <;> rfl

theorem State.reset_seg {r : SegReg} (h : r ≠ .cs) : State.reset.seg r = SegCache.resetData := by
  cases r with
  | cs => exact absurd rfl h
  | _ => rfl

theorem State.reset_fetchAddr : State.reset.fetchAddr 0 = 0xFFFFFFF0#32 := by decide

theorem Flags.reset_image : Flags.reset.image = 0x2#32 := by decide

/-- Settles O5: every value is the one `State.reset` lists; RESET is the first event of the boundary. -/
theorem resetState : Obligations.ResetState := by
  refine ⟨Gpr.reset_get, rfl, Flags.reset_image, rfl, fun r h => State.reset_seg h, ?_⟩
  refine ⟨rfl, rfl, rfl, rfl, rfl, rfl, rfl, rfl, ?_⟩
  refine ⟨rfl, rfl, rfl, rfl, rfl, rfl, rfl, rfl, ?_⟩
  refine ⟨rfl, rfl, rfl, rfl, rfl, rfl, rfl, rfl, ?_⟩
  exact ⟨State.reset_fetchAddr, fun s hr => boundary_reset hr⟩

end Sys2Proof.Machine
end

section
/-! PROOFS. MOV to and from the control registers, LMSW, SMSW and CLTS (R1128 to R1133). -/
namespace Sys2Proof.Machine
open Sys2Proof Sys2Proof.Claims

theorem exec_movCdRd (b : Bound) (c : ControlReg) (r : BitVec 3) (s : State) :
    exec (.movCdRd b c r) s = movToControl b c r s := rfl
theorem exec_movRdCd (b : Bound) (r : BitVec 3) (c : ControlReg) (s : State) :
    exec (.movRdCd b r c) s = movFromControl b r c s := rfl
theorem exec_lmswEw (b : Bound) (e : Rm) (s : State) : exec (.lmswEw b e) s = lmsw b e s := rfl
theorem exec_smswEw (b : Bound) (e : Rm) (s : State) : exec (.smswEw b e) s = smsw b e s := rfl
theorem exec_clts (b : Bound) (s : State) : exec (.clts b) s = clts b s := rfl

/-- The privilege check passes in real mode and at CPL 0 (R1361). -/
theorem State.privileged_ok {s : State} (h : s.pe = false ∨ s.cpl = 0#2) : s.privileged = .ok () := by
  rw [State.privileged, raiseIf_ok]
  rcases h with h | h <;> simp [h]

/-- The signals a conditional control change adds (R281). -/
theorem State.signalIf_eq (s : State) (c : Bool) : s.signalIf c =
    { s with pagingSignals := s.pagingSignals ++ if c then [.controlChange] else [] } := by
  cases c <;> simp [State.signalIf, State.signal]

/-! ## MOV Cd,Rd (R1131) -/

/-- CR0 values that no mode allows: PG without PE, NW without CD (R140). -/
theorem State.writeControl_cr0_invalid (s : State) {v : Word}
    (h : v.getLsbD 31 = true ∧ v.getLsbD 0 = false ∨ v.getLsbD 29 = true ∧ v.getLsbD 30 = false) :
    s.writeControl .cr0 v = .error (.raise (.gp 0#32)) := by
  simp only [State.writeControl, raiseIf_bind]
  rcases h with ⟨hpg, hpe⟩ | ⟨hnw, hcd⟩
  · rw [hpg, hpe]
    rfl
  · rw [hnw, hcd]
    exact ite_self _

/-- A CR0 value of a legal mode is refused for a reserved bit, else stored with ET 1 and signalled (R1131, R145). -/
theorem State.writeControl_cr0_valid (s : State) {v : Word} (hpg : ¬(v.getLsbD 31 = true ∧ v.getLsbD 0 = false))
    (hnw : ¬(v.getLsbD 29 = true ∧ v.getLsbD 30 = false)) : s.writeControl .cr0 v =
      if v &&& 0x1FFAFFC0#32 ≠ 0#32 then .error (.refuse .cr0Reserved)
      else .ok { s with
        cr0 := v ||| 0x10#32
        pagingSignals := s.pagingSignals ++ [.pgWrite (v.getLsbD 31)] ++
          if (s.cr0 ^^^ v) &&& 0x80010000#32 = 0#32 then [] else [.controlChange] } := by
  have h1 : (v.getLsbD 31 && !v.getLsbD 0) = false := by simpa using hpg
  have h2 : (v.getLsbD 29 && !v.getLsbD 30) = false := by simpa using hnw
  simp only [State.writeControl, h1, h2, raiseIf_false, except_ok_bind, refuseIf_bind, State.signalIf_eq, State.signal,
    bne_iff_ne, ne_eq, ite_not, except_pure]

/-- A CR4 value raises for a bit that does not exist, is refused for VME and PVI, else stored and signalled (R143). -/
theorem State.writeControl_cr4 (s : State) (v : Word) : s.writeControl .cr4 v =
    if v &&& 0xFFFFFE00#32 ≠ 0#32 then .error (.raise (.gp 0#32))
    else if v &&& 3#32 ≠ 0#32 then .error (.refuse .vmeUnsupported)
    else .ok { s with
      cr4 := v
      pagingSignals := s.pagingSignals ++ if (s.cr4 ^^^ v) &&& 0xB0#32 = 0#32 then [] else [.controlChange] } := by
  simp only [State.writeControl, raiseIf_bind, refuseIf_bind, State.signalIf_eq, bne_iff_ne, ne_eq, ite_not,
    except_pure]

section
variable {b : Bound} {s : State} {r : BitVec 3} (hp : s.pe = false ∨ s.cpl = 0#2)
include hp

/-- A MOV to a control register ends as its write does. -/
theorem movToControl_eq (c : ControlReg) : movToControl b c r s =
    complete b s ((s.writeControl c (s.gpr.get r)).map fun t => t.flagsUndefined.serialise) := by
  simp only [movToControl, State.privileged_ok hp, except_ok_bind]
  cases s.writeControl c (s.gpr.get r) <;> rfl

theorem movToControl_of_ok {c : ControlReg} {t : State} (h : s.writeControl c (s.gpr.get r) = .ok t)
    (heip : t.eip = s.eip) : movToControl b c r s = .next (done b s t.flagsUndefined.serialise) := by
  rw [movToControl_eq hp, h]
  exact complete_eq_done b heip

theorem movToControl_of_raise {c : ControlReg} {x : Exc} (h : s.writeControl c (s.gpr.get r) = .error (.raise x)) :
    movToControl b c r s = deliverFault s x := by
  rw [movToControl_eq hp, h]
  rfl

theorem movToControl_of_refuse {c : ControlReg} {x : Refusal}
    (h : s.writeControl c (s.gpr.get r) = .error (.refuse x)) : movToControl b c r s = .refused x := by
  rw [movToControl_eq hp, h]
  rfl

theorem movFromControl_eq (c : ControlReg) : movFromControl b r c s =
    .next (done b s ((s.setReg .w32 r (s.control c)).setFlags (s.flags.undefined s.flagDraws))) := by
  simp only [movFromControl, State.privileged_ok hp, except_ok_bind]
  exact complete_eq_done b rfl

theorem lmsw_eq {e : Rm} {x : Half} (h : s.readLoc .w16 (s.loc b e) = .ok x) : lmsw b e s = .next (done b s { s with
    cr0 := (s.cr0 &&& 0xFFFFFFF1#32) ||| (BitVec.setWidth 32 x &&& 0xF#32), smcDirty := [] }) := by
  simp only [lmsw, State.privileged_ok hp, h, except_ok_bind]
  exact complete_eq_done b rfl

theorem clts_eq : clts b s = .next (done b s { s with cr0 := s.cr0 &&& 0xFFFFFFF7#32, smcDirty := [] }) := by
  simp only [clts, State.privileged_ok hp, except_ok_bind]
  exact complete_eq_done b rfl
end

/-! ## The bits LMSW and CLTS write (R1128, R1130) -/

/-- LMSW can set PE and writes MP, EM and TS. -/
theorem getLsbD_lmsw (c : Word) (x : Half) : ∀ j < 32,
    ((c &&& 0xFFFFFFF1#32) ||| (BitVec.setWidth 32 x &&& 0xF#32)).getLsbD j =
      if j = 0 then c.getLsbD 0 || x.getLsbD 0 else if j < 4 then x.getLsbD j else c.getLsbD j := by
  have hkeep : ∀ j < 32, (0xFFFFFFF1#32).getLsbD j = (decide (j = 0) || !decide (j < 4)) := by decide
  have hload : ∀ j < 32, (0xF#32).getLsbD j = decide (j < 4) := by decide
  intro j hj
  rw [BitVec.getLsbD_or, BitVec.getLsbD_and, BitVec.getLsbD_and, hkeep j hj, hload j hj, BitVec.getLsbD_setWidth]
  by_cases h0 : j = 0
  · subst h0
    cases c.getLsbD 0 <;> cases x.getLsbD 0 <;> rfl
  · by_cases h4 : j < 4
    · simp only [h0, h4, hj, decide_true, decide_false, Bool.not_true, Bool.or_false, Bool.and_false, Bool.and_true,
        Bool.true_and, Bool.false_or, if_true, if_false]
    · simp only [h0, h4, decide_false, Bool.not_false, Bool.false_or, Bool.and_true, Bool.and_false, Bool.or_false,
        if_false]

theorem getLsbD_clts (c : Word) : ∀ j < 32, (c &&& 0xFFFFFFF7#32).getLsbD j = (c.getLsbD j && decide (j ≠ 3)) := by
  have hkeep : ∀ j < 32, (0xFFFFFFF7#32).getLsbD j = decide (j ≠ 3) := by decide
  intro j hj
  rw [BitVec.getLsbD_and, hkeep j hj]

/-! ## SMSW (R1129) -/

/-- A selector-sized value into a register: the upper half of a 32-bit slot is a draw (R810; log 3). -/
theorem State.storeSelector_reg (s : State) (b : Bound) (q : BitVec 3) (v : Half) : s.storeSelector b (.reg q) v =
    .ok (if b.osz = .s16 then s.setReg .w16 q v else s.setReg .w32 q (s.drawHalf ++ v)) := by
  simp only [State.storeSelector, State.loc, resolve]
  cases b.osz <;> rfl

theorem State.storeSelector_mem (s : State) (b : Bound) (a : Addr) (v : Half) : s.storeSelector b (.mem a) v =
    s.segWrite (a.segment b) (a.offset s.gpr) 2 v.toNat := rfl

/-- Settles O47: the privilege check passes; each instruction then ends as its write of the control register does. -/
theorem controlRegisters : Obligations.ControlRegisters := by
  intro b s e r v free changed
  simp only [exec_movCdRd, exec_movRdCd, exec_lmswEw, exec_smswEw, exec_clts]
  refine ⟨fun hp => ⟨?cr0Invalid, ?cr0Valid, ?cr2, ?cr3, ?cr4, ?read, ?lmsw, ?clts⟩, ?smswReg, ?smswMem⟩
  case cr0Invalid => exact fun h => movToControl_of_raise hp (s.writeControl_cr0_invalid h)
  case cr0Valid =>
    intro hpg hnw
    have hw := s.writeControl_cr0_valid hpg hnw
    split at hw
    · next hr => rw [if_pos hr, movToControl_of_refuse hp hw]
    · next hr =>
      rw [if_neg hr, movToControl_of_ok hp hw rfl]
      rfl
  case cr2 => exact movToControl_of_ok hp (c := .cr2) rfl rfl
  case cr3 => exact movToControl_of_ok hp (c := .cr3) rfl rfl
  case cr4 =>
    have hw := s.writeControl_cr4 v
    split at hw
    · next hr => rw [if_pos hr, movToControl_of_raise hp hw]
    · next hr =>
      rw [if_neg hr]
      split at hw
      · next hv => rw [if_pos hv, movToControl_of_refuse hp hw]
      · next hv =>
        rw [if_neg hv, movToControl_of_ok hp hw rfl]
        rfl
  case read =>
    intro p hmem
    simp only [List.mem_cons, List.not_mem_nil, or_false] at hmem
    rcases hmem with rfl | rfl | rfl | rfl <;> exact movFromControl_eq hp _
  case lmsw => exact fun x hx => ⟨_, lmsw_eq hp hx, getLsbD_lmsw s.cr0 x⟩
  case clts => exact ⟨_, clts_eq hp, getLsbD_clts s.cr0⟩
  case smswReg =>
    intro q
    rw [smsw, State.storeSelector_reg]
    exact complete_eq_done b (by split <;> rfl)
  case smswMem =>
    intro a t ht
    rw [smsw, State.storeSelector_mem, BitVec.toNat_setWidth, ht]
    exact complete_eq_done b (by rw [State.segWrite_only ht])

end Sys2Proof.Machine
end

section
/-! PROOFS. The readers of the decoder give back what the encoder wrote (R310, R320, R322, R323, R330). -/
namespace Sys2Proof
open Sys2Proof.Machine (except_ok_bind except_pure and_ffff)

variable {ε : Type} {p : Port ε}

/-! ## Bytes that stand at a port -/

/-- These bytes stand at the port from index k on, none of them past the fifteenth (R307). -/
def Port.Holds (p : Port ε) : Nat → List Byte → Prop
  | _, [] => True
  | k, b :: bs => readByte p k = .ok b ∧ p.Holds (k + 1) bs

@[simp] theorem Port.holds_nil (k : Nat) : p.Holds k [] := trivial

@[simp] theorem Port.holds_cons {k : Nat} {b : Byte} {bs : List Byte} :
    p.Holds k (b :: bs) ↔ readByte p k = .ok b ∧ p.Holds (k + 1) bs := .rfl

theorem Port.holds_append {k : Nat} {as bs : List Byte} :
    p.Holds k (as ++ bs) ↔ p.Holds k as ∧ p.Holds (k + as.length) bs := by
  induction as generalizing k with
  | nil => simp
  | cons a as ih => simp [ih, and_assoc, Nat.add_assoc, Nat.add_comm 1]

/-- The first fifteen bytes of a list stand at its port, whatever follows them. -/
theorem listPort_holds (pre bs rest : List Byte) (h : pre.length + bs.length ≤ 15) :
    (listPort (pre ++ bs ++ rest)).Holds pre.length bs := by
  induction bs generalizing pre with
  | nil => simp
  | cons b bs ih =>
    rw [List.length_cons] at h
    refine ⟨?_, ?_⟩
    · rw [readByte, if_neg (by omega)]
      simp [listPort]
    · simpa using ih (pre ++ [b]) (by rw [List.length_append, List.length_singleton]; omega)

/-! ## Little-endian values -/

theorem half_of_bytes (h : Half) : h.extractLsb' 8 8 ++ h.setWidth 8 = h := by
  ext i hi
  rw [BitVec.getElem_append]
  split <;> simp <;> grind

theorem word_of_halves (w : Word) : w.extractLsb' 16 16 ++ w.setWidth 16 = w := by
  ext i hi
  rw [BitVec.getElem_append]
  split <;> simp <;> grind

theorem leWord_eq (w : Word) : leWord w = leHalf (w.setWidth 16) ++ leHalf (w.extractLsb' 16 16) := by
  simp only [leWord, leHalf, List.cons_append, List.nil_append, List.cons.injEq, and_true]
  refine ⟨?_, ?_, ?_, ?_⟩ <;> ext i hi <;> simp <;> grind

@[simp] theorem leHalf_length (h : Half) : (leHalf h).length = 2 := rfl

@[simp] theorem leSized_length (z : Size) (v : Word) : (leSized z v).length = z.bytes := by cases z <;> rfl

theorem readHalf_of_holds {k : Nat} {h : Half} (hh : p.Holds k (leHalf h)) : readHalf p k = .ok (h, k + 2) := by
  obtain ⟨h0, h1, -⟩ := hh
  simp only [readHalf, h0, h1, except_ok_bind, half_of_bytes, except_pure]

theorem readWord_of_holds {k : Nat} {w : Word} (hw : p.Holds k (leWord w)) : readWord p k = .ok (w, k + 4) := by
  rw [leWord_eq, Port.holds_append] at hw
  obtain ⟨h0, h1⟩ := hw
  rw [leHalf_length] at h1
  simp only [readWord, readHalf_of_holds h0, readHalf_of_holds h1, except_ok_bind, word_of_halves, except_pure]

theorem and_eq_of_and_not_eq_zero {v m : Word} (h : v &&& ~~~m = 0#32) : v &&& m = v := by
  ext i hi
  have hi := congrArg (·[i]) h
  simp only [BitVec.getElem_and, BitVec.getElem_not, BitVec.getElem_zero] at hi ⊢
  grind

/-- A value that fits its size is read back from its bytes (R330). -/
theorem readSized_of_holds {z : Size} {k : Nat} {v : Word} (hv : z.fits v = true) (h : p.Holds k (leSized z v)) :
    readSized p z k = .ok (v, k + z.bytes) := by
  cases z with
  | s16 =>
    have hcut : (v.setWidth 16 : Half).setWidth 32 = v := by
      rw [← and_ffff]
      exact and_eq_of_and_not_eq_zero (m := Size.s16.mask) (beq_iff_eq.mp hv)
    simp only [readSized, readHalf_of_holds h, except_ok_bind, hcut, except_pure]
  | s32 => exact readWord_of_holds h

/-! ## The r/m operand (R310, R320, R322, R323) -/

theorem modrmByte_mod (mod : BitVec 2) (reg rm : BitVec 3) : (modrmByte mod reg rm).extractLsb' 6 2 = mod := by
  revert mod reg rm
  decide

theorem modrmByte_reg (mod : BitVec 2) (reg rm : BitVec 3) : (modrmByte mod reg rm).extractLsb' 3 3 = reg := by
  revert mod reg rm
  decide

theorem modrmByte_rm (mod : BitVec 2) (reg rm : BitVec 3) : (modrmByte mod reg rm).setWidth 3 = rm := by
  revert mod reg rm
  decide

theorem sibByte_ss (ss : BitVec 2) (index base : BitVec 3) : (sibByte ss index base).extractLsb' 6 2 = ss :=
  modrmByte_mod ss index base

theorem sibByte_index (ss : BitVec 2) (index base : BitVec 3) : (sibByte ss index base).extractLsb' 3 3 = index :=
  modrmByte_reg ss index base

theorem sibByte_base (ss : BitVec 2) (index base : BitVec 3) : (sibByte ss index base).setWidth 3 = base :=
  modrmByte_rm ss index base

theorem Disp16.mod_ne (d : Disp16) : d.mod ≠ 3#2 := by cases d <;> simp [Disp16.mod]

theorem Disp32.mod_ne (d : Disp32) : d.mod ≠ 3#2 := by cases d <;> simp [Disp32.mod]

theorem Disp16.mod_beq_zero (d : Disp16) : (d.mod == 0#2) = (d == .none) := by cases d <;> rfl

theorem Disp32.mod_beq_zero (d : Disp32) : (d.mod == 0#2) = (d == .none) := by cases d <;> rfl

theorem readDisp16_of_holds {k : Nat} {d : Disp16} (h : p.Holds k d.bytes) :
    readDisp16 p d.mod k = .ok (d, k + d.bytes.length) := by
  cases d with
  | none => rfl
  | d8 d =>
    obtain ⟨h0, -⟩ := h
    show (readByte p k >>= _) = _
    rw [h0]
    rfl
  | d16 d =>
    show (readHalf p k >>= _) = _
    rw [readHalf_of_holds h]
    rfl

theorem readDisp32_of_holds {k : Nat} {d : Disp32} (h : p.Holds k d.bytes) :
    readDisp32 p d.mod k = .ok (d, k + d.bytes.length) := by
  cases d with
  | none => rfl
  | d8 d =>
    obtain ⟨h0, -⟩ := h
    show (readByte p k >>= _) = _
    rw [h0]
    rfl
  | d32 d =>
    show (readWord p k >>= _) = _
    rw [readWord_of_holds h]
    rfl

/-- A memory operand of this address size is a ModRM byte and a tail that is read back, whatever the reg field. -/
theorem Addr.encode_read {asz : Size} {a : Addr} (hwf : a.wf asz = true) (reg : BitVec 3) :
    ∃ mod rm tail, a.encode reg = modrmByte mod reg rm :: tail ∧ mod ≠ 3#2 ∧
      ∀ k, p.Holds k tail → readAddr p asz mod rm k = .ok (a, k + tail.length) := by
  cases a with
  | a16 rm d =>
    simp only [Addr.wf, Bool.and_eq_true, beq_iff_eq] at hwf
    obtain ⟨rfl, hd⟩ := hwf
    refine ⟨d.mod, rm, d.bytes, rfl, d.mod_ne, fun k h => ?_⟩
    have hrm : (d.mod == 0#2 && rm == 6#3) = false := by rw [d.mod_beq_zero]; grind
    simp only [readAddr, hrm, readDisp16_of_holds h, except_ok_bind, except_pure, Bool.false_eq_true, if_false]
  | abs16 d =>
    simp only [Addr.wf, beq_iff_eq] at hwf
    subst hwf
    refine ⟨0, 6, leHalf d, rfl, by decide, fun k h => ?_⟩
    show (readHalf p k >>= _) = _
    rw [readHalf_of_holds h]
    rfl
  | a32 rm d =>
    simp only [Addr.wf, Bool.and_eq_true, beq_iff_eq, bne_iff_ne, ne_eq] at hwf
    obtain ⟨⟨rfl, h4⟩, hd⟩ := hwf
    refine ⟨d.mod, rm, d.bytes, rfl, d.mod_ne, fun k h => ?_⟩
    have hrm : (d.mod == 0#2 && rm == 5#3) = false := by rw [d.mod_beq_zero]; grind
    simp only [readAddr, beq_eq_false_iff_ne.mpr h4, hrm, readDisp32_of_holds h, except_ok_bind, except_pure,
      Bool.false_eq_true, if_false]
  | abs32 d =>
    simp only [Addr.wf, beq_iff_eq] at hwf
    subst hwf
    refine ⟨0, 5, leWord d, rfl, by decide, fun k h => ?_⟩
    show (readWord p k >>= _) = _
    rw [readWord_of_holds h]
    rfl
  | sib ss index base d =>
    simp only [Addr.wf, Bool.and_eq_true, beq_iff_eq] at hwf
    obtain ⟨rfl, hd⟩ := hwf
    refine ⟨d.mod, 4, sibByte ss index base :: d.bytes, rfl, d.mod_ne, fun k h => ?_⟩
    obtain ⟨h0, h1⟩ := h
    have hbase : (d.mod == 0#2 && base == 5#3) = false := by rw [d.mod_beq_zero]; grind
    simp only [readAddr, h0, sibByte_ss, sibByte_index, sibByte_base, hbase, readDisp32_of_holds h1, except_ok_bind,
      except_pure, Bool.false_eq_true, if_false, List.length_cons, Nat.add_assoc, Nat.add_comm 1]
    rfl
  | sibAbs ss index d =>
    simp only [Addr.wf, beq_iff_eq] at hwf
    subst hwf
    refine ⟨0, 4, sibByte ss index 5 :: leWord d, rfl, by decide, fun k h => ?_⟩
    obtain ⟨h0, h1⟩ := h
    simp only [readAddr, h0, sibByte_ss, sibByte_index, sibByte_base, readWord_of_holds h1, except_ok_bind, except_pure]
    rfl

/-- An r/m operand is a ModRM byte with its reg field, and bytes from which it is read back (R310). -/
theorem readRm_of_holds {use : ModrmUse} {asz : Size} {reg : BitVec 3} {e : Rm} {k : Nat} (hwf : e.wf asz = true)
    (huse : use = .regOnly → e.isMem = false) (h : p.Holds k (e.encode reg)) :
    ∃ mb, readByte p k = .ok mb ∧ mb.extractLsb' 3 3 = reg ∧ (mb.extractLsb' 6 2 == 3#2) = !e.isMem ∧
      readRm p use asz mb (k + 1) = .ok (e, k + (e.encode reg).length) := by
  cases e with
  | reg r =>
    obtain ⟨h0, -⟩ := h
    refine ⟨_, h0, modrmByte_reg _ _ _, by rw [modrmByte_mod]; rfl, ?_⟩
    rw [readRm, modrmByte_mod, modrmByte_rm, if_pos (by rw [Bool.or_eq_true]; exact .inr rfl)]
    rfl
  | mem a =>
    obtain ⟨mod, rm, tail, henc, hmod, hread⟩ := Addr.encode_read (p := p) hwf reg
    rw [Rm.encode, henc] at h ⊢
    obtain ⟨h0, h1⟩ := h
    have huse : use ≠ .regOnly := fun h => Bool.noConfusion (huse h)
    refine ⟨_, h0, modrmByte_reg _ _ _, by rw [modrmByte_mod]; exact beq_eq_false_iff_ne.mpr hmod, ?_⟩
    simp only [readRm, modrmByte_mod, modrmByte_rm, beq_eq_false_iff_ne.mpr huse, beq_eq_false_iff_ne.mpr hmod, hread _ h1,
      except_ok_bind, except_pure, Bool.or_false, Bool.false_eq_true, if_false, List.length_cons, Nat.add_assoc,
      Nat.add_comm 1]

/-! ## The immediate (R330) -/

/-- How a row reads this immediate. -/
def Imm.use : Imm → ImmUse
  | .none => .none
  | .ib _ => .ib
  | .iw _ => .iw
  | .iz _ => .iz
  | .moffs _ => .moffs
  | .ap _ _ => .ap
  | .iwib _ _ => .iwib

theorem readImm_of_holds {osz asz : Size} {imm : Imm} {k : Nat} (hwf : imm.wf osz asz = true)
    (h : p.Holds k (imm.encode osz asz)) :
    readImm p imm.use osz asz k = .ok (imm, k + (imm.encode osz asz).length) := by
  cases imm with
  | none => rfl
  | ib b =>
    obtain ⟨h0, -⟩ := h
    simp only [readImm, Imm.use, h0, except_ok_bind, except_pure]
    rfl
  | iw h' =>
    simp only [readImm, Imm.use, readHalf_of_holds h, except_ok_bind, except_pure]
    rfl
  | iz v => simp only [readImm, Imm.use, readSized_of_holds hwf h, except_ok_bind, except_pure, Imm.encode, leSized_length]
  | moffs v =>
    simp only [readImm, Imm.use, readSized_of_holds hwf h, except_ok_bind, except_pure, Imm.encode, leSized_length]
  | ap off sel =>
    obtain ⟨h0, h1⟩ := Port.holds_append.mp h
    rw [leSized_length] at h1
    simp only [readImm, Imm.use, readSized_of_holds hwf h0, readHalf_of_holds h1, except_ok_bind, except_pure, Imm.encode,
      List.length_append, leSized_length, leHalf_length, Nat.add_assoc]
  | iwib h' b =>
    obtain ⟨h0, h1, -⟩ := Port.holds_append.mp h
    rw [leHalf_length] at h1
    simp only [readImm, Imm.use, readHalf_of_holds h0, h1, except_ok_bind, except_pure]
    rfl

end Sys2Proof
end

section
/-! PROOFS. The decoder's first stage on the prefixes the encoder wrote (R301, R302, R305). -/
namespace Sys2Proof
open Sys2Proof.Machine (except_ok_bind except_pure)

/-- The prefixes noted after these bytes, all of which are prefixes (R301). -/
def Prefixes.addBytes : Prefixes → List Byte → Option Prefixes
  | x, [] => some x
  | x, b :: bs => ((PrefixByte.ofByte b).bind x.add).bind fun y => y.addBytes bs

theorem Prefixes.addBytes_append (x : Prefixes) (as bs : List Byte) :
    x.addBytes (as ++ bs) = (x.addBytes as).bind fun y => y.addBytes bs := by
  induction as generalizing x with
  | nil => rfl
  | cons a as ih => simp only [List.cons_append, addBytes, ih, Option.bind_assoc]

/-- A byte that repeats one of the prefixes changes nothing (R302). -/
theorem Prefixes.add_again {x y : Prefixes} {q : PrefixByte} (h : x.add q = some y) : y.add q = some y := by
  cases q with
  | osz => simp only [add, Option.some.injEq] at h ⊢; rw [← h]
  | asz => simp only [add, Option.some.injEq] at h ⊢; rw [← h]
  | lock | repne | rep | seg =>
    simp only [add, Option.ite_none_right_eq_some, Option.ite_none_left_eq_some, Option.some.injEq] at h ⊢
    obtain ⟨hc, rfl⟩ := h
    simp_all

/-- The first of the prefixes may be repeated (R302). -/
theorem Prefixes.addBytes_replicate {x y : Prefixes} {b : Byte} {bs : List Byte} (n : Nat)
    (h : x.addBytes (b :: bs) = some y) : x.addBytes (List.replicate n b ++ b :: bs) = some y := by
  induction n generalizing x with
  | zero => exact h
  | succ n ih =>
    simp only [addBytes, Option.bind_eq_some_iff] at h
    obtain ⟨z, ⟨q, hq, hz⟩, hrest⟩ := h
    have hagain : z.addBytes (b :: bs) = some y := by
      simp only [addBytes, hq, Option.bind_some, add_again hz, hrest]
    simp only [List.replicate_succ, List.cons_append, addBytes, hq, Option.bind_some, hz, ih hagain]

theorem Prefixes.addBytes_osz (x : Prefixes) (c : Bool) :
    x.addBytes (byteIf c 0x66) = some { x with osz := x.osz || c } := by
  obtain ⟨_, _, _, osz, _⟩ := x
  cases c <;> cases osz <;> rfl

theorem Prefixes.addBytes_asz (x : Prefixes) (c : Bool) :
    x.addBytes (byteIf c 0x67) = some { x with asz := x.asz || c } := by
  obtain ⟨_, _, _, _, asz⟩ := x
  cases c <;> cases asz <;> rfl

theorem Prefixes.addBytes_override (x : Prefixes) (h : x.seg = none) (o : Option SegReg) :
    x.addBytes (overrideBytes o) = some { x with seg := o } := by
  obtain ⟨_, _, _, _, _⟩ := x
  subst h
  rcases o with _ | r
  · rfl
  · cases r <;> rfl

/-- LOCK, F2 and F3, one of them at most (R302). -/
theorem Prefixes.addBytes_lock_rep {l : Bool} {r : Rep} (h : l = true → r = .none) :
    Prefixes.empty.addBytes (byteIf l 0xF0 ++ r.bytes) = some ⟨l, r, none, false, false⟩ := by
  cases l with
  | false => cases r <;> rfl
  | true => rw [h rfl]; rfl

/-- The prefixes the encoder writes give the attributes back (R301, R305). -/
theorem Prefixes.addBytes_prefixes (m : DecodeMode) {b : Bound} (h : b.lock = true → b.rep = .none) :
    Prefixes.empty.addBytes (b.prefixes m) = some ⟨b.lock, b.rep, b.seg, b.osz != m.size, b.asz != m.size⟩ := by
  rw [Bound.prefixes, ← List.append_assoc, addBytes_append, addBytes_lock_rep h, Option.bind_some, addBytes_append,
    addBytes_override _ rfl, Option.bind_some, addBytes_append, addBytes_osz, Option.bind_some, addBytes_asz]
  simp only [Bool.false_or]

theorem DecodeMode.sized_bne_size (m : DecodeMode) (z : Size) : m.sized (z != m.size) = z := by
  obtain ⟨db, _, _⟩ := m
  cases db <;> cases z <;> rfl

/-- The first stage reads the prefixes and the byte after them (R301, R360). -/
theorem readPrefixes_of_holds {ε : Type} {p : Port ε} {bs : List Byte} {b : Byte} {fuel k : Nat} {x y : Prefixes}
    (h : p.Holds k (bs ++ [b])) (hb : PrefixByte.ofByte b = none) (hx : x.addBytes bs = some y) (hf : bs.length < fuel) :
    readPrefixes p fuel k x = .ok (y, b, k + bs.length + 1) := by
  induction bs generalizing fuel k x with
  | nil =>
    obtain ⟨fuel, rfl⟩ := Nat.exists_eq_add_of_lt hf
    obtain ⟨h0, -⟩ := h
    simp only [Prefixes.addBytes, Option.some.injEq] at hx
    simp only [List.length_nil, Nat.zero_add, readPrefixes, h0, except_ok_bind, hb, except_pure, hx, Nat.add_zero]
  | cons a bs ih =>
    obtain ⟨fuel, rfl⟩ := Nat.exists_eq_add_of_lt hf
    obtain ⟨h0, hrest⟩ := h
    simp only [Prefixes.addBytes, Option.bind_eq_some_iff] at hx
    obtain ⟨z, ⟨q, hq, hz⟩, hx⟩ := hx
    simp only [readPrefixes, h0, except_ok_bind, hq, hz]
    rw [ih hrest hx (by rw [List.length_cons]; omega), List.length_cons, Nat.add_assoc k 1, Nat.add_comm 1]

end Sys2Proof
end

section
/-! PROOFS. The opcode table: the row of every instruction, and that no two rows take one encoding (R340 to R342). -/
namespace Sys2Proof
open Sys2Proof.Machine (except_ok_bind)

/-! ## Rows are disjoint -/

/-- The row stands under this escape and opcode byte (R340, R342). -/
def Row.covers (r : Row) (esc : Bool) (op : Byte) : Bool := r.esc == esc && (op &&& r.mask) == r.op

theorem mem_rowsFor {esc : Bool} {op : Byte} {r : Row} :
    r ∈ rowsFor esc op ↔ r ∈ opTable ∧ r.covers esc op = true := List.mem_filter

/-- An escape, an opcode byte and a reg field as one number. -/
def codePoint (esc : Bool) (op : Byte) (reg : BitVec 3) : Nat := (esc.toNat * 256 + op.toNat) * 8 + reg.toNat

/-- The code points a row takes, as the bits of a number: an interval, since a mask clears low bits only. -/
def Row.codes (r : Row) : Nat :=
  let size := (255 - r.mask.toNat) * 8 + if r.ext.isSome then 1 else 8
  (2 ^ size - 1) <<< codePoint r.esc r.op (r.ext.getD 0)

theorem and_mask_bounds (a m : Byte) : (a &&& m).toNat ≤ a.toNat ∧ a.toNat ≤ (a &&& m).toNat + (255 - m.toNat) := by
  have hsum : (a &&& m) + (a &&& ~~~m) = a := by
    rw [BitVec.add_eq_or_of_and_eq_zero _ _ (by ext i hi; simp; grind)]
    ext i hi
    simp only [BitVec.getElem_or, BitVec.getElem_and, BitVec.getElem_not]
    grind
  have hlow : (a &&& ~~~m).toNat ≤ 255 - m.toNat := by
    rw [BitVec.toNat_and, BitVec.toNat_not]
    exact Nat.and_le_right
  refine ⟨?_, ?_⟩
  · rw [BitVec.toNat_and]
    exact Nat.and_le_left
  · calc a.toNat = ((a &&& m) + (a &&& ~~~m)).toNat := by rw [hsum]
      _ ≤ (a &&& m).toNat + (a &&& ~~~m).toNat := by rw [BitVec.toNat_add]; exact Nat.mod_le _ _
      _ ≤ _ := by omega

theorem Row.testBit_codes {r : Row} {esc : Bool} {op : Byte} {reg : BitVec 3} (hm : r.covers esc op = true)
    (ht : r.takes reg = true) : r.codes.testBit (codePoint esc op reg) = true := by
  simp only [covers, Bool.and_eq_true, beq_iff_eq] at hm
  obtain ⟨hesc, hop⟩ := hm
  obtain ⟨hlo, hhi⟩ := and_mask_bounds op r.mask
  rw [hop] at hlo hhi
  simp only [codes, Nat.testBit_shiftLeft, Nat.testBit_two_pow_sub_one, Bool.and_eq_true, decide_eq_true_eq, ge_iff_le,
    codePoint, hesc]
  cases hx : r.ext with
  | none =>
    simp only [Option.isSome_none, Option.getD_none, Bool.false_eq_true, if_false]
    have : (0 : BitVec 3).toNat = 0 := rfl
    omega
  | some x =>
    simp only [takes, hx, beq_iff_eq] at ht
    simp only [Option.isSome_some, Option.getD_some, if_true, ht]
    omega

/-- No bit stands in two of these numbers, nor in one of them and in acc. -/
def disjointBits : Nat → List Nat → Bool
  | _, [] => true
  | acc, n :: ns => (acc &&& n) == 0 && disjointBits (acc ||| n) ns

theorem disjointBits_pairwise {acc : Nat} {ns : List Nat} (h : disjointBits acc ns = true) :
    (∀ n ∈ ns, acc &&& n = 0) ∧ ns.Pairwise fun n k => n &&& k = 0 := by
  induction ns generalizing acc with
  | nil => exact ⟨by simp, .nil⟩
  | cons n ns ih =>
    simp only [disjointBits, Bool.and_eq_true, beq_iff_eq] at h
    obtain ⟨hacc, hrest⟩ := ih h.2
    simp only [Nat.and_or_distrib_right, Nat.or_eq_zero_iff] at hacc
    exact ⟨List.forall_mem_cons.mpr ⟨h.1, fun k hk => (hacc k hk).1⟩, hrest.cons fun k hk => (hacc k hk).2⟩

theorem opTable_disjoint : disjointBits 0 (opTable.map Row.codes) = true := by decide +kernel

/-- The rows of groups have a ModRM byte. -/
theorem opTable_group_modrm {r : Row} (hr : r ∈ opTable) (hx : r.ext ≠ none) : (r.modrm == .absent) = false := by
  have h : opTable.all (fun r => r.ext.isNone || r.modrm != .absent) = true := by decide +kernel
  simpa [hx] using List.all_eq_true.mp h r hr

theorem Row.takes_of_ext_eq_none {r : Row} (hx : r.ext = none) (reg : BitVec 3) : r.takes reg = true := by
  rw [takes, hx]

theorem Row.exists_takes (r : Row) : ∃ reg, r.takes reg = true := by
  cases hx : r.ext with
  | none => exact ⟨0, takes_of_ext_eq_none hx 0⟩
  | some x => exact ⟨x, by simp [takes, hx]⟩
/-- Two rows that take one encoding are one row. -/
theorem opTable_pairwise : opTable.Pairwise fun r q => ∀ esc op reg,
    ¬(r.covers esc op = true ∧ r.takes reg = true ∧ q.covers esc op = true ∧ q.takes reg = true) := by
  have h := (disjointBits_pairwise opTable_disjoint).2
  rw [List.pairwise_map] at h
  refine h.imp fun {r q} hrq esc op reg ⟨hr, hr', hq, hq'⟩ => ?_
  have hbit : (r.codes &&& q.codes).testBit (codePoint esc op reg) = true := by
    rw [Nat.testBit_and, r.testBit_codes hr hr', q.testBit_codes hq hq', Bool.and_self]
  rw [hrq, Nat.zero_testBit] at hbit
  exact Bool.noConfusion hbit

/-- In a list whose elements exclude each other, the one that passes is the one found. -/
theorem find?_of_pairwise {α : Type} {P : α → Bool} {l : List α} {a : α}
    (hl : l.Pairwise fun x y => ¬(P x = true ∧ P y = true)) (ha : a ∈ l) (hP : P a = true) : l.find? P = some a := by
  induction l with
  | nil => cases ha
  | cons x l ih =>
    obtain ⟨hx, hl⟩ := List.pairwise_cons.mp hl
    rcases List.mem_cons.mp ha with rfl | ha
    · exact List.find?_cons_of_pos hP
    · rw [List.find?_cons_of_neg fun h => hx a ha ⟨h, hP⟩]
      exact ih hl ha

/-- The row of an encoding is the one the decoder finds (R341). -/
theorem find?_rowsFor {esc : Bool} {op : Byte} {reg : BitVec 3} {r : Row} (hr : r ∈ opTable) (hc : r.covers esc op = true)
    (ht : r.takes reg = true) : (rowsFor esc op).find? (·.takes reg) = some r := by
  refine find?_of_pairwise (List.Pairwise.imp_of_mem ?_ (opTable_pairwise.filter _)) (mem_rowsFor.mpr ⟨hr, hc⟩) ht
  intro q t hq ht' h ⟨hq', ht''⟩
  exact h esc op reg ⟨(mem_rowsFor.mp hq).2, hq', (mem_rowsFor.mp ht').2, ht''⟩

/-- The rows under one opcode agree on whether a ModRM byte stands. -/
theorem modrm_absent_rowsFor {esc : Bool} {op : Byte} {r q : Row} (hr : r ∈ rowsFor esc op) (hq : q ∈ rowsFor esc op) :
    (q.modrm == .absent) = (r.modrm == .absent) := by
  obtain ⟨hr, hcr⟩ := mem_rowsFor.mp hr
  obtain ⟨hq, hcq⟩ := mem_rowsFor.mp hq
  have hsame : ∀ reg, r.takes reg = true → q.takes reg = true → q = r := fun reg hr' hq' => by
    have h := find?_rowsFor hr hcr hr'
    rw [find?_rowsFor hq hcq hq'] at h
    exact Option.some.inj h
  by_cases hrx : r.ext = none
  · obtain ⟨reg, hq'⟩ := q.exists_takes
    rw [hsame reg (Row.takes_of_ext_eq_none hrx reg) hq']
  by_cases hqx : q.ext = none
  · obtain ⟨reg, hr'⟩ := r.exists_takes
    rw [hsame reg hr' (Row.takes_of_ext_eq_none hqx reg)]
  · rw [opTable_group_modrm hr hrx, opTable_group_modrm hq hqx]

/-! ## What decoding gives when a row is found (R360) -/

theorem readModrm_congr {ε : Type} (p : Port ε) {u v : ModrmUse} (h : (u == .absent) = (v == .absent)) (k : Nat) :
    readModrm p u k = readModrm p v k := by
  rw [readModrm, readModrm, h]

/-- The prefixes read are x, and the opcode behind them ends before index k. -/
def Port.OpcodeAt {ε : Type} (p : Port ε) (x : Prefixes) (esc : Bool) (op : Byte) (k : Nat) : Prop :=
  ∃ b k0, readPrefixes p 16 0 .empty = .ok (x, b, k0) ∧ readOpcode p b k0 = .ok (esc, op, k)

/-- Decoding goes on with the row of the opcode and the reg field, when the checks of the row pass. -/
theorem decode_of_row {ε : Type} {m : DecodeMode} {p : Port ε} {x : Prefixes} {op mb : Byte} {k1 k2 : Nat} {esc : Bool}
    {r : Row} (ho : p.OpcodeAt x esc op k1) (hr : r ∈ opTable) (hc : r.covers esc op = true)
    (hpm : r.pmOnly = true → m.pe = true) (hmb : readModrm p r.modrm k1 = .ok (mb, k2))
    (ht : r.takes (mb.extractLsb' 3 3) = true) (hcheck : r.check (ε := ε) m x mb = none) :
    decode m p = r.finish m p x op mb k2 := by
  obtain ⟨b, k, hp, ho⟩ := ho
  have hmem : r ∈ rowsFor esc op := mem_rowsFor.mpr ⟨hr, hc⟩
  have hfind := find?_rowsFor hr hc ht
  have hpe : ((rowsFor esc op).all (·.pmOnly) && !m.pe) = false := by
    cases hpe : m.pe with
    | true => simp
    | false =>
      rw [Bool.not_false, Bool.and_true, List.all_eq_false]
      exact ⟨r, hmem, fun h => Bool.noConfusion (hpe.symm.trans (hpm h))⟩
  simp only [decode, hp, ho, except_ok_bind]
  cases hrows : rowsFor esc op with
  | nil => rw [hrows] at hmem; cases hmem
  | cons r0 rs =>
    have habs := modrm_absent_rowsFor hmem (hrows ▸ List.mem_cons_self : r0 ∈ rowsFor esc op)
    rw [hrows] at hfind hpe
    simp only [hpe, Bool.false_eq_true, if_false, readModrm_congr p habs, hmb, except_ok_bind, hfind, hcheck]

end Sys2Proof
end

section
/-! PROOFS. The row of every instruction (R340 to R342). -/
namespace Sys2Proof

/-- A row that reads this ModRM use reads this ModRM part. -/
def ModrmUse.fits : ModrmUse → Option (BitVec 3 × Rm) → Bool
  | .absent, none => true
  | .rm, some _ => true
  | .mem, some (_, e) => e.isMem
  | .regOnly, some (_, e) => !e.isMem
  | _, _ => false

/-- The fields a row binds, of an instruction; without ModRM the decoder takes 0xC0 for its byte. -/
def Instr.fields (i : Instr) : Fields :=
  match i.parts.modrm with
  | none => ⟨i.parts.op, 0, .reg 0, i.parts.imm⟩
  | some (reg, e) => ⟨i.parts.op, reg, e, i.parts.imm⟩

/-- An opcode byte that the prefixes end before: it stands after an escape, or is itself neither one of them nor the
escape. -/
def startsBody (esc : Bool) (op : Byte) : Bool := esc || ((PrefixByte.ofByte op).isNone && op != 0x0F#8)

/-- The row encodes the instruction: all that decoding reads from the row agrees with the parts. -/
structure Row.Encodes (r : Row) (i : Instr) : Prop where
  covers : r.covers i.parts.esc i.parts.op = true
  starts : startsBody i.parts.esc i.parts.op = true
  takes : r.takes i.fields.reg = true
  modrm : r.modrm.fits i.parts.modrm = true
  imm : r.imm = i.parts.imm.use
  lockable : r.lockable = i.parts.lockable
  rep : r.rep = i.parts.rep
  pmOnly : r.pmOnly = i.parts.pmOnly
  reg : ∀ m, i.parts.special.ok m = true → r.reg.ok m i.fields.reg = true
  bind : r.bind i.bound i.fields = i

/-- The low bits of an opcode byte are the register or condition number put there (R340). -/
theorem setWidth_low3 (op : Byte) (r : BitVec 3) (h : op &&& 7#8 = 0#8) : (op ||| r.setWidth 8).setWidth 3 = r := by
  revert op r
  decide +kernel

theorem setWidth_low4 (op : Byte) (c : BitVec 4) (h : op &&& 15#8 = 0#8) : (op ||| c.setWidth 8).setWidth 4 = c := by
  revert op c
  decide +kernel


/-- The table has the row of every instruction, in the order of the constructors (R340 to R342). -/
theorem Instr.exists_row (i : Instr) : ∃ r, opTable[i.ctorIdx]? = some r ∧ r.Encodes i := by
  cases i
  case incZv b r | decZv b r | pushZv b r | popZv b r | movZbIb b r imm | movZvIz b r imm | esc b r g e | bswapZd b r =>
    exact ⟨_, rfl, by dsimp only [parts]; revert r; decide, by dsimp only [parts]; revert r; decide, rfl, rfl, rfl, rfl,
      rfl, rfl, fun _ h => h, by
        dsimp only [fields, parts, Fields.r]
        simp (disch := decide) only [setWidth_low3]
        rfl⟩
  case jccJb b cc disp | jccJz b cc disp | cmovccGvEv b cc g e | setccEb b cc e =>
    exact ⟨_, rfl, by dsimp only [parts]; revert cc; decide, by dsimp only [parts]; revert cc; decide, rfl, rfl, rfl, rfl,
      rfl, rfl, fun _ h => h, by
        dsimp only [fields, parts, Fields.cc]
        simp (disch := decide) only [setWidth_low4]
        rfl⟩
  case movEwSw b e r | movSwEw b r e | movRdCd b g r | movCdRd b r g =>
    exact ⟨_, rfl, by dsimp only [parts]; rfl, by dsimp only [parts]; rfl, rfl, rfl, rfl, rfl, rfl, rfl,
      fun _ h => by cases r <;> exact h, by cases r <;> rfl⟩
  all_goals
    exact ⟨_, rfl, by dsimp only [parts]; rfl, by dsimp only [parts]; rfl, rfl, rfl, rfl, rfl, rfl, rfl, fun _ h => h, rfl⟩

end Sys2Proof
end

section
/-! PROOFS. Decoding an encoded instruction gives it back (R300, R360). -/
namespace Sys2Proof
open Sys2Proof.Machine (except_ok_bind except_pure)

/-! ## Lengths (R300, R301, R330) -/

theorem Rm.encode_length (reg : BitVec 3) (e : Rm) : (e.encode reg).length = 1 + e.tailLength := by
  cases e with
  | reg r => rfl
  | mem a =>
    cases a with
    | a16 rm d => cases d <;> rfl
    | a32 rm d => cases d <;> rfl
    | sib ss index base d => cases d <;> rfl
    | abs16 | abs32 | sibAbs => rfl

theorem Imm.encode_length (osz asz : Size) (imm : Imm) : (imm.encode osz asz).length = imm.length osz asz := by
  cases imm with
  | none | ib | iw | iwib => rfl
  | iz v | moffs v => exact leSized_length _ v
  | ap off sel => rw [encode, List.length_append, leSized_length]; rfl

theorem Parts.body_length (p : Parts) : p.body.length = p.bodyLength := by
  have hesc : (byteIf p.esc 0x0F).length + 1 = if p.esc then 2 else 1 := by cases p.esc <;> rfl
  rw [body, bodyLength, List.length_append, List.length_cons, List.length_append, Imm.encode_length, ← hesc]
  cases p.modrm with
  | none =>
    dsimp only [modrmBytes, List.length_nil]
    omega
  | some x =>
    simp only [modrmBytes, Rm.encode_length]
    omega

theorem Bound.prefixes_length (m : DecodeMode) (b : Bound) : (b.prefixes m).length = b.prefixCount m := by
  have hif : ∀ (c : Bool) v, (byteIf c v).length = if c then 1 else 0 := fun c v => by cases c <;> rfl
  have hrep : b.rep.bytes.length = if b.rep == .none then 0 else 1 := by cases b.rep <;> rfl
  have hseg : (overrideBytes b.seg).length = if b.seg.isSome then 1 else 0 := by cases b.seg <;> rfl
  simp only [prefixes, prefixCount, List.length_append, hif, hrep, hseg, bne, Bool.not_eq_true', ← Nat.add_assoc]
  congr 1
  · congr 1
    cases b.osz == m.size <;> rfl
  · cases b.asz == m.size <;> rfl

/-! ## The stages on an encoded instruction -/

/-- The prefixes of an encoding, the first of them repeated to reach the length (R302). -/
def Parts.prefixBytes (m : DecodeMode) (p : Parts) : List Byte :=
  let pre := p.bound.prefixes m
  List.replicate (p.bound.len - (pre.length + p.body.length)) (pre.headD 0x90#8) ++ pre

theorem Parts.encode_eq (m : DecodeMode) (p : Parts) : p.encode m = p.prefixBytes m ++ p.body :=
  (List.append_assoc _ _ _).symm

theorem Parts.prefixBytes_length {m : DecodeMode} {p : Parts} (hlen : p.lenOk m = true) :
    (p.prefixBytes m).length + p.body.length = p.bound.len ∧ p.bound.len ≤ 15 := by
  have hcount := p.bound.prefixes_length m
  have hbody := p.body_length
  simp only [lenOk, Bool.and_eq_true, Bool.or_eq_true, beq_iff_eq, decide_eq_true_eq, bne_iff_ne, ne_eq] at hlen
  rw [prefixBytes, List.length_append, List.length_replicate]
  omega

/-- They give the attributes back (R301, R302). -/
theorem Parts.addBytes_prefixBytes {m : DecodeMode} {p : Parts} (hlock : p.lockOk = true) (hlen : p.lenOk m = true) :
    Prefixes.empty.addBytes (p.prefixBytes m) =
      some ⟨p.bound.lock, p.bound.rep, p.bound.seg, p.bound.osz != m.size, p.bound.asz != m.size⟩ := by
  have hrep : p.bound.lock = true → p.bound.rep = .none := fun hl => by
    simp only [lockOk, hl, Bool.not_true, Bool.false_or, Bool.and_eq_true, beq_iff_eq] at hlock
    exact hlock.1.2
  have hbytes := Prefixes.addBytes_prefixes m hrep
  have hcount := p.bound.prefixes_length m
  have hbody := p.body_length
  rw [prefixBytes]
  cases hpre : p.bound.prefixes m with
  | nil =>
    simp only [lenOk, Bool.and_eq_true, Bool.or_eq_true, beq_iff_eq, decide_eq_true_eq, bne_iff_ne, ne_eq] at hlen
    rw [hpre, List.length_nil] at hcount
    have hnone : p.bound.len - (([] : List Byte).length + p.body.length) = 0 := by
      rw [List.length_nil]
      omega
    rw [hnone, ← hbytes, hpre]
    rfl
  | cons b bs => exact Prefixes.addBytes_replicate _ (hpre ▸ hbytes)

theorem opcodeAt_of_holds {ε : Type} {p : Port ε} {pfx : List Byte} {x : Prefixes} {esc : Bool} {op : Byte}
    (h : p.Holds 0 (pfx ++ (byteIf esc 0x0F ++ [op]))) (hx : Prefixes.empty.addBytes pfx = some x)
    (hs : startsBody esc op = true) (hlen : pfx.length < 16) :
    p.OpcodeAt x esc op (pfx.length + (byteIf esc 0x0F).length + 1) := by
  cases esc with
  | false =>
    simp only [startsBody, Bool.false_or, Bool.and_eq_true, Option.isNone_iff_eq_none, bne_iff_ne, ne_eq] at hs
    refine ⟨op, _, readPrefixes_of_holds h hs.1 hx hlen, ?_⟩
    rw [readOpcode, if_neg (by simpa using hs.2), Nat.zero_add]
    rfl
  | true =>
    rw [← List.append_assoc, Port.holds_append, List.length_append] at h
    obtain ⟨hpfx, hop, -⟩ := h
    refine ⟨0x0F, _, readPrefixes_of_holds hpfx rfl hx hlen, ?_⟩
    rw [Nat.zero_add, byteIf, if_pos rfl, List.length_singleton] at hop
    rw [readOpcode, if_pos (by decide), Nat.zero_add, hop]
    rfl

/-- The ModRM byte and the r/m operand of a row that fits the instruction (R310, R360). -/
theorem readModrm_of_holds {ε : Type} {p : Port ε} {i : Instr} {use : ModrmUse} {k : Nat}
    (hfits : use.fits i.parts.modrm = true) (hwf : i.fields.e.wf i.bound.asz = true)
    (h : p.Holds k (modrmBytes i.parts.modrm)) :
    ∃ mb k2, readModrm p use k = .ok (mb, k2) ∧ mb.extractLsb' 3 3 = i.fields.reg ∧
      (mb.extractLsb' 6 2 == 3#2) = !i.fields.e.isMem ∧
      readRm p use i.bound.asz mb k2 = .ok (i.fields.e, k + (modrmBytes i.parts.modrm).length) := by
  cases hm : i.parts.modrm with
  | none =>
    simp only [hm, Instr.fields] at *
    cases use with
    | absent => exact ⟨0xC0, k, rfl, by decide, by decide, rfl⟩
    | rm | mem | regOnly => cases hfits
  | some x =>
    obtain ⟨reg, e⟩ := x
    simp only [hm, Instr.fields] at *
    have huse : (use == .absent) = false := by
      cases use with
      | absent => cases hfits
      | rm | mem | regOnly => rfl
    obtain ⟨mb, hmb, hreg, hmod, hread⟩ := readRm_of_holds (use := use) hwf
      (by rintro rfl; simpa [ModrmUse.fits] using hfits) h
    refine ⟨mb, k + 1, ?_, hreg, hmod, hread⟩
    rw [readModrm, huse, if_neg Bool.false_ne_true, hmb]
    rfl

/-- Well-formedness, clause by clause. -/
theorem Instr.wf_iff {m : DecodeMode} {i : Instr} : i.wf m = true ↔
    i.fields.e.wf i.bound.asz = true ∧ i.parts.imm.wf i.bound.osz i.bound.asz = true ∧ i.parts.lockOk = true ∧
      i.parts.rep.allows i.bound.rep = true ∧ (i.parts.pmOnly = true → m.pe = true) ∧ i.parts.special.ok m = true ∧
      i.parts.lenOk m = true := by
  have hrm : (match i.parts.modrm with
      | some (_, e) => e.wf i.parts.bound.asz
      | none => true) = i.fields.e.wf i.bound.asz := by
    rw [Instr.fields, Instr.bound]
    cases i.parts.modrm <;> rfl
  have hpm : (!i.parts.pmOnly || m.pe) = true ↔ (i.parts.pmOnly = true → m.pe = true) := by
    cases i.parts.pmOnly <;> simp
  simp only [Instr.wf, Parts.wf, Bool.and_eq_true, hpm, and_assoc, ← hrm]
  rfl

/-- A row that encodes a well-formed instruction passes its checks (R303, R304, R351, R352). -/
theorem Row.Encodes.check {ε : Type} {r : Row} {i : Instr} {m : DecodeMode} {x : Prefixes} {mb : Byte}
    (hr : r.Encodes i) (hpm : i.parts.pmOnly = true → m.pe = true) (hlock : i.parts.lockOk = true)
    (hrep : i.parts.rep.allows i.bound.rep = true) (hspecial : i.parts.special.ok m = true) (hxl : x.lock = i.bound.lock)
    (hxr : x.rep = i.bound.rep) (hreg : mb.extractLsb' 3 3 = i.fields.reg)
    (hmod : (mb.extractLsb' 6 2 == 3#2) = !i.fields.e.isMem) : r.check (ε := ε) m x mb = none := by
  have hpm : (i.parts.pmOnly && !m.pe) = false := by grind
  have hmem : (r.modrm == .mem && !i.fields.e.isMem) = false := by
    have hfits := hr.modrm
    cases hm : i.parts.modrm with
    | none =>
      rw [hm] at hfits
      cases hu : r.modrm <;> simp_all [ModrmUse.fits]
    | some y =>
      rw [hm] at hfits
      simp only [Instr.fields, hm]
      cases hu : r.modrm <;> simp_all [ModrmUse.fits]
  have hlock : (i.bound.lock && !(i.parts.lockable && i.fields.e.isMem)) = false := by
    simp only [Parts.lockOk, Bool.or_eq_true, Bool.not_eq_true', Bool.and_eq_true] at hlock
    rcases hlock with h | ⟨⟨h1, -⟩, h2⟩
    · rw [Instr.bound, h, Bool.false_and]
    · cases hm : i.parts.modrm with
      | none => simp [hm] at h2
      | some y =>
        simp only [hm] at h2
        simp only [Instr.fields, hm, h1, h2, Bool.and_self, Bool.not_true, Bool.and_false]
  simp only [Row.check, hr.pmOnly, hpm, hmod, hmem, hreg, hr.reg m hspecial, hxl, hr.lockable, Bool.not_not, hlock, hr.rep,
    hxr, hrep, Bool.not_true, Bool.false_eq_true, if_false]

theorem Row.finish_eq {ε : Type} {p : Port ε} {r : Row} {m : DecodeMode} {x : Prefixes} {op mb : Byte} {k k1 k2 : Nat}
    {e : Rm} {imm : Imm} (he : readRm p r.modrm (m.sized x.asz) mb k = .ok (e, k1))
    (himm : readImm p r.imm (m.sized x.osz) (m.sized x.asz) k1 = .ok (imm, k2)) : r.finish m p x op mb k =
      .ok (r.bind ⟨m.sized x.osz, m.sized x.asz, x.seg, x.rep, x.lock, k2⟩ ⟨op, mb.extractLsb' 3 3, e, imm⟩) := by
  simp only [finish, he, himm, except_ok_bind, except_pure]

/-! ## The round trip -/

/-- Bytes at a port that are an encoding of i decode to i. -/
theorem decode_of_holds {ε : Type} {p : Port ε} {m : DecodeMode} {i : Instr} (hwf : i.wf m = true)
    (h : p.Holds 0 (encode m i)) : decode m p = .ok i := by
  obtain ⟨hrm, himm, hlock, hrep, hpm, hspecial, hlen⟩ := Instr.wf_iff.mp hwf
  obtain ⟨r, hrow, hr⟩ := i.exists_row
  obtain ⟨hsum, h15⟩ := Parts.prefixBytes_length hlen
  let kop := (i.parts.prefixBytes m).length + (byteIf i.parts.esc 0x0F).length + 1
  have hbytes : encode m i = (i.parts.prefixBytes m ++ (byteIf i.parts.esc 0x0F ++ [i.parts.op])) ++
      (modrmBytes i.parts.modrm ++ i.parts.imm.encode i.bound.osz i.bound.asz) := by
    rw [encode, Parts.encode_eq, Parts.body]
    simp [Instr.bound]
  have hkop : 0 + (i.parts.prefixBytes m ++ (byteIf i.parts.esc 0x0F ++ [i.parts.op])).length = kop := by
    simp only [List.length_append, List.length_singleton, kop]
    omega
  have hend : kop + (modrmBytes i.parts.modrm).length + (i.parts.imm.encode i.bound.osz i.bound.asz).length =
      i.bound.len := by
    rw [Instr.bound, ← hsum, Parts.body]
    simp only [List.length_append, List.length_cons, kop]
    omega
  rw [hbytes, Port.holds_append, hkop] at h
  obtain ⟨hop, h⟩ := h
  obtain ⟨hmodrm, himms⟩ := Port.holds_append.mp h
  have hop := opcodeAt_of_holds hop (Parts.addBytes_prefixBytes hlock hlen) hr.starts (by omega)
  obtain ⟨mb, k2, hmb, hreg, hmod, hread⟩ := readModrm_of_holds hr.modrm hrm hmodrm
  rw [decode_of_row hop (List.mem_of_getElem? hrow) hr.covers (hr.pmOnly ▸ hpm) hmb (hreg ▸ hr.takes)
    (hr.check hpm hlock hrep hspecial rfl rfl hreg hmod)]
  rw [Row.finish_eq (k1 := kop + (modrmBytes i.parts.modrm).length) (k2 := i.bound.len) (e := i.fields.e)
    (imm := i.parts.imm) ?_ ?_]
  · have hfields : (⟨i.parts.op, i.fields.reg, i.fields.e, i.parts.imm⟩ : Fields) = i.fields := by
      rw [Instr.fields]
      cases i.parts.modrm <;> rfl
    simp only [DecodeMode.sized_bne_size, hreg, hfields]
    exact congrArg Except.ok hr.bind
  · simp only [DecodeMode.sized_bne_size]
    exact hread
  · simp only [DecodeMode.sized_bne_size, hr.imm, ← hend]
    exact readImm_of_holds himm himms

/-- Settles O1: every stage of the decoder gives back what the encoder wrote for it. -/
theorem decodeEncode : Obligations.DecodeEncode := by
  intro m i rest hwf
  obtain ⟨-, -, -, -, -, -, hlen⟩ := Instr.wf_iff.mp hwf
  have hlen : (encode m i).length ≤ 15 := by
    obtain ⟨hsum, h15⟩ := Parts.prefixBytes_length hlen
    rw [encode, Parts.encode_eq, List.length_append]
    omega
  exact decode_of_holds hwf (listPort_holds [] (encode m i) rest (by rw [List.length_nil]; omega))

end Sys2Proof
end

section
/-! PROOFS. Encodings that decode to #UD (R350, R351, R352), and the length limit (R307). -/
namespace Sys2Proof
open Sys2Proof.Machine (except_ok_bind except_error_bind except_pure)

variable {ε : Type} {p : Port ε} {m : DecodeMode}

/-! ## Opcodes without prefixes -/

theorem readByte_of_lt {k : Nat} {b : Byte} (hk : k < 15) (h : p k = .ok b) : readByte p k = .ok b := by
  rw [readByte, if_neg (by omega), h]

theorem opcodeAt_one {op : Byte} (h : p 0 = .ok op) (hs : startsBody false op = true) : p.OpcodeAt .empty false op 1 :=
  opcodeAt_of_holds (pfx := []) ⟨readByte_of_lt (by decide) h, trivial⟩ rfl hs (by decide)

theorem opcodeAt_two {op : Byte} (h0 : p 0 = .ok 0x0F) (h1 : p 1 = .ok op) : p.OpcodeAt .empty true op 2 :=
  opcodeAt_of_holds (pfx := []) ⟨readByte_of_lt (by decide) h0, readByte_of_lt (by decide) h1, trivial⟩ rfl rfl
    (by decide)

/-! ## Opcodes under which no row stands (R350, R352) -/

theorem decode_ud_of_rowsFor_nil {x : Prefixes} {esc : Bool} {op : Byte} {k : Nat} (ho : p.OpcodeAt x esc op k)
    (h : rowsFor esc op = []) : decode m p = .error .ud := by
  obtain ⟨b, k0, hp, ho⟩ := ho
  simp only [decode, hp, ho, except_ok_bind, h]

/-- In real mode an opcode whose rows are all protected-mode only is no instruction (R352; log 8). -/
theorem decode_ud_of_pmOnly {x : Prefixes} {esc : Bool} {op : Byte} {k : Nat} (ho : p.OpcodeAt x esc op k)
    (hpe : m.pe = false) (h : ∀ r ∈ rowsFor esc op, r.pmOnly = true) : decode m p = .error .ud := by
  obtain ⟨b, k0, hp, ho⟩ := ho
  simp only [decode, hp, ho, except_ok_bind]
  cases hrows : rowsFor esc op with
  | nil => rfl
  | cons r0 rs =>
    have hall : (r0 :: rs).all (·.pmOnly) = true := List.all_eq_true.mpr (hrows ▸ h)
    simp only [hall, hpe, Bool.not_false, Bool.and_self, if_true]

/-- What holds of every row of the table with this escape bit, as a check. -/
noncomputable def allRows (esc : Bool) (c : Row → Bool) : Bool := opTable.all fun r => r.esc != esc || c r

theorem of_allRows {esc : Bool} {c : Row → Bool} (h : allRows esc c = true) {op : Byte} {r : Row} (hr : r ∈ rowsFor esc op) :
    c r = true ∧ r.covers esc op = true := by
  obtain ⟨hr, hc⟩ := mem_rowsFor.mp hr
  have hesc : r.esc = esc := by
    rw [Row.covers, Bool.and_eq_true, beq_iff_eq] at hc
    exact hc.1
  have := List.all_eq_true.mp h r hr
  rw [hesc, bne_self_eq_false, Bool.false_or] at this
  exact ⟨this, hc⟩

/-- No row stands under any of these opcodes. -/
noncomputable def unlisted (esc : Bool) (l : List Byte) : Bool := allRows esc fun r => l.all fun op => !r.covers esc op

theorem rowsFor_of_unlisted {esc : Bool} {l : List Byte} (h : unlisted esc l = true) {op : Byte} (hop : op ∈ l) :
    rowsFor esc op = [] := by
  refine List.eq_nil_iff_forall_not_mem.mpr fun r hr => ?_
  obtain ⟨hall, hc⟩ := of_allRows h hr
  have hno := List.all_eq_true.mp hall op hop
  rw [hc] at hno
  exact Bool.noConfusion hno

/-- Every row under any of these opcodes is protected-mode only. -/
noncomputable def realInvalid (esc : Bool) (l : List Byte) : Bool :=
  allRows esc fun r => l.all fun op => !r.covers esc op || r.pmOnly

theorem pmOnly_of_realInvalid {esc : Bool} {l : List Byte} (h : realInvalid esc l = true) {op : Byte} (hop : op ∈ l) :
    ∀ r ∈ rowsFor esc op, r.pmOnly = true := by
  intro r hr
  obtain ⟨hall, hc⟩ := of_allRows h hr
  have hpm := List.all_eq_true.mp hall op hop
  rwa [hc] at hpm

/-! ## Opcodes whose rows refuse the ModRM byte (R350, R351) -/

theorem RegUse.ok_congr (u : RegUse) (m : DecodeMode) (reg : BitVec 3) : u.ok m reg = u.ok ⟨false, false, m.de⟩ reg := by
  cases u <;> rfl

/-- The row has a ModRM byte and does not stand with this reg field: it is of another member of the group, or wants
memory where mod is 3, or the field names no register. -/
def Row.rejects (r : Row) (mod3 de : Bool) (reg : BitVec 3) : Bool :=
  r.modrm != .absent && (!r.takes reg || (r.modrm == .mem && mod3) || !r.reg.ok ⟨false, false, de⟩ reg)

theorem Row.check_of_rejects {r : Row} {mb : Byte} {x : Prefixes} {mod3 : Bool}
    (hmod : mod3 = true → mb.extractLsb' 6 2 = 3#2) (h : r.rejects mod3 m.de (mb.extractLsb' 3 3) = true)
    (ht : r.takes (mb.extractLsb' 3 3) = true) :
    r.check (ε := ε) m x mb = some .ud := by
  simp only [rejects, ht, ← RegUse.ok_congr, Bool.not_true, Bool.false_or, Bool.and_eq_true, Bool.or_eq_true] at h
  rw [check]
  split
  · rfl
  rcases h.2 with ⟨hmem, hmod3⟩ | hreg
  · rw [if_pos (by rw [hmem, hmod hmod3]; rfl)]
  · rw [if_pos hreg, ite_self]

/-- The rows of an opcode that all refuse the ModRM byte give #UD. -/
theorem decode_ud_of_rejects {x : Prefixes} {esc mod3 : Bool} {op mb : Byte} {k : Nat} (ho : p.OpcodeAt x esc op k)
    (hmb : readByte p k = .ok mb) (hmod : mod3 = true → mb.extractLsb' 6 2 = 3#2)
    (h : ∀ r ∈ rowsFor esc op, r.rejects mod3 m.de (mb.extractLsb' 3 3) = true) : decode m p = .error .ud := by
  obtain ⟨b, k0, hp, ho⟩ := ho
  simp only [decode, hp, ho, except_ok_bind]
  cases hrows : rowsFor esc op with
  | nil => rfl
  | cons r0 rs =>
    dsimp only
    split
    · rfl
    have habs : (r0.modrm == .absent) = false := by
      have := h r0 (hrows ▸ List.mem_cons_self)
      simp only [Row.rejects, Bool.and_eq_true, bne, Bool.not_eq_true'] at this
      exact this.1
    simp only [readModrm, habs, Bool.false_eq_true, if_false, hmb, except_ok_bind, except_pure]
    cases hfind : (r0 :: rs).find? (·.takes (mb.extractLsb' 3 3)) with
    | none => rfl
    | some r =>
      have hr : r ∈ rowsFor esc op := hrows ▸ List.mem_of_find?_eq_some hfind
      have ht := List.find?_some (p := fun r : Row => r.takes _) hfind
      have hud := Row.check_of_rejects (ε := ε) (x := x) hmod (h r hr) ht
      simp only [hud]

/-- Every row under these opcodes refuses the reg fields listed with them. -/
noncomputable def rejected (mod3 de esc : Bool) (l : List (Byte × List (BitVec 3))) : Bool :=
  (l.all fun x => startsBody esc x.1) &&
    allRows esc fun r => l.all fun x => !r.covers esc x.1 || x.2.all (r.rejects mod3 de)

theorem rejects_of_rejected {mod3 de esc : Bool} {l : List (Byte × List (BitVec 3))} (h : rejected mod3 de esc l = true)
    {x : Byte × List (BitVec 3)} (hx : x ∈ l) {reg : BitVec 3} (hreg : reg ∈ x.2) :
    startsBody esc x.1 = true ∧ ∀ r ∈ rowsFor esc x.1, r.rejects mod3 de reg = true := by
  rw [rejected, Bool.and_eq_true, List.all_eq_true] at h
  refine ⟨h.1 x hx, fun r hr => ?_⟩
  obtain ⟨hall, hc⟩ := of_allRows h.2 hr
  have hrej := List.all_eq_true.mp hall x hx
  rw [hc, Bool.not_true, Bool.false_or, List.all_eq_true] at hrej
  exact hrej reg hreg

theorem decode_ud_one {mod3 : Bool} {l : List (Byte × List (BitVec 3))} (h : ∀ de, rejected mod3 de false l = true)
    {x : Byte × List (BitVec 3)} (hx : x ∈ l) {mb : Byte} (h0 : p 0 = .ok x.1) (h1 : p 1 = .ok mb)
    (hreg : mb.extractLsb' 3 3 ∈ x.2) (hmod : mod3 = true → mb.extractLsb' 6 2 = 3#2) : decode m p = .error .ud :=
  have ⟨hs, hr⟩ := rejects_of_rejected (h m.de) hx hreg
  decode_ud_of_rejects (opcodeAt_one h0 hs) (readByte_of_lt (by decide) h1) hmod hr

theorem decode_ud_two {mod3 : Bool} {l : List (Byte × List (BitVec 3))} (h : ∀ de, rejected mod3 de true l = true)
    {x : Byte × List (BitVec 3)} (hx : x ∈ l) {mb : Byte} (h0 : p 0 = .ok 0x0F) (h1 : p 1 = .ok x.1) (h2 : p 2 = .ok mb)
    (hreg : mb.extractLsb' 3 3 ∈ x.2) (hmod : mod3 = true → mb.extractLsb' 6 2 = 3#2) : decode m p = .error .ud :=
  decode_ud_of_rejects (opcodeAt_two h0 h1) (readByte_of_lt (by decide) h2) hmod
    (rejects_of_rejected (h m.de) hx hreg).2

/-! ## The length limit (R307) -/

/-- What is read ends within the fifteen bytes an instruction may have, its end given by μ. -/
def Within {α : Type} (μ : α → Nat) (r : Except (DecodeStop ε) α) : Prop := ∀ a, r = .ok a → μ a ≤ 15

theorem Within.ok {α : Type} {μ : α → Nat} {a : α} (h : μ a ≤ 15) : Within (ε := ε) μ (.ok a) := by
  intro a' ha
  rw [← Except.ok.inj ha]
  exact h

theorem Within.error {α : Type} {μ : α → Nat} (e : DecodeStop ε) : Within μ (.error e) := nofun

theorem Within.bind {α β : Type} {μ : α → Nat} {ν : β → Nat} {r : Except (DecodeStop ε) α} {f : α → Except (DecodeStop ε) β}
    (hr : Within μ r) (hf : ∀ a, μ a ≤ 15 → Within ν (f a)) : Within ν (r >>= f) := by
  cases r with
  | error e => exact .error e
  | ok a => exact hf a (hr a rfl)

theorem Within.byte {β : Type} {ν : β → Nat} {k : Nat} {f : Byte → Except (DecodeStop ε) β}
    (hf : ∀ b, k + 1 ≤ 15 → Within ν (f b)) : Within ν (readByte p k >>= f) := by
  rw [readByte]
  split
  · exact .error _
  · cases p k with
    | ok b => exact hf b (by omega)
    | error e => exact .error _

theorem within_readHalf (k : Nat) : Within Prod.snd (readHalf p k) := .byte fun _ _ => .byte fun _ h => .ok h

theorem within_readWord (k : Nat) : Within Prod.snd (readWord p k) :=
  .bind (within_readHalf k) fun _ _ => .bind (within_readHalf _) fun _ h => .ok h

theorem within_readSized (z : Size) (k : Nat) : Within Prod.snd (readSized p z k) := by
  cases z with
  | s16 => exact .bind (within_readHalf k) fun _ h => .ok h
  | s32 => exact within_readWord k

theorem within_readDisp16 (mod : BitVec 2) {k : Nat} (hk : k ≤ 15) : Within Prod.snd (readDisp16 p mod k) := by
  unfold readDisp16
  split
  · exact .ok hk
  · exact .byte fun _ h => .ok h
  · exact .bind (within_readHalf k) fun _ h => .ok h

theorem within_readDisp32 (mod : BitVec 2) {k : Nat} (hk : k ≤ 15) : Within Prod.snd (readDisp32 p mod k) := by
  unfold readDisp32
  split
  · exact .ok hk
  · exact .byte fun _ h => .ok h
  · exact .bind (within_readWord k) fun _ h => .ok h

theorem within_readAddr (asz : Size) (mod : BitVec 2) (rm : BitVec 3) {k : Nat} (hk : k ≤ 15) :
    Within Prod.snd (readAddr p asz mod rm k) := by
  unfold readAddr
  split
  · split
    · exact .bind (within_readHalf k) fun _ h => .ok h
    · exact .bind (within_readDisp16 mod hk) fun _ h => .ok h
  · split
    · refine .byte fun _ h => ?_
      dsimp only
      split
      · exact .bind (within_readWord _) fun _ h => .ok h
      · exact .bind (within_readDisp32 mod h) fun _ h => .ok h
    · split
      · exact .bind (within_readWord k) fun _ h => .ok h
      · exact .bind (within_readDisp32 mod hk) fun _ h => .ok h

theorem within_readRm (use : ModrmUse) (asz : Size) (mb : Byte) {k : Nat} (hk : k ≤ 15) :
    Within Prod.snd (readRm p use asz mb k) := by
  unfold readRm
  split
  · exact .ok hk
  · exact .bind (within_readAddr _ _ _ hk) fun _ h => .ok h

theorem within_readImm (use : ImmUse) (osz asz : Size) {k : Nat} (hk : k ≤ 15) :
    Within Prod.snd (readImm p use osz asz k) := by
  cases use with
  | none => exact .ok hk
  | ib => exact .byte fun _ h => .ok h
  | iw => exact .bind (within_readHalf k) fun _ h => .ok h
  | iz => exact .bind (within_readSized osz k) fun _ h => .ok h
  | moffs => exact .bind (within_readSized asz k) fun _ h => .ok h
  | ap => exact .bind (within_readSized osz k) fun _ _ => .bind (within_readHalf _) fun _ h => .ok h
  | iwib => exact .bind (within_readHalf k) fun _ _ => .byte fun _ h => .ok h

theorem within_readModrm (use : ModrmUse) {k : Nat} (hk : k ≤ 15) : Within Prod.snd (readModrm p use k) := by
  unfold readModrm
  split
  · exact .ok hk
  · exact .byte fun _ h => .ok h

theorem within_readOpcode (b : Byte) {k : Nat} (hk : k ≤ 15) : Within (·.2.2) (readOpcode p b k) := by
  unfold readOpcode
  split
  · exact .byte fun _ h => .ok h
  · exact .ok hk

theorem within_readPrefixes (fuel k : Nat) (x : Prefixes) : Within (·.2.2) (readPrefixes p fuel k x) := by
  induction fuel generalizing k x with
  | zero => exact .error _
  | succ fuel ih =>
    refine .byte fun b h => ?_
    split
    · exact .ok h
    · split
      · exact .error _
      · exact ih _ _

/-- A row binds the attributes it is given. -/
theorem bound_bind : ∀ r ∈ opTable, ∀ b f, (r.bind b f).bound = b := by
  simp only [opTable, List.forall_mem_append]
  and_intros
  all_goals
    repeat refine List.forall_mem_cons.mpr ⟨fun _ _ => rfl, ?_⟩
    exact List.forall_mem_nil _

theorem within_decode : Within (·.bound.len) (decode m p) := by
  refine .bind (within_readPrefixes 16 0 .empty) fun ⟨x, b, k⟩ hk => ?_
  refine .bind (within_readOpcode b hk) fun ⟨esc, op, k1⟩ hk1 => ?_
  dsimp only
  split
  · exact .error _
  next r0 rs hrows =>
  split
  · exact .error _
  refine .bind (within_readModrm _ hk1) fun ⟨mb, k2⟩ hk2 => ?_
  dsimp only
  split
  · exact .error _
  next r hfind =>
  split
  · exact .error _
  refine .bind (within_readRm _ _ _ hk2) fun ⟨e, k3⟩ hk3 => ?_
  refine .bind (within_readImm _ _ _ hk3) fun ⟨imm, k4⟩ hk4 => .ok ?_
  have hr : r ∈ rowsFor esc op := hrows ▸ List.mem_of_find?_eq_some hfind
  rw [bound_bind r (mem_rowsFor.mp hr).1]
  exact hk4

/-- Size overrides alone never end: the sixteenth byte is not fetched (R307). -/
theorem readPrefixes_sizes (h : ∀ k < 15, p k = .ok 0x66 ∨ p k = .ok 0x67) (fuel k : Nat) (x : Prefixes) :
    readPrefixes p fuel k x = .error .tooLong := by
  induction fuel generalizing k x with
  | zero => rfl
  | succ fuel ih =>
    rw [readPrefixes, readByte]
    split
    · rfl
    · rcases h k (by omega) with hb | hb
      · rw [hb]
        exact ih (k + 1) { x with osz := true }
      · rw [hb]
        exact ih (k + 1) { x with asz := true }

end Sys2Proof

namespace Sys2Proof.Machine
open Sys2Proof

/-- All values of a reg field. -/
def allRegs : List (BitVec 3) := [0, 1, 2, 3, 4, 5, 6, 7]

theorem mem_allRegs (reg : BitVec 3) : reg ∈ allRegs := by
  revert reg
  decide

/-- Settles O4: the rows under a listed opcode are none, or all refuse the ModRM byte, or all are protected-mode
only. -/
theorem illegalEncodings : Obligations.IllegalEncodings := by
  refine ⟨⟨?single, ?escaped, ?group, ?escapedGroup, fun s h => runInstruction_of_stopped h rfl⟩,
    ⟨?memory, ?register, ?real⟩, ?sizes, fun m p i h => within_decode i h⟩
  case single =>
    intro m p b hb h0
    have hl : unlisted false [0xD6, 0xF1] = true := by decide +kernel
    have hs : [0xD6, 0xF1].all (startsBody false) = true := by decide
    exact decode_ud_of_rowsFor_nil (opcodeAt_one h0 (List.all_eq_true.mp hs b hb)) (rowsFor_of_unlisted hl hb)
  case escaped =>
    intro m p b hb h0 h1
    exact decode_ud_of_rowsFor_nil (opcodeAt_two h0 h1) (rowsFor_of_unlisted (by decide +kernel) hb)
  case group =>
    intro m p mb x hx h0 h1 hreg
    exact decode_ud_one (mod3 := false) (by decide +kernel) hx h0 h1 hreg nofun
  case escapedGroup =>
    intro m p mb x hx h0 h1 h2 hreg
    exact decode_ud_two (mod3 := false) (by decide +kernel) hx h0 h1 h2 hreg nofun
  case memory =>
    intro m p mb hmod
    refine ⟨fun b hb h0 h1 => ?_, fun h0 h1 hreg => ?_, fun h0 => ⟨fun b hb h1 h2 => ?_, fun h1 h2 hreg => ?_,
      fun h1 h2 hreg => ?_⟩⟩
    · exact decode_ud_one (mod3 := true) (by decide +kernel)
        (List.mem_map_of_mem (f := (·, allRegs)) hb) h0 h1 (mem_allRegs _) fun _ => hmod
    · exact decode_ud_one (mod3 := true) (by decide +kernel)
        (List.mem_singleton_self (_, _)) h0 h1 hreg fun _ => hmod
    · exact decode_ud_two (mod3 := true) (by decide +kernel)
        (List.mem_map_of_mem (f := (·, allRegs)) hb) h0 h1 h2 (mem_allRegs _) fun _ => hmod
    · exact decode_ud_two (mod3 := true) (by decide +kernel)
        (List.mem_singleton_self (_, _)) h0 h1 h2 hreg fun _ => hmod
    · exact decode_ud_two (mod3 := true) (by decide +kernel)
        (List.mem_singleton_self (_, [1])) h0 h1 h2 (List.mem_singleton.mpr hreg) fun _ => hmod
  case register =>
    intro m p mb
    refine ⟨fun h0 h1 hreg => ?_, fun h0 h1 hreg => ?_, fun h0 h2 => ⟨fun b hb h1 hreg => ?_,
      fun b hb h1 hde hreg => ?_⟩⟩
    · exact decode_ud_one (mod3 := false) (by decide +kernel)
        (List.mem_singleton_self (_, _)) h0 h1 hreg nofun
    · exact decode_ud_one (mod3 := false) (by decide +kernel)
        (List.mem_singleton_self (_, _)) h0 h1 hreg nofun
    · exact decode_ud_two (mod3 := false) (by decide +kernel)
        (List.mem_map_of_mem (f := (·, [1, 5, 6, 7])) hb) h0 h1 h2 hreg nofun
    · have hl : rejected false m.de true ([0x21, 0x23].map (·, [4, 5])) = true := by
        rw [hde]
        decide +kernel
      exact decode_ud_of_rejects (mod3 := false) (opcodeAt_two h0 h1) (readByte_of_lt (by decide) h2) nofun
        (rejects_of_rejected hl (List.mem_map_of_mem hb) hreg).2
  case real =>
    intro m p mb hpe
    refine ⟨fun h0 => ?_, fun h0 h1 _ => ?_, fun b hb h0 h1 => ?_⟩
    · exact decode_ud_of_pmOnly (opcodeAt_one h0 (by decide)) hpe
        (pmOnly_of_realInvalid (by decide +kernel) (List.mem_singleton_self _))
    · exact decode_ud_of_pmOnly (opcodeAt_two h0 h1) hpe
        (pmOnly_of_realInvalid (by decide +kernel) (List.mem_singleton_self _))
    · exact decode_ud_of_pmOnly (opcodeAt_two h0 h1) hpe (pmOnly_of_realInvalid (by decide +kernel) hb)
  case sizes =>
    intro s h
    have hp : decode s.decodeMode s.fetchByte = .error .tooLong := by
      rw [decode, readPrefixes_sizes h]
      rfl
    exact runInstruction_of_stopped hp rfl

end Sys2Proof.Machine
end

section
/-! PROOFS. Words written out from the encodings (R310, R320, R322, R323, R330, R340, R342). -/
namespace Sys2Proof

/-- Settles O3: each word is decoded by evaluation. -/
theorem decodeWords : Obligations.DecodeWords := by
  refine ⟨?_, ?_, ?_, ?_, ?_, ?_, ?_, ?_, ?_⟩
  all_goals rfl

end Sys2Proof
end

section
/-! PROOFS. The descriptor-table registers (R1120 to R1127). -/
namespace Sys2Proof.Machine
open Sys2Proof Sys2Proof.Claims

theorem exec_lgdtMs (b : Bound) (m : Addr) (s : State) : exec (.lgdtMs b m) s = lgdt b m s := rfl
theorem exec_lidtMs (b : Bound) (m : Addr) (s : State) : exec (.lidtMs b m) s = lidt b m s := rfl
theorem exec_sgdtMs (b : Bound) (m : Addr) (s : State) : exec (.sgdtMs b m) s = storeTable s.gdtr b m s := rfl
theorem exec_sidtMs (b : Bound) (m : Addr) (s : State) : exec (.sidtMs b m) s = storeTable s.idtr b m s := rfl
theorem exec_lldtEw (b : Bound) (e : Rm) (s : State) : exec (.lldtEw b e) s = lldt b e s := rfl
theorem exec_ltrEw (b : Bound) (e : Rm) (s : State) : exec (.ltrEw b e) s = ltr b e s := rfl
theorem exec_sldtEw (b : Bound) (e : Rm) (s : State) : exec (.sldtEw b e) s = storeSys s.ldtr b e s := rfl
theorem exec_strEw (b : Bound) (e : Rm) (s : State) : exec (.strEw b e) s = storeSys s.tr b e s := rfl

/-- The check of R352 passes in protected mode. -/
theorem State.protectedOnly_ok {s : State} (h : s.pe = true) : s.protectedOnly = .ok () := by
  rw [State.protectedOnly, h]
  rfl

/-- In real mode it raises #UD (R352; log 8). -/
theorem State.protectedOnly_raise {s : State} (h : s.pe = false) : s.protectedOnly = .error (.raise .ud) := by
  rw [State.protectedOnly, h]
  rfl

/-- The second part of a memory operand lies at the offset cut to the address size (R220; log 11). -/
theorem offAfter_eq_indexOf (b : Bound) (off : Word) (n : Nat) :
    b.offAfter off n = indexOf b (off + BitVec.ofNat 32 n) := by
  unfold Bound.offAfter indexOf Size.cut
  cases b.asz with
  | s16 => rw [if_pos rfl]; exact and_ffff _
  | s32 => rw [if_neg (by decide)]; exact BitVec.and_allOnes

/-! ## LGDT and LIDT (R1122, R1123) -/

theorem ofNat_and_low24 (v : Nat) : BitVec.ofNat 32 v &&& 0x00FFFFFF#32 = BitVec.ofNat 32 (v % 2 ^ 24) := by
  refine BitVec.eq_of_toNat_eq ?_
  rw [BitVec.toNat_and, BitVec.toNat_ofNat, BitVec.toNat_ofNat, BitVec.toNat_ofNat]
  show v % 2 ^ 32 &&& (2 ^ 24 - 1) = _
  rw [Nat.and_two_pow_sub_one_eq_mod]
  omega

/-- The table register an LGDT or LIDT loads: 24 bits of base at operand size 16. -/
def loadedTable (b : Bound) (l v : Nat) : TableReg :=
  ⟨if b.osz = .s16 then BitVec.ofNat 32 (v % 2 ^ 24) else BitVec.ofNat 32 v, BitVec.ofNat 16 l⟩

theorem State.readTable_eq {s : State} {b : Bound} {m : Addr} {l v : Nat} (hp : s.pe = false ∨ s.cpl = 0#2)
    (hl : s.segRead (m.segment b) (m.offset s.gpr) 2 = .ok l)
    (hv : s.segRead (m.segment b) (indexOf b (m.offset s.gpr + 2#32)) 4 = .ok v) :
    s.readTable b m = .ok (loadedTable b l v) := by
  simp only [State.readTable, State.privileged_ok hp, hl, offAfter_eq_indexOf, hv, except_ok_bind, except_pure, loadedTable,
    ofNat_and_low24, beq_iff_eq]

/-! ## SGDT and SIDT (R1120, R1121) -/

theorem State.segCheck_of_onlyMemory {s t : State} (h : OnlyMemory s t) (r : SegReg) (w : Bool) (off : Word) (n : Nat) :
    t.segCheck r w off n = s.segCheck r w off n := by
  rw [h]
  cases r <;> rfl

/-- The base an SGDT or SIDT stores: the top byte is a draw at operand size 16 (log 3). -/
def storedBase (s : State) (z : Size) (r : TableReg) : Word :=
  match z with
  | .s16 => (s.drawHalf.setWidth 8 : Byte) ++ (r.base.setWidth 24 : BitVec 24)
  | .s32 => r.base

theorem eq_storedBase {s : State} {z : Size} {r : TableReg} {base : Word}
    (hbits : ∀ j < (if z = .s16 then 24 else 32), base.getLsbD j = r.base.getLsbD j)
    (hdraw : z = .s16 → base.extractLsb' 24 8 = s.drawHalf.setWidth 8) : base = storedBase s z r := by
  cases z with
  | s32 => exact BitVec.eq_of_getLsbD_eq hbits
  | s16 =>
    have hlow : base.setWidth 24 = r.base.setWidth 24 := BitVec.eq_of_getLsbD_eq fun j hj => by
      simpa [hj] using hbits j hj
    show base = _ ++ _
    rw [← hdraw rfl, ← hlow]
    refine BitVec.eq_of_getLsbD_eq fun j hj => ?_
    rw [BitVec.getLsbD_append]
    split
    · next h => simp [h]
    · next h =>
      simp
      grind

theorem storeTable_eq {s t u : State} {b : Bound} {m : Addr} {r : TableReg}
    (ht : s.segWrite (m.segment b) (m.offset s.gpr) 2 r.limit.toNat = .ok t)
    (hu : t.segWrite (m.segment b) (indexOf b (m.offset s.gpr + 2#32)) 4 (storedBase s b.osz r).toNat = .ok u) :
    storeTable r b m s = .next (done b s u) := by
  have hst := State.segWrite_only ht
  obtain ⟨hc, -⟩ := State.segWrite_ok.mp ht
  obtain ⟨hc2, -⟩ := State.segWrite_ok.mp hu
  rw [State.segCheck_of_onlyMemory hst] at hc2
  have heip : u.eip = s.eip := by rw [hst.trans (State.segWrite_only hu)]
  rw [← complete_eq_done b heip]
  simp only [storeTable, offAfter_eq_indexOf, hc, hc2, ht, except_ok_bind]
  exact congrArg _ hu

/-- A meaning whose first check is R352 raises #UD in real mode. -/
theorem complete_protectedOnly {b : Bound} {s : State} (hpe : s.pe = false) (f : Unit → Except Stop State) :
    complete b s (s.protectedOnly >>= f) = deliverFault s .ud := by
  rw [State.protectedOnly_raise hpe, except_error_bind, complete_raise]

/-! ## LLDT and LTR (R1124, R1125) -/

section
variable {b : Bound} {s : State} {e : Rm} {sel : Half} (hpe : s.pe = true) (hcpl : s.cpl = 0#2)
  (hsel : s.readLoc .w16 (s.loc b e) = .ok sel)
include hpe hcpl hsel

theorem lldt_of_null (hn : isNull sel = true) : lldt b e s =
    .next (done b s { s with smcDirty := [], ldtr := { s.ldtr with selector := sel, valid := false } }) := by
  simp only [lldt, State.protectedOnly_ok hpe, State.privileged_ok (.inr hcpl), hsel, hn, except_ok_bind, if_true]
  exact complete_eq_done b rfl

variable {addr : Word} {d : Desc} (hd : Names s sel addr d) (hti : BitVec.getLsbD sel 2 = false) (hs : d.s = false)
  (hp : d.p = true)
include hd hti hs hp

theorem lldt_of_ldt (htype : d.type = 0x2#4) : lldt b e s =
    .next (done b s { s with smcDirty := [], ldtr := ⟨sel, d.base, d.limit, d.type, true, true⟩ }) := by
  obtain ⟨hn, haddr, hread⟩ := hd
  simp only [lldt, State.protectedOnly_ok hpe, State.privileged_ok (.inr hcpl), hsel, hn, hti, hs, hp, htype,
    State.lookup_ok.mpr ⟨haddr, hread⟩, except_ok_bind, raiseIf_false, Bool.false_eq_true, if_false, SysSeg.ofDesc,
    Bool.false_or, bne_self_eq_false, Bool.not_true]
  exact complete_eq_done b rfl

theorem ltr_of_tss (htype : d.type = 0x1#4 ∨ d.type = 0x9#4) {t : State}
    (ht : s.memWrite false (addr + 5#32) 1 (d.rights ||| 2#8).toNat = .ok t) : ltr b e s =
    .next (done b s { t with smcDirty := [], tr := ⟨sel, d.base, d.limit, d.type ||| 2#4, true, true⟩ }) := by
  obtain ⟨hn, haddr, hread⟩ := hd
  have heip : t.eip = s.eip := by rw [State.memWrite_only ht]
  have hbad : (d.s || !(d.type == 0x1#4 || d.type == 0x9#4)) = false := by
    rw [hs]
    rcases htype with h | h <;> rw [h] <;> rfl
  simp only [ltr, State.protectedOnly_ok hpe, State.privileged_ok (.inr hcpl), hsel, hn, hti, hbad, hp, ht,
    State.lookup_ok.mpr ⟨haddr, hread⟩, except_ok_bind, raiseIf_false, SysSeg.ofDesc, Bool.not_true]
  exact complete_eq_done b heip
end

/-! ## SLDT and STR (R1126, R1127) -/

theorem storeSys_reg {b : Bound} {s : State} (hpe : s.pe = true) (r : SysSeg) (q : BitVec 3) : storeSys r b (.reg q) s =
    .next (done b s (if b.osz = .s16 then s.setReg .w16 q r.selector else s.setReg .w32 q (s.drawHalf ++ r.selector))) := by
  simp only [storeSys, State.protectedOnly_ok hpe, except_ok_bind, State.storeSelector_reg]
  exact complete_eq_done b (by split <;> rfl)

theorem storeSys_mem {b : Bound} {s t : State} {m : Addr} (hpe : s.pe = true) {r : SysSeg}
    (ht : s.segWrite (m.segment b) (m.offset s.gpr) 2 r.selector.toNat = .ok t) :
    storeSys r b (.mem m) s = .next (done b s t) := by
  simp only [storeSys, State.protectedOnly_ok hpe, except_ok_bind, State.storeSelector_mem, ht]
  exact complete_eq_done b (by rw [State.segWrite_only ht])

/-- SLDT and STR at every operand (R352, R1126, R1127). -/
theorem storeSys_spec {s : State} (r : SysSeg) (b : Bound) (e : Rm) (m : Addr) :
    (s.pe = false → storeSys r b e s = deliverFault s .ud) ∧
    (s.pe = true → (∀ q, storeSys r b (.reg q) s = .next (done b s
        (if b.osz = .s16 then s.setReg .w16 q r.selector else s.setReg .w32 q (s.drawHalf ++ r.selector)))) ∧
      ∀ t, s.segWrite (m.segment b) (m.offset s.gpr) 2 r.selector.toNat = .ok t →
        storeSys r b (.mem m) s = .next (done b s t)) :=
  ⟨fun hpe => complete_protectedOnly hpe _, fun hpe => ⟨storeSys_reg hpe r, fun _ => storeSys_mem hpe⟩⟩

/-- Settles O46: each instruction passes its checks and then ends as its rule says. -/
theorem descriptorTables : Obligations.DescriptorTables := by
  intro b s e m seg off off2 settled
  refine ⟨?load, ?store, ?system, ?selector, fun hpe => ?real⟩
  case load =>
    intro hp l v hl hv t
    have ht := State.readTable_eq hp hl hv
    rw [exec_lgdtMs, exec_lidtMs, lgdt, lidt, ht]
    exact ⟨complete_eq_done b rfl, complete_eq_done b rfl⟩
  case store =>
    intro p hmem base hbits hdraw t u ht hu
    rw [eq_storedBase hbits hdraw] at hu
    simp only [List.mem_cons, List.not_mem_nil, or_false] at hmem
    rcases hmem with rfl | rfl
    · rw [exec_sgdtMs]
      exact storeTable_eq ht hu
    · rw [exec_sidtMs]
      exact storeTable_eq ht hu
  case system =>
    intro hpe hcpl sel hsel
    rw [exec_lldtEw, exec_ltrEw]
    refine ⟨lldt_of_null hpe hcpl hsel, fun addr d hd hti hs hp => ⟨?_, ?_⟩⟩
    · exact lldt_of_ldt hpe hcpl hsel hd hti hs hp
    · exact fun htype t ht => ltr_of_tss hpe hcpl hsel hd hti hs hp htype ht
  case selector =>
    intro p hmem
    simp only [List.mem_cons, List.not_mem_nil, or_false] at hmem
    rcases hmem with rfl | rfl
    · simp only [exec_sldtEw]
      exact storeSys_spec s.ldtr b e m
    · simp only [exec_strEw]
      exact storeSys_spec s.tr b e m
  case real =>
    rw [exec_lldtEw, exec_ltrEw]
    exact ⟨complete_protectedOnly hpe _, complete_protectedOnly hpe _⟩

end Sys2Proof.Machine
end

section
/-! PROOFS. LAR, LSL, VERR, VERW and ARPL (R1140 to R1144). -/
namespace Sys2Proof.Machine
open Sys2Proof Sys2Proof.Claims

theorem exec_larGvEw (b : Bound) (g : BitVec 3) (e : Rm) (s : State) :
    exec (.larGvEw b g e) s = inspectInto larType Desc.accessRights b g e s := rfl
theorem exec_lslGvEw (b : Bound) (g : BitVec 3) (e : Rm) (s : State) :
    exec (.lslGvEw b g e) s = inspectInto lslType Desc.limitAt b g e s := rfl
theorem exec_verrEw (b : Bound) (e : Rm) (s : State) : exec (.verrEw b e) s = verify Desc.readable b e s := rfl
theorem exec_verwEw (b : Bound) (e : Rm) (s : State) : exec (.verwEw b e) s = verify Desc.isWritableData b e s := rfl
theorem exec_arplEwGw (b : Bound) (e : Rm) (g : BitVec 3) (s : State) : exec (.arplEwGw b e g) s = arpl b e g s := rfl

/-! ## The descriptor of a selector -/

theorem State.inspect_none {s : State} {sel : Half} (h : isNull sel = true ∨ s.descAddr sel = none) :
    s.inspect sel = .ok none := by
  rw [State.inspect]
  split
  · rfl
  · next hn =>
    rw [h.resolve_left hn]

theorem State.inspect_some {s : State} {sel : Half} {addr : Word} {d : Desc} (h : Names s sel addr d) :
    s.inspect sel = .ok (some d) := by
  obtain ⟨hn, haddr, hread⟩ := h
  simp only [State.inspect, hn, haddr, hread, Bool.false_eq_true, if_false, except_ok_bind, except_pure]

/-- A descriptor may be seen as R1141 says. -/
theorem Desc.visible_iff {s : State} {sel : Half} {d : Desc} : d.visible s.cpl sel = true ↔
    ((d.s = true ∧ d.type.getLsbD 3 = true) ∧ d.type.getLsbD 2 = true) ∨ Visible s sel d := by
  simp only [Desc.visible, Desc.isCode, Desc.conforming, Visible, Bool.or_eq_true, Bool.and_eq_true, decide_eq_true_eq]

theorem larType_iff (t : BitVec 4) :
    larType t = true ↔ t ∈ ([0x1, 0x2, 0x3, 0x4, 0x5, 0x9, 0xB, 0xC] : List (BitVec 4)) := by
  revert t
  decide

theorem lslType_iff (t : BitVec 4) : lslType t = true ↔ t ∈ ([0x1, 0x2, 0x3, 0x9, 0xB] : List (BitVec 4)) := by
  revert t
  decide

theorem Desc.readable_iff {d : Desc} :
    d.readable = true ↔ d.s = true ∧ (d.type.getLsbD 3 = true → d.type.getLsbD 1 = true) := by
  rw [Desc.readable]
  cases d.s <;> cases d.type.getLsbD 3 <;> cases d.type.getLsbD 1 <;> decide

theorem Desc.isWritableData_iff {d : Desc} :
    d.isWritableData = true ↔ d.s = true ∧ d.type.getLsbD 3 = false ∧ d.type.getLsbD 1 = true := by
  simp only [Desc.isWritableData, Bool.and_eq_true, Bool.not_eq_true', and_assoc]

/-- LAR's mask at the two operand sizes (R1141). -/
theorem Desc.accessRights_eq (d : Desc) (z : Size) : d.accessRights z.width =
    (d.raw.extractLsb' 32 32 &&& (if z = .s32 then 0x00F0FF00#32 else 0x0000FF00#32)).setWidth _ := by
  cases z <;> rfl

/-! ## The four readers -/

section
variable {b : Bound} {s : State} {e : Rm} {sel : Half} (hpe : s.pe = true)
  (hsel : s.readLoc .w16 (s.loc b e) = .ok sel)
include hpe hsel

theorem inspectInto_none (types : BitVec 4 → Bool) (value : Desc → (w : Width) → BitVec w.bits) (g : BitVec 3)
    (h : s.inspect sel = .ok none) : inspectInto types value b g e s = .next (done b s (s.setZf false)) := by
  simp only [inspectInto, State.protectedOnly_ok hpe, hsel, h, except_ok_bind, except_pure]
  exact complete_eq_done b rfl

theorem verify_none (good : Desc → Bool) (h : s.inspect sel = .ok none) :
    verify good b e s = .next (done b s (s.setZf false)) := by
  simp only [verify, State.protectedOnly_ok hpe, hsel, h, except_ok_bind, except_pure]
  exact complete_eq_done b rfl

variable {d : Desc} (hd : s.inspect sel = .ok (some d))
include hd

/-- LAR and LSL of a descriptor that was read, the types they accept in a list. -/
theorem inspectInto_some {types : BitVec 4 → Bool} {l : List (BitVec 4)} (ht : types d.type = true ↔ d.type ∈ l)
    (value : Desc → (w : Width) → BitVec w.bits) (g : BitVec 3) :
    let seen := ((d.s = true ∧ d.type.getLsbD 3 = true) ∧ d.type.getLsbD 2 = true) ∨ Visible s sel d
    ((d.s = true ∨ d.type ∈ l) ∧ seen → inspectInto types value b g e s =
      .next (done b s ((s.setReg b.osz.width g (value d b.osz.width)).setZf true))) ∧
    (¬((d.s = true ∨ d.type ∈ l) ∧ seen) → inspectInto types value b g e s = .next (done b s (s.setZf false))) := by
  intro seen
  have hok : ((d.s || types d.type) && d.visible s.cpl sel) = true ↔ (d.s = true ∨ d.type ∈ l) ∧ seen := by
    rw [Bool.and_eq_true, Bool.or_eq_true, ht, Desc.visible_iff]
  simp only [inspectInto, State.protectedOnly_ok hpe, hsel, hd, except_ok_bind, except_pure]
  refine ⟨fun h => ?_, fun h => ?_⟩
  · rw [if_pos (hok.mpr h)]
    exact complete_eq_done b rfl
  · rw [if_neg (mt hok.mp h)]
    exact complete_eq_done b rfl

theorem verify_some (good : Desc → Bool) :
    verify good b e s = .next (done b s (s.setZf (good d && d.visible s.cpl sel))) := by
  simp only [verify, State.protectedOnly_ok hpe, hsel, hd, except_ok_bind, except_pure]
  exact complete_eq_done b rfl
end

/-! ## ARPL (R1140) -/

/-- A selector with another RPL. -/
def withRpl (d : Half) (r : BitVec 2) : Half := (d &&& 0xFFFC#16) ||| r.setWidth 16

theorem rpl_withRpl (d : Half) (r : BitVec 2) : rpl (withRpl d r) = r := by
  have hmask : ∀ i < 2, (0xFFFC#16).getLsbD i = false := by decide
  refine BitVec.eq_of_getLsbD_eq fun i hi => ?_
  simp only [rpl, withRpl, BitVec.getLsbD_setWidth, BitVec.getLsbD_or, BitVec.getLsbD_and, hmask i hi, Bool.and_false,
    Bool.false_or, hi, (by omega : i < 16), decide_true, Bool.true_and]

theorem extractLsb'_withRpl (d : Half) (r : BitVec 2) : (withRpl d r).extractLsb' 2 14 = d.extractLsb' 2 14 := by
  have hmask : ∀ i < 14, (0xFFFC#16).getLsbD (2 + i) = true := by decide
  refine BitVec.eq_of_getLsbD_eq fun i hi => ?_
  simp only [withRpl, BitVec.getLsbD_extractLsb', BitVec.getLsbD_or, BitVec.getLsbD_and, hmask i hi, Bool.and_true,
    BitVec.getLsbD_setWidth, BitVec.getLsbD_of_ge r (2 + i) (by omega), Bool.and_false, Bool.or_false]

section
variable {b : Bound} {s : State} {e : Rm} {g : BitVec 3} {d : Half} (hpe : s.pe = true)
  (hd : s.readDst .w16 (s.loc b e) = .ok d)
include hpe hd

theorem arpl_of_le (h : rpl (s.reg .w16 g) ≤ rpl d) : arpl b e g s = .next (done b s (s.setZf false)) := by
  simp only [arpl, State.protectedOnly_ok hpe, hd, except_ok_bind, except_pure, BitVec.not_lt.mpr h, decide_false,
    Bool.false_eq_true, if_false]
  exact complete_eq_done b rfl

theorem arpl_of_lt (h : rpl d < rpl (s.reg .w16 g)) {t : State}
    (ht : s.writeLoc .w16 (s.loc b e) (withRpl d (rpl (s.reg .w16 g))) = .ok t) :
    arpl b e g s = .next (done b s (t.setFlags { s.flags with zf := true })) := by
  have hst := State.writeLoc_data ht
  have hflags : t.flags = s.flags := by rw [hst]
  have heip : t.eip = s.eip := by rw [hst]
  simp only [arpl, State.protectedOnly_ok hpe, hd, except_ok_bind, except_pure, h, decide_true, if_true]
  show complete b s (s.writeLoc .w16 (s.loc b e) (withRpl d (rpl (s.reg .w16 g))) >>= fun t => .ok (t.setZf true)) = _
  rw [ht, except_ok_bind, State.setZf, hflags]
  exact complete_eq_done b heip
end

/-- Settles O49: LAR and LSL share one specification, VERR and VERW another. -/
theorem selectorInspection : Obligations.SelectorInspection := by
  intro b s e g zf
  refine ⟨?real, fun hpe sel hsel => ⟨?none, fun addr d hn => ?some⟩, fun hpe d hd => ?arpl⟩
  case real =>
    intro hpe i hi
    simp only [List.mem_cons, List.not_mem_nil, or_false] at hi
    rcases hi with rfl | rfl | rfl | rfl | rfl
    · exact (exec_larGvEw b g e s).trans (complete_protectedOnly hpe _)
    · exact (exec_lslGvEw b g e s).trans (complete_protectedOnly hpe _)
    · exact (exec_verrEw b e s).trans (complete_protectedOnly hpe _)
    · exact (exec_verwEw b e s).trans (complete_protectedOnly hpe _)
    · exact (exec_arplEwGw b e g s).trans (complete_protectedOnly hpe _)
  case none =>
    intro h i hi
    have hnone := State.inspect_none h
    simp only [List.mem_cons, List.not_mem_nil, or_false] at hi
    rcases hi with rfl | rfl | rfl | rfl
    · exact (exec_larGvEw b g e s).trans (inspectInto_none hpe hsel _ _ g hnone)
    · exact (exec_lslGvEw b g e s).trans (inspectInto_none hpe hsel _ _ g hnone)
    · exact (exec_verrEw b e s).trans (verify_none hpe hsel _ hnone)
    · exact (exec_verwEw b e s).trans (verify_none hpe hsel _ hnone)
  case some =>
    intro code seen rights
    have hd := State.inspect_some hn
    rw [exec_larGvEw, exec_lslGvEw, exec_verrEw, exec_verwEw]
    obtain ⟨hlar, hlar'⟩ := inspectInto_some hpe hsel hd (larType_iff d.type) Desc.accessRights g
    obtain ⟨hlsl, hlsl'⟩ := inspectInto_some hpe hsel hd (lslType_iff d.type) Desc.limitAt g
    refine ⟨?_, hlar', hlsl, hlsl', ⟨_, ?_, verify_some hpe hsel hd Desc.readable⟩,
      ⟨_, ?_, verify_some hpe hsel hd Desc.isWritableData⟩⟩
    · rw [Desc.accessRights_eq] at hlar
      exact hlar
    · rw [Bool.and_eq_true, Desc.readable_iff, Desc.visible_iff, and_assoc]
    · rw [Bool.and_eq_true, Desc.isWritableData_iff, Desc.visible_iff, and_assoc, and_assoc]
      refine and_congr_right fun _ => and_congr_right fun hdata => and_congr_right fun _ => or_iff_right ?_
      rintro ⟨⟨-, hcode⟩, -⟩
      exact Bool.noConfusion (hdata.symm.trans hcode)
  case arpl =>
    rw [exec_arplEwGw]
    refine ⟨arpl_of_le hpe hd, fun h => ?_⟩
    obtain ⟨t, ht⟩ := State.writeLoc_of_readDst hd (withRpl d (rpl (s.reg .w16 g)))
    exact ⟨t, _, ht, rpl_withRpl _ _, extractLsb'_withRpl _ _, arpl_of_lt hpe hd h ht⟩

end Sys2Proof.Machine
end

section
/-! PROOFS. Read-modify-write operands, and INC, DEC, NEG and NOT (R326, R506, R507, R508, R605). -/
namespace Sys2Proof.Machine
open Sys2Proof Sys2Proof.Claims

/-- An execute that wrote operands and then the flags completes (R19). -/
theorem complete_setFlags {b : Bound} {s t : State} (h : OnlyData s t) (f : Flags) :
    complete b s (.ok (t.setFlags f)) = .next (done b s (t.setFlags f)) := by
  refine complete_eq_done b ?_
  rw [State.setFlags_eip, h]

/-- An instruction whose meaning is a read-modify-write rewrites its operand (R224, R326). -/
theorem rewrites_of_rmw {i : Instr} {b : Bound} {s : State} {w : Width} {l : Loc}
    {f : BitVec w.bits → BitVec w.bits × Flags} (hi : exec i s = complete b s (s.rmw w l f)) : Rewrites i b s w l f := by
  intro a ha
  obtain ⟨t, ht⟩ := State.writeLoc_of_readDst ha (f a).1
  refine ⟨t, ht, ?_⟩
  rw [hi, State.rmw_ok.mpr ⟨a, t, ha, ht, rfl⟩]
  exact complete_setFlags (State.writeLoc_data ht) _

/-- Settles O15: each of the ten forms is a read-modify-write. -/
theorem unaryForms : Obligations.UnaryForms := fun _ _ _ _ =>
  ⟨rewrites_of_rmw rfl, rewrites_of_rmw rfl, rewrites_of_rmw rfl, rewrites_of_rmw rfl, rewrites_of_rmw rfl,
    rewrites_of_rmw rfl, rewrites_of_rmw rfl, rewrites_of_rmw rfl, rewrites_of_rmw rfl, rewrites_of_rmw rfl⟩

end Sys2Proof.Machine
end

section
/-! PROOFS. DAA, DAS, AAA, AAS, AAM and AAD (R515 to R520). -/
namespace Sys2Proof.Machine
open Sys2Proof Sys2Proof.Claims

theorem exec_daa (b : Bound) (s : State) : exec (.daa b) s = daa b s := rfl
theorem exec_das (b : Bound) (s : State) : exec (.das b) s = das b s := rfl
theorem exec_aaa (b : Bound) (s : State) : exec (.aaa b) s = aaa b s := rfl
theorem exec_aas (b : Bound) (s : State) : exec (.aas b) s = aas b s := rfl
theorem exec_aamIb (b : Bound) (imm : Byte) (s : State) : exec (.aamIb b imm) s = aam b imm s := rfl
theorem exec_aadIb (b : Bound) (imm : Byte) (s : State) : exec (.aadIb b imm) s = aad b imm s := rfl

/-! ## AL, AH and their digits -/

theorem State.lowAdjust_eq (s : State) : s.lowAdjust = (decide (9 < s.al.toNat % 16) || s.flags.af) := by
  simp only [State.lowAdjust, BitVec.lt_def, BitVec.toNat_setWidth]
  rfl

/-- The low digit of a byte. -/
theorem and_lowDigit (x : Byte) : x &&& 0x0F#8 = BitVec.ofNat 8 (x.toNat % 16) := by
  refine BitVec.eq_of_toNat_eq ?_
  rw [BitVec.toNat_ofNat, Nat.mod_eq_of_lt (by omega), BitVec.toNat_and]
  exact Nat.and_two_pow_sub_one_eq_mod x.toNat 4

theorem carry_byte (c : Bool) : carry 8 c = if c then 1 else 0 := by cases c <;> rfl

theorem add_ite_zero (a x : Byte) (c : Bool) : a + (if c then x else 0) = if c then a + x else a := by
  cases c
  · exact BitVec.add_zero a
  · rfl

theorem sub_ite_zero (a x : Byte) (c : Bool) : a - (if c then x else 0) = if c then a - x else a := by
  cases c
  · exact BitVec.sub_zero a
  · rfl

theorem Flags.szp_byte (f : Flags) (r : Byte) :
    f.szp r = { f with sf := r.msb, zf := decide (r = 0), pf := parity r } := by
  rw [Flags.szp, BitVec.setWidth_eq]
  rfl

/-! ## AAM -/

theorem aam_zero (b : Bound) (s : State) : aam b 0#8 s = deliverFault s .de := rfl

theorem aam_of_ne_zero (b : Bound) {imm : Byte} (s : State) (h : imm ≠ 0#8) : aam b imm s =
    .next (done b s (((s.setReg .w8 4 (s.al / imm)).setReg .w8 0 (s.al % imm)).setFlags
      (s.flags.szpOnly s.flagDraws (s.al % imm)))) := by
  rw [aam, beq_eq_false_iff_ne.mpr h, raiseIf_false, except_ok_bind]
  exact complete_setFlags ((State.setReg_data ..).trans (State.setReg_data ..)) _

/-- Settles O18: where no adjustment is due, 0 is added or subtracted; the low digit is the remainder by 16. -/
theorem decimalAdjust : Obligations.DecimalAdjust := by
  intro b imm s al ah low high sum dif d szp ascii
  have hal : s.al = al := rfl
  have hlow : s.lowAdjust = low := s.lowAdjust_eq
  have hhigh : (decide (0x99#8 < s.al) || s.flags.cf) = high := rfl
  refine ⟨?daa, ?das, ?aaa, ?aas, ?aam, ?aad⟩
  case daa =>
    have hsum : sum = if high then (if low then al + 6 else al) + 0x60 else if low then al + 6 else al := by
      rw [← add_ite_zero, ← add_ite_zero]
    rw [exec_daa, daa, hlow, hhigh, hal, complete_setFlags (State.setReg_data ..), Flags.szp_byte, hsum]
    rfl
  case das =>
    have hdif : dif = if high then (if low then al - 6 else al) - 0x60 else if low then al - 6 else al := by
      rw [← sub_ite_zero, ← sub_ite_zero]
    rw [exec_das, das, hlow, hhigh, hal, complete_setFlags (State.setReg_data ..), Flags.szp_byte, hdif]
    rfl
  case aaa =>
    rw [exec_aaa, aaa, hlow, and_lowDigit, carry_byte,
      complete_setFlags ((State.setReg_data ..).trans (State.setReg_data ..))]
    rfl
  case aas =>
    rw [exec_aas, aas, hlow, and_lowDigit, carry_byte,
      complete_setFlags ((State.setReg_data ..).trans (State.setReg_data ..))]
    rfl
  case aam =>
    rw [exec_aamIb]
    split
    · next h0 =>
      rw [h0]
      exact aam_zero b s
    · next h0 =>
      rw [aam_of_ne_zero b s h0, Flags.szpOnly, Flags.szp_byte, BitVec.udiv_def, BitVec.umod_def]
      rfl
  case aad =>
    rw [exec_aadIb, aad, Flags.szpOnly, Flags.szp_byte]
    exact complete_setFlags ((State.setReg_data ..).trans (State.setReg_data ..)) _

end Sys2Proof.Machine
end

section
/-! PROOFS. CMPXCHG, CMPXCHG8B and XADD (R521, R522, R523). -/
namespace Sys2Proof.Machine
open Sys2Proof Sys2Proof.Claims

theorem exec_cmpxchgEbGb (b : Bound) (e : Rm) (g : BitVec 3) (s : State) :
    exec (.cmpxchgEbGb b e g) s = cmpxchg .w8 b e g s := rfl
theorem exec_cmpxchgEvGv (b : Bound) (e : Rm) (g : BitVec 3) (s : State) :
    exec (.cmpxchgEvGv b e g) s = cmpxchg b.osz.width b e g s := rfl
theorem exec_xaddEbGb (b : Bound) (e : Rm) (g : BitVec 3) (s : State) :
    exec (.xaddEbGb b e g) s = xadd .w8 b e g s := rfl
theorem exec_xaddEvGv (b : Bound) (e : Rm) (g : BitVec 3) (s : State) :
    exec (.xaddEvGv b e g) s = xadd b.osz.width b e g s := rfl
theorem exec_cmpxchg8bMq (b : Bound) (m : Addr) (s : State) : exec (.cmpxchg8bMq b m) s = cmpxchg8b b m s := rfl

/-! ## Accesses after a register was written -/

/-- The check and the translation of an access look at no general register (R210, R222). -/
theorem State.segReadRmw_setReg (s : State) (w : Width) (q : BitVec 3) (x : BitVec w.bits) (seg : SegReg) (off : Word)
    (n : Nat) : (s.setReg w q x).segReadRmw seg off n = s.segReadRmw seg off n := by
  have hseg : (s.setReg w q x).seg seg = s.seg seg := by cases seg <;> rfl
  have hphys : ∀ lin, (s.setReg w q x).physAll .write (isUser s.cpl) lin n =
      s.physAll .write (isUser s.cpl) lin n :=
    fun lin => State.physAll_congr (s := s) (t := s.setReg w q x) rfl rfl _ _ lin n
  simp only [State.segReadRmw, State.segCheck, State.memRead, State.linear, hseg, State.setReg_cpl, hphys]
  rfl

/-- A destination that can be read can be written after a register was. -/
theorem State.writeLoc_setReg_of_readDst {s : State} {w : Width} {l : Loc} {a : BitVec w.bits}
    (h : s.readDst w l = .ok a) (q : BitVec 3) (x v : BitVec w.bits) : ∃ t, (s.setReg w q x).writeLoc w l v = .ok t := by
  cases l with
  | reg r => exact ⟨_, rfl⟩
  | mem seg off =>
    refine State.writeLoc_of_readDst (a := a) ?_ v
    rw [State.readDst, State.segReadRmw_setReg]
    exact h

/-! ## CMPXCHG and XADD at any width -/

section
variable {w : Width} {b : Bound} {e : Rm} {g : BitVec 3} {s : State} {d : BitVec w.bits}
  (hd : s.readDst w (s.loc b e) = .ok d)
include hd

/-- CMPXCHG at any width, both ways of the comparison (R521). -/
theorem cmpxchg_spec :
    (s.reg w 0 = d → ∃ t, s.writeLoc w (s.loc b e) (s.reg w g) = .ok t ∧
      cmpxchg w b e g s = .next (done b s (t.setFlags (s.flags.sub (s.reg w 0) d false)))) ∧
    (s.reg w 0 ≠ d → ∃ t, s.writeLoc w (s.loc b e) d = .ok t ∧
      cmpxchg w b e g s = .next (done b s ((t.setReg w 0 d).setFlags (s.flags.sub (s.reg w 0) d false)))) := by
  constructor
  · intro heq
    obtain ⟨t, ht⟩ := State.writeLoc_of_readDst hd (s.reg w g)
    have hc : (s.reg w 0#3 == d) = true := beq_iff_eq.mpr heq
    refine ⟨t, ht, ?_⟩
    simp only [cmpxchg, hd, hc, ht, except_ok_bind, except_pure, if_true]
    exact complete_setFlags (State.writeLoc_data ht) _
  · intro hne
    obtain ⟨t, ht⟩ := State.writeLoc_of_readDst hd d
    have hc : (s.reg w 0#3 == d) = false := beq_eq_false_iff_ne.mpr hne
    refine ⟨t, ht, ?_⟩
    simp only [cmpxchg, hd, hc, ht, except_ok_bind, except_pure, Bool.false_eq_true, if_false]
    exact complete_setFlags ((State.writeLoc_data ht).trans (State.setReg_data ..)) _

/-- XADD at any width (R523). -/
theorem xadd_spec : ∃ t, (s.setReg w g d).writeLoc w (s.loc b e) (d + s.reg w g) = .ok t ∧
    xadd w b e g s = .next (done b s (t.setFlags (s.flags.add d (s.reg w g) false))) := by
  obtain ⟨t, ht⟩ := State.writeLoc_setReg_of_readDst hd g d (d + s.reg w g)
  refine ⟨t, ht, ?_⟩
  simp only [xadd, hd, ht, except_ok_bind, except_pure]
  exact complete_setFlags ((State.setReg_data ..).trans (State.writeLoc_data ht)) _
end

/-! ## CMPXCHG8B -/

/-- What a read of n bytes gives fits in n bytes (R205). -/
theorem State.segReadRmw_lt {s : State} {seg : SegReg} {off : Word} {n v : Nat} (h : s.segReadRmw seg off n = .ok v) :
    v < 2 ^ (8 * n) := by
  obtain ⟨-, hm⟩ := State.segReadRmw_ok.mp h
  obtain ⟨ps, hp, rfl⟩ := State.memRead_ok.mp hm
  have hlen : (s.mem.readAll ps).length = n := by
    simp [Memory.readAll, (State.physAll_ok hp).1]
  rw [← hlen]
  exact leNat_lt _

/-- The value of a register pair. -/
theorem toNat_pair (hi lo : Word) : (hi ++ lo).toNat = hi.toNat * 2 ^ 32 + lo.toNat := by
  rw [BitVec.toNat_append, ← Nat.shiftLeft_add_eq_or_of_lt lo.isLt, Nat.shiftLeft_eq]

/-- CMPXCHG8B, both ways of the comparison (R522). -/
theorem cmpxchg8b_spec {b : Bound} {m : Addr} {s : State} {v : Nat}
    (hv : s.segReadRmw (m.segment b) (m.offset s.gpr) 8 = .ok v) :
    (s.gpr.edx.toNat * 2 ^ 32 + s.gpr.eax.toNat = v → ∃ t,
      s.segWrite (m.segment b) (m.offset s.gpr) 8 (s.gpr.ecx.toNat * 2 ^ 32 + s.gpr.ebx.toNat) = .ok t ∧
      cmpxchg8b b m s = .next (done b s (t.setFlags { s.flags with zf := true }))) ∧
    (s.gpr.edx.toNat * 2 ^ 32 + s.gpr.eax.toNat ≠ v → ∃ t,
      s.segWrite (m.segment b) (m.offset s.gpr) 8 v = .ok t ∧
      cmpxchg8b b m s = .next (done b s (((t.setReg .w32 2 (BitVec.ofNat 32 (v / 2 ^ 32))).setReg .w32 0
        (BitVec.ofNat 32 v)).setFlags { s.flags with zf := false }))) := by
  have hlt : v < 2 ^ 64 := State.segReadRmw_lt hv
  have hback : (BitVec.ofNat 64 v).toNat = v := by rw [BitVec.toNat_ofNat, Nat.mod_eq_of_lt hlt]
  constructor
  · intro heq
    obtain ⟨t, ht⟩ := State.segWrite_of_readRmw hv (s.gpr.ecx.toNat * 2 ^ 32 + s.gpr.ebx.toNat)
    have hc : (s.gpr.edx ++ s.gpr.eax == BitVec.ofNat 64 v) = true := by
      rw [beq_iff_eq, ← BitVec.toNat_inj, toNat_pair, hback, heq]
    refine ⟨t, ht, ?_⟩
    simp only [cmpxchg8b, hv, hc, toNat_pair, ht, except_ok_bind, except_pure, if_true]
    exact complete_setFlags (State.segWrite_only ht).data _
  · intro hne
    obtain ⟨t, ht⟩ := State.segWrite_of_readRmw hv v
    have hc : (s.gpr.edx ++ s.gpr.eax == BitVec.ofNat 64 v) = false := by
      rwa [beq_eq_false_iff_ne, ne_eq, ← BitVec.toNat_inj, toNat_pair, hback]
    have hhigh : (BitVec.ofNat 64 v).extractLsb' 32 32 = BitVec.ofNat 32 (v / 2 ^ 32) :=
      BitVec.eq_of_toNat_eq (by rw [BitVec.extractLsb'_toNat, hback, Nat.shiftRight_eq_div_pow, BitVec.toNat_ofNat])
    have hlow : (BitVec.ofNat 64 v).setWidth 32 = BitVec.ofNat 32 v :=
      BitVec.eq_of_toNat_eq (by rw [BitVec.toNat_setWidth, hback, BitVec.toNat_ofNat])
    refine ⟨t, ht, ?_⟩
    simp only [cmpxchg8b, hv, hc, hback, hhigh, hlow, ht, except_ok_bind, except_pure, Bool.false_eq_true, if_false]
    exact complete_setFlags
      (((State.segWrite_only ht).data.trans (State.setReg_data ..)).trans (State.setReg_data ..)) _

/-- Settles O19: one specification of each instruction, that of CMPXCHG and of XADD read at the two widths. -/
theorem compareExchange : Obligations.CompareExchange := by
  intro b e g s
  refine ⟨?cmpxchg, ?xadd, fun m v hv => ?cmpxchg8b⟩
  case cmpxchg =>
    intro p hp d hd
    simp only [List.mem_cons, List.not_mem_nil, or_false] at hp
    rcases hp with rfl | rfl
    · rw [exec_cmpxchgEbGb]
      exact cmpxchg_spec hd
    · rw [exec_cmpxchgEvGv]
      exact cmpxchg_spec hd
  case xadd =>
    intro p hp d hd
    simp only [List.mem_cons, List.not_mem_nil, or_false] at hp
    rcases hp with rfl | rfl
    · rw [exec_xaddEbGb]
      exact xadd_spec hd
    · rw [exec_xaddEvGv]
      exact xadd_spec hd
  case cmpxchg8b =>
    rw [exec_cmpxchg8bMq]
    exact cmpxchg8b_spec hv

end Sys2Proof.Machine
end

section
/-! PROOFS. BT, BTS, BTR and BTC (R610 to R614), BSF and BSR (R620, R621). -/
namespace Sys2Proof.Machine
open Sys2Proof Sys2Proof.Claims

theorem exec_btEvIb (b : Bound) (e : Rm) (imm : Byte) (s : State) :
    exec (.btEvIb b e imm) s = bitRmImm .bt b.osz.width b e imm s := rfl
theorem exec_btsEvIb (b : Bound) (e : Rm) (imm : Byte) (s : State) :
    exec (.btsEvIb b e imm) s = bitRmImm .bts b.osz.width b e imm s := rfl
theorem exec_btrEvIb (b : Bound) (e : Rm) (imm : Byte) (s : State) :
    exec (.btrEvIb b e imm) s = bitRmImm .btr b.osz.width b e imm s := rfl
theorem exec_btcEvIb (b : Bound) (e : Rm) (imm : Byte) (s : State) :
    exec (.btcEvIb b e imm) s = bitRmImm .btc b.osz.width b e imm s := rfl
theorem exec_btEvGv (b : Bound) (e : Rm) (g : BitVec 3) (s : State) :
    exec (.btEvGv b e g) s = bitRmReg .bt b.osz.width b e g s := rfl
theorem exec_btsEvGv (b : Bound) (e : Rm) (g : BitVec 3) (s : State) :
    exec (.btsEvGv b e g) s = bitRmReg .bts b.osz.width b e g s := rfl
theorem exec_btrEvGv (b : Bound) (e : Rm) (g : BitVec 3) (s : State) :
    exec (.btrEvGv b e g) s = bitRmReg .btr b.osz.width b e g s := rfl
theorem exec_btcEvGv (b : Bound) (e : Rm) (g : BitVec 3) (s : State) :
    exec (.btcEvGv b e g) s = bitRmReg .btc b.osz.width b e g s := rfl
theorem exec_bsfGvEv (b : Bound) (g : BitVec 3) (e : Rm) (s : State) :
    exec (.bsfGvEv b g e) s = scanRegRm lowestBit b.osz.width b g e s := rfl
theorem exec_bsrGvEv (b : Bound) (g : BitVec 3) (e : Rm) (s : State) :
    exec (.bsrGvEv b g e) s = scanRegRm highestBit b.osz.width b g e s := rfl

theorem Width.bits_pos (w : Width) : 0 < w.bits := by cases w <;> decide

/-! ## The bit tests on a located operand -/

/-- What an operation makes of the selected bit (R611 to R614). -/
def BitOp.newBit : BitOp → Bool → Bool
  | .bt, c => c
  | .bts, _ => true
  | .btr, _ => false
  | .btc, c => !c

theorem getLsbD_one_shiftLeft {m n j : Nat} (hj : j < m) : (1#m <<< n).getLsbD j = decide (j = n) := by
  rw [← BitVec.twoPow_eq, BitVec.getLsbD_twoPow, ← Bool.decide_and, decide_eq_decide]
  omega

/-- The selected bit is the new one, every other bit stays. -/
theorem BitOp.getLsbD_eval (op : BitOp) {m : Nat} (v : BitVec m) (n : Nat) : ∀ j < m,
    (op.eval v n).getLsbD j = if j = n then op.newBit (v.getLsbD n) else v.getLsbD j := by
  intro j hj
  have hbit := getLsbD_one_shiftLeft (n := n) hj
  cases op
  case bt =>
    rw [BitOp.eval, BitOp.newBit]
    split
    · next h => rw [h]
    · rfl
  case bts | btr | btc =>
    simp only [BitOp.eval, BitOp.newBit, BitVec.getLsbD_or, BitVec.getLsbD_and, BitVec.getLsbD_not, BitVec.getLsbD_xor,
      hbit]
    split <;> simp [*]

theorem bitOn_eq_rmw {op : BitOp} (hop : op ≠ .bt) (w : Width) (s : State) (l : Loc) (n : Nat) : bitOn op w s l n =
    s.rmw w l fun v => (op.eval v n, s.flags.bitTest s.flagDraws (v.getLsbD n)) := by
  cases op
  case bt => exact absurd rfl hop
  case bts | btr | btc => rfl

section
variable {i : Instr} {b : Bound} {s : State} {w : Width} {l : Loc} {n : Nat}

/-- BT completes whenever its operand can be read (R611). -/
theorem tests_of_bitOn (hi : exec i s = complete b s (bitOn .bt w s l n)) (v : BitVec w.bits)
    (hv : s.readLoc w l = .ok v) :
    exec i s = .next (done b s (s.setFlags (s.flags.bitTest s.flagDraws (v.getLsbD n)))) := by
  rw [hi, bitOn, hv, except_ok_bind, except_pure]
  exact complete_setFlags (.refl s) _

/-- BTS, BTR and BTC rewrite their operand but for the selected bit (R612, R613, R614). -/
theorem edits_of_bitOn {op : BitOp} (hop : op ≠ .bt) (hi : exec i s = complete b s (bitOn op w s l n))
    (v : BitVec w.bits) (hv : s.readDst w l = .ok v) : ∃ t r, s.writeLoc w l r = .ok t ∧
      (∀ j < w.bits, r.getLsbD j = if j = n then op.newBit (v.getLsbD n) else v.getLsbD j) ∧
      exec i s = .next (done b s (t.setFlags (s.flags.bitTest s.flagDraws (v.getLsbD n)))) := by
  rw [bitOn_eq_rmw hop] at hi
  obtain ⟨t, ht, hexec⟩ := rewrites_of_rmw hi v hv
  exact ⟨t, op.eval v n, ht, op.getLsbD_eval v n, hexec⟩
end

/-! ## The signed bit offset (R610) -/

/-- The width divides 2 ^ width, so the remainder of a bit offset is the same signed and unsigned. -/
theorem Width.toInt_emod_bits (w : Width) (k : BitVec w.bits) : k.toInt % w.bits = (k.toNat % w.bits : Nat) := by
  have hdvd : (w.bits : Int) ∣ ((2 ^ w.bits : Nat) : Int) := by cases w <;> decide
  rw [← Int.emod_emod_of_dvd _ hdvd, BitVec.toInt_eq_toNat_bmod, Int.bmod_emod, Int.emod_emod_of_dvd _ hdvd]
  rfl

theorem bitRmReg_eq {b : Bound} {w : Width} {e : Rm} {g : BitVec 3} {s : State} {l : Loc} {n : Nat}
    (h : bitLocate b w (s.loc b e) (s.reg w g) = (l, n)) (op : BitOp) :
    bitRmReg op w b e g s = complete b s (bitOn op w s l n) := by rw [bitRmReg, h]

/-! ## The bit scans -/

/-- In an ordered list, what is found stands in order before all that would pass. -/
theorem find?_rel_of_pairwise {α : Type} {R : α → α → Prop} (hrefl : ∀ x, R x x) {l : List α} (hl : l.Pairwise R)
    {p : α → Bool} {a x : α} (ha : l.find? p = some a) (hx : x ∈ l) (hp : p x = true) : R a x := by
  induction l with
  | nil => cases hx
  | cons y l ih =>
    obtain ⟨hy, hl⟩ := List.pairwise_cons.mp hl
    by_cases hpy : p y = true
    · rw [List.find?_cons_of_pos hpy, Option.some.injEq] at ha
      subst ha
      rcases List.mem_cons.mp hx with rfl | hx
      · exact hrefl x
      · exact hy x hx
    · rw [List.find?_cons_of_neg hpy] at ha
      rcases List.mem_cons.mp hx with rfl | hx
      · exact absurd hp hpy
      · exact ih hl ha hx

theorem exists_bit_of_ne_zero {m : Nat} {v : BitVec m} (hv : v.toNat ≠ 0) : ∃ i, i < m ∧ v.getLsbD i = true := by
  refine Classical.byContradiction fun h => hv (congrArg BitVec.toNat (?_ : v = 0#m))
  refine BitVec.eq_of_getLsbD_eq fun i hi => ?_
  rw [BitVec.getLsbD_zero]
  exact Bool.eq_false_iff.mpr fun hbit => h ⟨i, hi, hbit⟩

/-- The first set bit among all bit numbers in an order. -/
theorem find?_bit {m : Nat} {v : BitVec m} (hv : v.toNat ≠ 0) {R : Nat → Nat → Prop} (hrefl : ∀ i, R i i)
    {l : List Nat} (hl : l.Pairwise R) (hmem : ∀ i, i ∈ l ↔ i < m) : ∃ i, l.find? (fun i => v.getLsbD i) = some i ∧ i < m ∧
      v.getLsbD i = true ∧ ∀ j < m, v.getLsbD j = true → R i j := by
  obtain ⟨k, hk, hbit⟩ := exists_bit_of_ne_zero hv
  obtain ⟨i, hi⟩ := Option.isSome_iff_exists.mp (List.find?_isSome.mpr ⟨k, (hmem k).mpr hk, hbit⟩)
  exact ⟨i, hi, (hmem i).mp (List.mem_of_find?_eq_some hi), List.find?_some hi,
    fun j hj hset => find?_rel_of_pairwise hrefl hl hi ((hmem j).mpr hj) hset⟩

theorem lowestBit_spec {m : Nat} {v : BitVec m} (hv : v.toNat ≠ 0) :
    lowestBit v < m ∧ v.getLsbD (lowestBit v) = true ∧ ∀ j < m, v.getLsbD j = true → lowestBit v ≤ j := by
  obtain ⟨i, hi, h⟩ := find?_bit hv Nat.le_refl (List.pairwise_le_range (n := m)) (fun _ => List.mem_range)
  rwa [lowestBit, hi]

theorem highestBit_spec {m : Nat} {v : BitVec m} (hv : v.toNat ≠ 0) :
    highestBit v < m ∧ v.getLsbD (highestBit v) = true ∧ ∀ j < m, v.getLsbD j = true → j ≤ highestBit v := by
  obtain ⟨i, hi, h⟩ := find?_bit hv (R := fun i j => j ≤ i) Nat.le_refl
    (List.pairwise_reverse.mpr (List.pairwise_le_range (n := m))) (fun _ => List.mem_reverse.trans List.mem_range)
  rwa [highestBit, hi]

section
variable {w : Width} {b : Bound} {g : BitVec 3} {e : Rm} {s : State} {v : BitVec w.bits}
  (hv : s.readLoc w (s.loc b e) = .ok v)
include hv

theorem scanRegRm_zero (find : {n : Nat} → BitVec n → Nat) (h0 : v.toNat = 0) : scanRegRm find w b g e s =
    .next (done b s ((s.setReg w g (s.drawWord.setWidth _)).setFlags (s.flags.scan s.flagDraws true))) := by
  have hz : (v == 0#_) = true := beq_iff_eq.mpr (BitVec.eq_of_toNat_eq h0)
  simp only [scanRegRm, hv, hz, except_ok_bind, except_pure, if_true]
  exact complete_setFlags (State.setReg_data ..) _

theorem scanRegRm_ne_zero (find : {n : Nat} → BitVec n → Nat) (h0 : v.toNat ≠ 0) : scanRegRm find w b g e s =
    .next (done b s ((s.setReg w g (BitVec.ofNat _ (find v))).setFlags (s.flags.scan s.flagDraws false))) := by
  have hz : (v == 0#_) = false := beq_eq_false_iff_ne.mpr fun h => h0 (congrArg BitVec.toNat h)
  simp only [scanRegRm, hv, hz, except_ok_bind, except_pure, Bool.false_eq_true, if_false]
  exact complete_setFlags (State.setReg_data ..) _
end

/-- Settles O20: in memory q is the floor of the signed offset by the width, and n the remainder. -/
theorem bitInstructions : Obligations.BitInstructions := by
  refine ⟨fun b e g imm s => ?tests, fun b e g s v hv => ⟨fun h0 i hi => ?zero, fun h0 => ?nonzero⟩⟩
  case tests =>
    intro w fl tests edits
    refine ⟨⟨tests_of_bitOn (exec_btEvIb b e imm s), edits_of_bitOn (op := .bts) nofun (exec_btsEvIb b e imm s),
      edits_of_bitOn (op := .btr) nofun (exec_btrEvIb b e imm s),
      edits_of_bitOn (op := .btc) nofun (exec_btcEvIb b e imm s)⟩, ?_⟩
    have hsplit := Int.ediv_mul_add_emod (s.reg w g).toInt w.bits
    rw [Width.toInt_emod_bits] at hsplit
    refine ⟨(s.reg w g).toInt / w.bits, (s.reg w g).toNat % w.bits, Nat.mod_lt _ (Width.bits_pos w), hsplit.symm, ?_⟩
    intro l
    have hloc : bitLocate b w (s.loc b e) (s.reg w g) = (l, (s.reg w g).toNat % w.bits) := by
      cases e with
      | reg r => rfl
      | mem a =>
        simp only [l]
        rw [Int.mul_comm]
        rfl
    have hrun := bitRmReg_eq hloc
    exact ⟨tests_of_bitOn ((exec_btEvGv b e g s).trans (hrun .bt)),
      edits_of_bitOn (op := .bts) nofun ((exec_btsEvGv b e g s).trans (hrun .bts)),
      edits_of_bitOn (op := .btr) nofun ((exec_btrEvGv b e g s).trans (hrun .btr)),
      edits_of_bitOn (op := .btc) nofun ((exec_btcEvGv b e g s).trans (hrun .btc))⟩
  case zero =>
    simp only [List.mem_cons, List.not_mem_nil, or_false] at hi
    rcases hi with rfl | rfl
    · exact (exec_bsfGvEv b g e s).trans (scanRegRm_zero hv lowestBit h0)
    · exact (exec_bsrGvEv b g e s).trans (scanRegRm_zero hv highestBit h0)
  case nonzero =>
    obtain ⟨hlo, hlow, hleast⟩ := lowestBit_spec h0
    obtain ⟨hhi, hhigh, hgreatest⟩ := highestBit_spec h0
    exact ⟨lowestBit v, highestBit v, hlo, hhi, hlow, hhigh, fun j hj hset => ⟨hleast j hj hset, hgreatest j hj hset⟩,
      (exec_bsfGvEv b g e s).trans (scanRegRm_ne_zero hv lowestBit h0),
      (exec_bsrGvEv b g e s).trans (scanRegRm_ne_zero hv highestBit h0)⟩

end Sys2Proof.Machine
end

section
/-! PROOFS. SHLD and SHRD (R700, R710, R711). -/
namespace Sys2Proof.Machine
open Sys2Proof Sys2Proof.Claims

theorem exec_shldEvGvIb (b : Bound) (e : Rm) (g : BitVec 3) (imm : Byte) (s : State) :
    exec (.shldEvGvIb b e g imm) s = shld b.osz.width b e g imm s := rfl
theorem exec_shldEvGvCl (b : Bound) (e : Rm) (g : BitVec 3) (s : State) :
    exec (.shldEvGvCl b e g) s = shld b.osz.width b e g s.cl s := rfl
theorem exec_shrdEvGvIb (b : Bound) (e : Rm) (g : BitVec 3) (imm : Byte) (s : State) :
    exec (.shrdEvGvIb b e g imm) s = shrd b.osz.width b e g imm s := rfl
theorem exec_shrdEvGvCl (b : Bound) (e : Rm) (g : BitVec 3) (s : State) :
    exec (.shrdEvGvCl b e g) s = shrd b.osz.width b e g s.cl s := rfl

/-! ## The frame of a shift (R700) -/

/-- The count is taken modulo 32. -/
theorem toNat_maskedCount (count : Byte) : (count &&& 0x1F#8).toNat = count.toNat % 32 := by
  rw [BitVec.toNat_and]
  exact Nat.and_two_pow_sub_one_eq_mod count.toNat 5

section
variable {i : Instr} {w : Width} {b : Bound} {e : Rm} {count : Byte} {s : State}
  {body : BitVec w.bits → Nat → BitVec w.bits × Flags} (hi : exec i s = shiftFrame w b e count body s)
include hi

/-- A count of 0 writes the operand back. -/
theorem writesBack_of_shiftFrame (hc : count.toNat % 32 = 0) {d : BitVec w.bits}
    (hd : s.readDst w (s.loc b e) = .ok d) :
    ∃ t, s.writeLoc w (s.loc b e) d = .ok t ∧ exec i s = .next (done b s t) := by
  obtain ⟨t, ht⟩ := State.writeLoc_of_readDst hd d
  have hz : (count.toNat % 32 == 0) = true := beq_iff_eq.mpr hc
  refine ⟨t, ht, ?_⟩
  simp only [hi, shiftFrame, toNat_maskedCount, hz, if_true, hd, except_ok_bind, ht]
  exact complete_eq_done b (by rw [State.writeLoc_data ht])

/-- A count that is not 0 rewrites the operand and the flags by the instruction's own body. -/
theorem rewrites_of_shiftFrame (hc : count.toNat % 32 ≠ 0) :
    Rewrites i b s w (s.loc b e) fun d => body d (count.toNat % 32) := by
  have hnz : (count.toNat % 32 == 0) = false := beq_eq_false_iff_ne.mpr hc
  refine rewrites_of_rmw (hi.trans ?_)
  simp only [shiftFrame, toNat_maskedCount, hnz, Bool.false_eq_true, if_false]
  rfl
end

/-! ## Results and flags of the two bodies (R710, R711) -/

section
variable {f : Flags} {dr : FlagDraws} {n c : Nat} {draw src d : BitVec n}

theorem Flags.shift_eq (cf of : Bool) (r : BitVec n) : f.shift dr c cf of r = { f with
    cf := cf, of := if c = 1 then of else dr.of, af := dr.af
    zf := decide (r.toNat = 0), sf := r.msb, pf := parity (r.setWidth 8) } := by
  have hzf : (r == 0#n) = decide (r.toNat = 0) := by
    rw [Bool.beq_eq_decide_eq, decide_eq_decide, ← BitVec.toNat_inj, BitVec.toNat_zero]
  rw [Flags.shift, Flags.szp, hzf]

/-- The value of an operand and the source beside it, at any width (`toNat_pair` is the 32-bit one). -/
theorem toNat_double (x y : BitVec n) : (x ++ y).toNat = x.toNat * 2 ^ n + y.toNat := by
  rw [BitVec.toNat_append, ← Nat.shiftLeft_add_eq_or_of_lt y.isLt, Nat.shiftLeft_eq]

theorem shldBody_of_gt (h : n < c) : shldBody f dr draw src d c = (draw, f.undefined dr) := if_pos h

theorem shrdBody_of_gt (h : n < c) : shrdBody f dr draw src d c = (draw, f.undefined dr) := if_pos h

/-- The upper half of the double-width value shifted left. -/
theorem shldBody_of_le (h : c ≤ n) : ∃ r, r.toNat = (d.toNat * 2 ^ n + src.toNat) * 2 ^ c / 2 ^ n % 2 ^ n ∧
    shldBody f dr draw src d c = (r, f.shift dr c (d.getLsbD (n - c)) (r.msb ^^ d.msb) r) := by
  refine ⟨_, ?_, if_neg (Nat.not_lt.mpr h)⟩
  have hcut : (d.toNat * 2 ^ n + src.toNat) * 2 ^ c % 2 ^ (n + n) / 2 ^ n =
      (d.toNat * 2 ^ n + src.toNat) * 2 ^ c / 2 ^ n % 2 ^ n := by
    rw [Nat.pow_add, Nat.mod_mul_left_div_self]
  rw [BitVec.extractLsb'_toNat, BitVec.toNat_shiftLeft, toNat_double, Nat.shiftLeft_eq, Nat.shiftRight_eq_div_pow, hcut,
    Nat.mod_mod]

/-- The lower half of the double-width value shifted right. -/
theorem shrdBody_of_le (h : c ≤ n) : ∃ r, r.toNat = (src.toNat * 2 ^ n + d.toNat) / 2 ^ c % 2 ^ n ∧
    shrdBody f dr draw src d c = (r, f.shift dr c (d.getLsbD (c - 1)) (r.msb ^^ d.msb) r) := by
  refine ⟨_, ?_, if_neg (Nat.not_lt.mpr h)⟩
  rw [BitVec.extractLsb'_toNat, BitVec.toNat_ushiftRight, toNat_double, Nat.shiftRight_zero, Nat.shiftRight_eq_div_pow]
end

/-- A double shift ends as its body says, once for each range of the count: 0, up to the width, above it. -/
theorem doubleShift_of_body {i : Instr} {w : Width} {b : Bound} {e : Rm} {count : Byte} {s : State}
    {body : BitVec w.bits → Nat → BitVec w.bits × Flags} {d : BitVec w.bits} {cf : Bool} {value : Nat}
    (hi : exec i s = shiftFrame w b e count body s) (hd : s.readDst w (s.loc b e) = .ok d)
    (hle : count.toNat % 32 ≤ w.bits → ∃ r, r.toNat = value ∧ body d (count.toNat % 32) =
      (r, s.flags.shift s.flagDraws (count.toNat % 32) cf (r.msb ^^ d.msb) r))
    (hgt : w.bits < count.toNat % 32 → body d (count.toNat % 32) =
      (s.drawWord.setWidth w.bits, s.flags.undefined s.flagDraws)) :
    let c := count.toNat % 32
    (c = 0 → ∃ t, s.writeLoc w (s.loc b e) d = .ok t ∧ exec i s = .next (done b s t)) ∧
    (1 ≤ c → c ≤ w.bits → ∃ t r, s.writeLoc w (s.loc b e) r = .ok t ∧ r.toNat = value ∧
      exec i s = .next (done b s (t.setFlags { s.flags with
        cf := cf, of := if c = 1 then r.msb ^^ d.msb else s.flagDraws.of, af := s.flagDraws.af
        zf := decide (r.toNat = 0), sf := r.msb, pf := parity (r.setWidth 8) }))) ∧
    (w.bits < c → ∃ t, s.writeLoc w (s.loc b e) (s.drawWord.setWidth _) = .ok t ∧
      exec i s = .next (done b s (t.setFlags (s.flags.undefined s.flagDraws)))) := by
  refine ⟨fun h0 => writesBack_of_shiftFrame hi h0 hd, fun h1 hn => ?_, fun hn => ?_⟩
  · obtain ⟨r, hr, hbody⟩ := hle hn
    obtain ⟨t, ht, hexec⟩ := rewrites_of_shiftFrame hi (Nat.ne_of_gt h1) d hd
    simp only [hbody, Flags.shift_eq] at ht hexec
    exact ⟨t, r, ht, hr, hexec⟩
  · obtain ⟨t, ht, hexec⟩ := rewrites_of_shiftFrame hi (Nat.ne_of_gt (Nat.zero_lt_of_lt hn)) d hd
    simp only [hgt hn] at ht hexec
    exact ⟨t, ht, hexec⟩

/-- Settles O23: the four forms are two bodies in the frame of a shift, each with an immediate count and with CL. -/
theorem doubleShifts : Obligations.DoubleShifts := by
  intro b e g imm s w n x dr fl p hp c d hd
  simp only [List.mem_cons, List.not_mem_nil, or_false] at hp
  rcases hp with rfl | rfl | rfl | rfl
  · exact doubleShift_of_body (exec_shldEvGvIb b e g imm s) hd shldBody_of_le shldBody_of_gt
  · exact doubleShift_of_body (exec_shldEvGvCl b e g s) hd shldBody_of_le shldBody_of_gt
  · exact doubleShift_of_body (exec_shrdEvGvIb b e g imm s) hd shrdBody_of_le shrdBody_of_gt
  · exact doubleShift_of_body (exec_shrdEvGvCl b e g s) hd shrdBody_of_le shrdBody_of_gt

end Sys2Proof.Machine
end

section
/-! PROOFS. MOV and XCHG (R800 to R803, R810, R820), and the moves between registers (R815 to R829). -/
namespace Sys2Proof.Machine
open Sys2Proof Sys2Proof.Claims

/-! ## How a move completes -/

/-- An execute that wrote operands and no flag completes (R19). -/
theorem complete_data {b : Bound} {s t : State} (h : OnlyData s t) : complete b s (.ok t) = .next (done b s t) :=
  complete_eq_done b (by rw [h])

section
variable {i : Instr} {b : Bound} {s : State} {w : Width} {l : Loc}

/-- An instruction that sets one register. -/
theorem exec_of_setReg {r : BitVec 3} {v : BitVec w.bits} (hi : exec i s = complete b s (.ok (s.setReg w r v))) :
    exec i s = .next (done b s (s.setReg w r v)) :=
  hi.trans (complete_data (State.setReg_data ..))

/-- An instruction that loads a register with what it makes of an operand. -/
theorem exec_of_load {w' : Width} {r : BitVec 3} {f : BitVec w.bits → BitVec w'.bits}
    (hi : exec i s = complete b s (do
      let v ← s.readLoc w l
      return s.setReg w' r (f v)))
    {v : BitVec w.bits} (hv : s.readLoc w l = .ok v) : exec i s = .next (done b s (s.setReg w' r (f v))) := by
  rw [hv] at hi
  exact exec_of_setReg hi

/-- An instruction that moves an operand to a register of its width. -/
theorem exec_of_loadReg {r : BitVec 3}
    (hi : exec i s = complete b s (do
      let v ← s.readLoc w l
      return s.setReg w r v))
    {v : BitVec w.bits} (hv : s.readLoc w l = .ok v) : exec i s = .next (done b s (s.setReg w r v)) :=
  exec_of_load (f := id) hi hv

/-- An instruction that stores a value in an operand. -/
theorem exec_of_store {v : BitVec w.bits} (hi : exec i s = complete b s (s.writeLoc w l v)) {t : State}
    (ht : s.writeLoc w l v = .ok t) : exec i s = .next (done b s t) := by
  rw [hi, ht]
  exact complete_data (State.writeLoc_data ht)
end

/-! ## MOV from a segment register (R810) -/

theorem exec_movEwSw (b : Bound) (e : Rm) (r : SegReg) (s : State) :
    exec (.movEwSw b e r) s = complete b s (s.storeSelector b e (s.seg r).selector) := rfl

theorem movEwSw_reg (b : Bound) (q : BitVec 3) (r : SegReg) (s : State) : exec (.movEwSw b (.reg q) r) s =
    .next (done b s (if b.osz = .s16 then s.setReg .w16 q (s.seg r).selector
      else s.setReg .w32 q (s.drawHalf ++ (s.seg r).selector))) := by
  rw [exec_movEwSw, State.storeSelector_reg]
  exact complete_data (by split <;> exact State.setReg_data ..)

theorem movEwSw_mem {b : Bound} {m : Addr} {r : SegReg} {s t : State}
    (ht : s.segWrite (m.segment b) (m.offset s.gpr) 2 (s.seg r).selector.toNat = .ok t) :
    exec (.movEwSw b (.mem m) r) s = .next (done b s t) := by
  rw [exec_movEwSw, State.storeSelector_mem, ht]
  exact complete_data (State.segWrite_only ht).data

/-! ## XCHG (R820) -/

theorem xchgRmReg_spec {w : Width} {b : Bound} {e : Rm} {g : BitVec 3} {s : State} {a : BitVec w.bits}
    (ha : s.readDst w (s.loc b e) = .ok a) : ∃ t, s.writeLoc w (s.loc b e) (s.reg w g) = .ok t ∧
      xchgRmReg w b e g s = .next (done b s (t.setReg w g a)) := by
  obtain ⟨t, ht⟩ := State.writeLoc_of_readDst ha (s.reg w g)
  refine ⟨t, ht, ?_⟩
  simp only [xchgRmReg, xchgLoc, ha, ht, except_ok_bind, except_pure]
  exact complete_data ((State.writeLoc_data ht).trans (State.setReg_data ..))

theorem xchgAcc_eq (w : Width) (b : Bound) (r : BitVec 3) (s : State) : xchgAcc w b r s =
    .next (done b s ((s.setReg w r (s.reg w 0)).setReg w 0 (s.reg w r))) :=
  complete_data ((State.setReg_data ..).trans (State.setReg_data ..))

/-- Settles O24: each MOV sets a register, loads one from an operand or stores to one, and XCHG does one of each. -/
theorem moves : Obligations.Moves := by
  refine ⟨fun b e g r sr s => ⟨fun t ht => exec_of_store rfl ht, fun t ht => exec_of_store rfl ht,
    fun v hv => exec_of_loadReg rfl hv, fun v hv => exec_of_loadReg rfl hv, fun imm => exec_of_setReg rfl,
    fun imm => exec_of_setReg rfl, fun imm t ht => exec_of_store rfl ht, fun imm t ht => exec_of_store rfl ht,
    fun o v hv => exec_of_loadReg rfl hv, fun o v hv => exec_of_loadReg rfl hv,
    fun o t ht => exec_of_store rfl ht, fun o t ht => exec_of_store rfl ht, movEwSw_reg b r sr s, fun m t ht => movEwSw_mem ht⟩,
    fun b e g s => ⟨fun p hp a ha => ?operand, fun p hp => ?accumulator⟩⟩
  case operand =>
    simp only [List.mem_cons, List.not_mem_nil, or_false] at hp
    rcases hp with rfl | rfl <;> exact xchgRmReg_spec ha
  case accumulator =>
    simp only [List.mem_cons, List.not_mem_nil, or_false] at hp
    rcases hp with rfl | rfl | rfl | rfl | rfl | rfl | rfl <;> exact xchgAcc_eq b.osz.width b _ s

/-! ## The values of the moves between registers -/

theorem Size.bits_ge (z : Size) : 16 ≤ z.width.bits := by cases z <;> decide

/-- MOVZX and MOVSX keep the value, since the destination is no narrower than the source (R815, R816). -/
theorem exec_of_extension {w : Width} {b : Bound} {g : BitVec 3} {e : Rm} {s : State} (hw : w.bits ≤ b.osz.width.bits)
    {v : BitVec w.bits} (hv : s.readLoc w (s.loc b e) = .ok v) {i j : Instr} (hi : exec i s = movzx w b g e s)
    (hj : exec j s = movsx w b g e s) : ∃ x y : BitVec b.osz.width.bits, x.toNat = v.toNat ∧ y.toInt = v.toInt ∧
      exec i s = .next (done b s (s.setReg b.osz.width g x)) ∧
      exec j s = .next (done b s (s.setReg b.osz.width g y)) :=
  ⟨v.setWidth _, v.signExtend _, BitVec.toNat_setWidth_of_le hw, BitVec.toInt_signExtend_of_le hw, exec_of_load hi hv,
    exec_of_load hj hv⟩

/-- CBW and CWDE (R823). -/
theorem cbw_eq (b : Bound) (s : State) : cbw b s = .next (done b s (if b.osz = .s16
    then s.setReg .w16 0 ((s.reg .w8 0).signExtend 16) else s.setReg .w32 0 ((s.reg .w16 0).signExtend 32))) := by
  unfold cbw
  cases b.osz <;> exact complete_data (State.setReg_data ..)

/-- CWD and CDQ (R824). -/
theorem cwd_eq (b : Bound) (s : State) : cwd b s = .next (done b s (if b.osz = .s16
    then s.setReg .w16 2 (if (s.reg .w16 0).getLsbD 15 then 0xFFFF else 0)
    else s.setReg .w32 2 (if s.gpr.eax.getLsbD 31 then 0xFFFFFFFF else 0))) := by
  unfold cwd
  cases b.osz <;> exact complete_data (State.setReg_data ..)

/-- The bytes in the opposite order (R825). -/
def swapBytes (v : Word) : Word :=
  v.setWidth 8 ++ v.extractLsb' 8 8 ++ v.extractLsb' 16 8 ++ v.extractLsb' 24 8

theorem extractLsb'_swapBytes (v : Word) : ∀ k < 4,
    (swapBytes v).extractLsb' (8 * k) 8 = v.extractLsb' (8 * (3 - k)) 8 := by
  intro k hk
  ext j hj
  simp only [swapBytes, BitVec.getElem_extractLsb', BitVec.getLsbD_append, BitVec.getLsbD_setWidth,
    BitVec.getLsbD_extractLsb']
  obtain rfl | rfl | rfl | rfl : k = 0 ∨ k = 1 ∨ k = 2 ∨ k = 3 := by omega
  all_goals grind

theorem bswap_eq (b : Bound) (r : BitVec 3) (s : State) : bswap b r s = .next (done b s (if b.osz = .s16
    then s.setReg .w16 r s.drawHalf else s.setReg .w32 r (swapBytes (s.gpr.get r)))) := by
  unfold bswap
  cases b.osz <;> exact complete_data (State.setReg_data ..)

/-- The cut of an offset to the address size (R220). -/
theorem Size.cut_eq (z : Size) (v : Word) : z.cut v = if z = .s16 then (v.setWidth 16 : Half).setWidth 32 else v := by
  cases z with
  | s16 => exact and_ffff v
  | s32 => exact BitVec.and_allOnes

/-- The table entry of XLAT: the sum wraps at the address size (R827). -/
theorem xlat_offset (z : Size) (base : Word) (index : Byte) : z.cut (base + index.setWidth 32) = if z = .s16
    then ((base.setWidth 16 : Half) + index.setWidth 16).setWidth 32 else base + index.setWidth 32 := by
  rw [Size.cut_eq, BitVec.setWidth_add _ _ (by decide), BitVec.setWidth_setWidth_of_le _ (by decide)]

/-- The low byte of the flags image, as LAHF stores it (R828). -/
theorem Flags.image_low (f : Flags) : f.image.setWidth 8 =
    BitVec.ofBoolListLE [f.cf, true, f.pf, false, f.af, false, f.zf, f.sf] := by
  refine BitVec.eq_of_getLsbD_eq fun k hk => ?_
  have hlow : [f.cf, true, f.pf, false, f.af, false, f.zf, f.sf] = f.bits.take 8 := rfl
  rw [BitVec.getLsbD_setWidth, decide_eq_true hk, Bool.true_and, Flags.image_bit, BitVec.getLsbD_ofBoolListLE, hlow,
    List.getD_eq_getElem?_getD, List.getD_eq_getElem?_getD, List.getElem?_take_of_lt hk]

/-- The bits of AH in EAX (R103). -/
theorem State.getLsbD_ah (s : State) {k : Nat} (hk : k < 8) : (s.reg .w8 4#3).getLsbD k = s.gpr.eax.getLsbD (8 + k) := by
  change (s.gpr.eax.extractLsb' 8 8).getLsbD k = _
  rw [BitVec.getLsbD_extractLsb', decide_eq_true hk, Bool.true_and]

/-- SAHF (R829). -/
theorem sahf_eq (b : Bound) (s : State) : sahf b s = .next (done b s (s.setFlags { s.flags with
    sf := s.gpr.eax.getLsbD 15, zf := s.gpr.eax.getLsbD 14, af := s.gpr.eax.getLsbD 12, pf := s.gpr.eax.getLsbD 10
    cf := s.gpr.eax.getLsbD 8 })) := by
  simp (disch := decide) only [sahf, State.getLsbD_ah]
  exact complete_eq_done b rfl

/-- Settles O25: each instruction sets one register to the value above, SAHF the flags, and NOP nothing. -/
theorem registerMoves : Obligations.RegisterMoves := by
  intro b e m g r s w
  refine ⟨fun v hv => exec_of_extension (w := .w8) (Nat.le_trans (by decide) (Size.bits_ge b.osz)) hv rfl rfl,
    fun v hv => exec_of_extension (w := .w16) (Size.bits_ge b.osz) hv rfl rfl, exec_of_setReg rfl,
    ⟨_, _, BitVec.toInt_signExtend_of_le (by decide), BitVec.toInt_signExtend_of_le (by decide), cbw_eq b s⟩, cwd_eq b s,
    ⟨_, extractLsb'_swapBytes _, bswap_eq b r s⟩, fun v hv => ?xlat, ?lahf, sahf_eq b s, complete_data (.refl s)⟩
  case xlat =>
    rw [← xlat_offset] at hv
    exact exec_of_loadReg rfl hv
  case lahf =>
    rw [← Flags.image_low]
    exact exec_of_setReg rfl

end Sys2Proof.Machine
end

section
/-! PROOFS. PUSH, POP and LEAVE (R840 to R847, R851, R854). -/
namespace Sys2Proof.Machine
open Sys2Proof Sys2Proof.Claims

/-! ## The stack pointer and the slots above it, as the statements say them -/

theorem stackStep_eq (db : Bool) (x d : Word) :
    stackStep db x d = if db then x + d else ((x + d).setWidth 16 : Half).setWidth 32 := by
  rw [stackStep, and_ffff]

theorem stackStep_sp (s : State) (d : Word) : stackStep s.ss.db s.sp d = stackAt s d := by
  unfold State.sp stackAt
  cases s.ss.db with
  | true => simp only [stackStep, if_true, BitVec.add_zero]
  | false =>
    simp only [stackStep_eq, Bool.false_eq_true, if_false, BitVec.add_zero]
    rw [BitVec.setWidth_add _ _ (by decide), BitVec.setWidth_setWidth_of_le _ (by decide), BitVec.setWidth_eq]

theorem State.sp_eq (s : State) : s.sp = stackAt s 0#32 := by
  rw [← stackStep_sp, State.sp, stackStep_zero]

theorem State.dropStack_eq (s : State) (d : Word) : s.dropStack d = popped s d := by
  rw [State.dropStack, stackStep_sp, popped]

theorem slots_zero (z : Size) : slots z 0 = 0#32 := by rw [slots, Nat.zero_mul]

theorem slots_one (z : Size) : slots z 1 = z.delta := by rw [slots, Nat.one_mul, Size.delta]

theorem Size.delta_mul (z : Size) (k : Nat) : z.delta * BitVec.ofNat 32 k = slots z k := by
  rw [slots, Size.delta, ← BitVec.ofNat_mul, Nat.mul_comm]

/-- The value in a slot is what a read of the stack gives (R841). -/
theorem stackRead_of_holds {s : State} {z : Size} {k : Nat} {v : Word} (h : StackHolds s z k v) :
    s.stackRead z (slots z k) = .ok v := by
  obtain ⟨hread, -⟩ := h
  rw [State.stackRead, stackStep_sp, hread, except_ok_bind, BitVec.ofNat_toNat, BitVec.setWidth_eq, except_pure]

theorem stackRead_top_of_holds {s : State} {z : Size} {v : Word} (h : StackHolds s z 0 v) :
    s.stackRead z 0#32 = .ok v := by
  rw [← slots_zero z]
  exact stackRead_of_holds h

theorem popped_data (s : State) (d : Word) : OnlyData s (popped s d) := State.setSp_data ..

/-! ## Pushes -/

theorem State.push_of_segWrite {s t : State} {z : Size} {v : Word}
    (ht : s.segWrite .ss (stackAt s (0#32 - slots z 1)) z.bytes v.toNat = .ok t) :
    s.push z v = .ok (t.setSp (stackAt s (0#32 - slots z 1))) := by
  rw [slots_one, ← stackStep_sp] at *
  exact State.push_ok.mpr ⟨t, ht, rfl⟩

/-- An instruction whose meaning is one push (R840). -/
theorem pushes_of_push {i : Instr} {b : Bound} {s : State} {z : Size} {v : Word}
    (hi : exec i s = complete b s (s.push z v)) : Pushes i b s z v := by
  intro t ht
  rw [hi, State.push_of_segWrite ht]
  exact complete_data ((State.segWrite_only ht).data.trans (State.setSp_data ..))

theorem exec_pushEv (b : Bound) (e : Rm) (s : State) : exec (.pushEv b e) s = pushRm b e s := rfl

theorem pushEv_of_readLoc {b : Bound} {e : Rm} {s : State} {v : BitVec b.osz.width.bits}
    (hv : s.readLoc b.osz.width (s.loc b e) = .ok v) :
    exec (.pushEv b e) s = complete b s (s.push b.osz (v.setWidth 32)) := by
  rw [exec_pushEv, pushRm, hv, except_ok_bind]

/-! ## Pops -/

theorem exec_popZv (b : Bound) (r : BitVec 3) (s : State) : exec (.popZv b r) s = popReg b r s := rfl
theorem exec_popEv (b : Bound) (e : Rm) (s : State) : exec (.popEv b e) s = popRm b e s := rfl
theorem exec_leave (b : Bound) (s : State) : exec (.leave b) s = leave b s := rfl

section
variable {b : Bound} {s : State} {v : Word}

/-- POP of a register (R846). -/
theorem popReg_spec (h : StackHolds s b.osz 0 v) (r : BitVec 3) : popReg b r s =
    .next (done b s ((popped s (slots b.osz 1)).setReg b.osz.width r (v.setWidth _))) := by
  rw [popReg, stackRead_top_of_holds h, except_ok_bind, State.dropStack_eq, ← slots_one]
  exact complete_data ((popped_data ..).trans (State.setReg_data ..))

/-- POP of an operand, its address taken with the stack pointer already moved (R847). -/
theorem popRm_spec (h : StackHolds s b.osz 0 v) {e : Rm} {t : State}
    (ht : (popped s (slots b.osz 1)).writeLoc b.osz.width
      (resolve b { s.gpr with esp := stackAt s (slots b.osz 1) } e) (v.setWidth _) = .ok t) :
    popRm b e s = .next (done b s t) := by
  simp only [popRm, stackRead_top_of_holds h, except_ok_bind, stackStep_sp, ← slots_one]
  rw [← popped, ht]
  exact complete_data ((popped_data ..).trans (State.writeLoc_data ht))

/-- LEAVE (R854). -/
theorem leave_spec {bp : Word} (hbp : bp = if s.ss.db then s.gpr.ebp else (s.gpr.ebp.setWidth 16 : Half).setWidth 32)
    (hread : s.segRead .ss bp b.osz.bytes = .ok v.toNat) : leave b s = .next (done b s
      ((s.setSp (if s.ss.db then bp + slots b.osz 1 else ((bp + slots b.osz 1).setWidth 16 : Half).setWidth 32)).setReg
        b.osz.width 5 (v.setWidth _))) := by
  have hframe : stackStep s.ss.db s.gpr.ebp 0#32 = bp := by rw [hbp, stackStep_eq, BitVec.add_zero]
  simp only [leave, hframe, hread, except_ok_bind, BitVec.ofNat_toNat, ← slots_one, stackStep_eq]
  exact complete_data ((State.setSp_data ..).trans (State.setReg_data ..))
end

/-- Settles O28: every PUSH is one push of its value; POP and LEAVE by their specifications. -/
theorem pushPopForms : Obligations.PushPopForms := by
  refine ⟨fun b e r s => ⟨pushes_of_push rfl, fun v hv => pushes_of_push (pushEv_of_readLoc hv),
      fun imm => pushes_of_push rfl, fun imm => pushes_of_push rfl, fun p hp => ?segment, pushes_of_push rfl⟩,
    fun b e r s v => ⟨fun h => ?popZv, fun h t ht => ?popEv, fun bp hbp hread => ?leave⟩⟩
  case segment =>
    simp only [List.mem_cons, List.not_mem_nil, or_false] at hp
    rcases hp with rfl | rfl | rfl | rfl | rfl | rfl <;> exact pushes_of_push rfl
  case popZv =>
    rw [exec_popZv]
    exact popReg_spec h r
  case popEv =>
    rw [exec_popEv]
    exact popRm_spec h ht
  case leave =>
    rw [exec_leave]
    exact leave_spec hbp hread

end Sys2Proof.Machine
end

section
/-! PROOFS. PUSHA, POPA and ENTER (R849, R850, R853). -/
namespace Sys2Proof.Machine
open Sys2Proof Sys2Proof.Claims

/-! ## Registers loaded one after another -/

/-- Several registers loaded at one operand size, the first of the list first. -/
def State.setRegs (s : State) (z : Size) : List (BitVec 3 × Word) → State
  | [] => s
  | p :: ps => (s.setReg z.width p.1 (p.2.setWidth _)).setRegs z ps

theorem State.setReg_get_other (s : State) (z : Size) {r q : BitVec 3} (v : BitVec z.width.bits) (h : q ≠ r) :
    (s.setReg z.width r v).gpr.get q = s.gpr.get q :=
  Gpr.get_write_other _ _ _ _ _ (by cases z <;> exact h)

/-- A view depends on its own register alone. -/
theorem State.reg_congr {s t : State} {q : BitVec 3} (z : Size) (h : t.gpr.get q = s.gpr.get q) :
    t.reg z.width q = s.reg z.width q := by
  cases z with
  | s16 => exact congrArg (BitVec.setWidth 16) h
  | s32 => exact h

/-- A 16-bit load keeps the upper half of its register (R102). -/
theorem State.setReg_w16_high (s : State) (r q : BitVec 3) (v : Half) :
    ((s.setReg .w16 r v).gpr.get q).extractLsb' 16 16 = (s.gpr.get q).extractLsb' 16 16 := by
  by_cases h : q = r
  · subst h
    rw [State.setReg_gpr, Gpr.write, Gpr.get_set_same, BitVec.extractLsb'_append_eq_of_le (Nat.le_refl 16)]
    exact BitVec.extractLsb'_eq_self
  · rw [State.setReg_get_other s .s16 v h]

/-- The state differs from s in general registers only. -/
def OnlyRegs (s t : State) : Prop := t = { s with gpr := t.gpr }

theorem OnlyRegs.trans {s t u : State} (h : OnlyRegs s t) (g : OnlyRegs t u) : OnlyRegs s u := by
  unfold OnlyRegs at *
  rw [g, h]

section
variable (s : State) (z : Size) (l : List (BitVec 3 × Word))

theorem State.setRegs_only : OnlyRegs s (s.setRegs z l) := by
  induction l generalizing s with
  | nil => rfl
  | cons p ps ih => exact ih _

theorem State.setRegs_get_other {q : BitVec 3} (h : q ∉ l.map Prod.fst) :
    (s.setRegs z l).gpr.get q = s.gpr.get q := by
  induction l generalizing s with
  | nil => rfl
  | cons p ps ih =>
    rw [List.map_cons, List.mem_cons, not_or] at h
    obtain ⟨hp, hps⟩ := h
    exact (ih _ hps).trans (State.setReg_get_other _ _ _ hp)

theorem State.setRegs_reg (hl : (l.map Prod.fst).Nodup) :
    ∀ p ∈ l, (s.setRegs z l).reg z.width p.1 = p.2.setWidth _ := by
  induction l generalizing s with
  | nil => exact fun p hp => absurd hp List.not_mem_nil
  | cons p ps ih =>
    rw [List.map_cons, List.nodup_cons] at hl
    obtain ⟨hp, hps⟩ := hl
    intro q hq
    rcases List.mem_cons.mp hq with rfl | hq
    · exact (State.reg_congr z (State.setRegs_get_other _ z ps hp)).trans (State.setReg_reg_same ..)
    · exact ih _ hps q hq

theorem State.setRegs_high (hz : z.width = .w16) (q : BitVec 3) :
    ((s.setRegs z l).gpr.get q).extractLsb' 16 16 = (s.gpr.get q).extractLsb' 16 16 := by
  obtain rfl : z = .s16 := by cases z with
    | s16 => rfl
    | s32 => cases hz
  induction l generalizing s with
  | nil => rfl
  | cons p ps ih => exact (ih _).trans (State.setReg_w16_high ..)
end

/-! ## The stack pointer written -/

theorem State.setSp_only (s : State) (v : Word) : OnlyRegs s (s.setSp v) := by
  unfold State.setSp
  split <;> rfl

theorem State.setSp_get_other (s : State) (v : Word) {q : BitVec 3} (h : q ≠ 4) :
    (s.setSp v).gpr.get q = s.gpr.get q := by
  unfold State.setSp
  split
  · exact State.setReg_get_other s .s32 v h
  · exact State.setReg_get_other s .s16 _ h

/-- ESP after a stack pointer write: its upper half stays when SS is a 16-bit stack (R840). -/
theorem State.setSp_get_sp (s : State) (v : Word) : (s.setSp v).gpr.get 4#3 =
    if s.ss.db then v else (s.gpr.get 4#3).extractLsb' 16 16 ++ v.setWidth 16 := by
  unfold State.setSp
  split <;> exact Gpr.get_set_same s.gpr 4#3 _

/-- Where the stack pointer ends depends on ESP and SS alone (R841). -/
theorem popped_esp_congr {s t : State} (hss : t.ss = s.ss) (hesp : t.gpr.esp = s.gpr.esp) (d : Word) :
    (popped t d).gpr.esp = (popped s d).gpr.esp := by
  have hget : t.gpr.get 4#3 = s.gpr.get 4#3 := hesp
  have hat : stackAt t d = stackAt s d := by rw [stackAt, hss, hesp, stackAt]
  change (popped t d).gpr.get 4#3 = (popped s d).gpr.get 4#3
  rw [popped, popped, State.setSp_get_sp, State.setSp_get_sp, hss, hget, hat]

/-! ## PUSHA and POPA -/

theorem exec_pusha (b : Bound) (s : State) : exec (.pusha b) s = pusha b s := rfl
theorem exec_popa (b : Bound) (s : State) : exec (.popa b) s = popa b s := rfl
theorem exec_enterIwIb (b : Bound) (size : Half) (level : Byte) (s : State) :
    exec (.enterIwIb b size level) s = enter b size level s := rfl

/-- PUSHA: pushes that succeed pass the check made before them (R849). -/
theorem pusha_of_pushAll {b : Bound} {s t : State} (ht : s.pushAll b.osz [s.gpr.eax, s.gpr.ecx, s.gpr.edx, s.gpr.ebx,
    s.gpr.esp, s.gpr.ebp, s.gpr.esi, s.gpr.edi] = .ok t) : pusha b s = .next (done b s t) := by
  have hcheck : s.checkStack (.ss 0#32) b.osz 8 = .ok () := State.checkStack_of_pushAll ht _
  rw [pusha, hcheck, except_ok_bind, ht]
  exact complete_data (State.pushAll_data ht)

/-- The state POPA leaves: seven registers loaded, then the stack pointer moved (R850). -/
def poppedRegs (s : State) (z : Size) (l : List (BitVec 3 × Word)) : State := popped (s.setRegs z l) (slots z 8)

section
variable (s : State) (z : Size) (l : List (BitVec 3 × Word))

theorem poppedRegs_only : OnlyRegs s (poppedRegs s z l) := (State.setRegs_only ..).trans (State.setSp_only ..)

theorem poppedRegs_get {q : BitVec 3} (hq : q ≠ 4) : (poppedRegs s z l).gpr.get q = (s.setRegs z l).gpr.get q :=
  State.setSp_get_other _ _ hq

theorem poppedRegs_esp (h4 : 4 ∉ l.map Prod.fst) :
    (poppedRegs s z l).gpr.esp = (popped s (slots z 8)).gpr.esp :=
  popped_esp_congr (by rw [State.setRegs_only]) (State.setRegs_get_other s z l h4) _

theorem poppedRegs_reg (hl : (l.map Prod.fst).Nodup) (h4 : 4 ∉ l.map Prod.fst) : ∀ p ∈ l,
    (poppedRegs s z l).reg z.width p.1 = p.2.setWidth _ ∧ (z.width = .w16 →
      ((poppedRegs s z l).gpr.get p.1).extractLsb' 16 16 = (s.gpr.get p.1).extractLsb' 16 16) := by
  intro p hp
  have hget : (poppedRegs s z l).gpr.get p.1 = (s.setRegs z l).gpr.get p.1 :=
    poppedRegs_get s z l fun h => h4 (h ▸ List.mem_map_of_mem hp)
  refine ⟨(State.reg_congr z hget).trans (State.setRegs_reg s z l hl p hp), fun hz => ?_⟩
  rw [hget, State.setRegs_high s z l hz]
end

/-- The slots POPA loads, by rising distance from the stack pointer (R850). -/
theorem popa_spec {b : Bound} {s : State} {di si bp sp bx dx cx ax : Word} (hdi : StackHolds s b.osz 0 di)
    (hsi : StackHolds s b.osz 1 si) (hbp : StackHolds s b.osz 2 bp) (hsp : StackHolds s b.osz 3 sp)
    (hbx : StackHolds s b.osz 4 bx) (hdx : StackHolds s b.osz 5 dx) (hcx : StackHolds s b.osz 6 cx)
    (hax : StackHolds s b.osz 7 ax) : popa b s = .next (done b s
      (poppedRegs s b.osz [(7, di), (6, si), (5, bp), (3, bx), (2, dx), (1, cx), (0, ax)])) := by
  have hread1 : s.stackRead b.osz b.osz.delta = .ok si := by
    rw [← slots_one]
    exact stackRead_of_holds hsi
  simp only [popa, Size.delta_mul, stackRead_top_of_holds hdi, hread1, stackRead_of_holds hbp, stackRead_of_holds hsp,
    stackRead_of_holds hbx, stackRead_of_holds hdx, stackRead_of_holds hcx, stackRead_of_holds hax, except_ok_bind,
    State.dropStack_eq, except_pure]
  exact complete_eq_done b (State.setSp_eip ..)

/-! ## ENTER -/

/-- ENTER, the frame pointer of the new frame being the stack pointer after the first push (R853). -/
theorem enter_spec {b : Bound} {size : Half} {level : Byte} {s s1 s2 s3 : State} (h1 : s.push b.osz s.gpr.ebp = .ok s1)
    (h2 : if level.toNat % 32 = 0 then s2 = s1
      else enterCopies b.osz (level.toNat % 32 - 1) s1 = .ok s3 ∧ s3.push b.osz (stackAt s1 0) = .ok s2) :
    enter b size level s = .next (done b s
      (popped (s2.setReg b.osz.width 5 ((stackAt s1 0).setWidth _)) (0#32 - size.setWidth 32))) := by
  have hframe : s1.sp = stackAt s1 0 := s1.sp_eq
  have hend {u : State} (hu : OnlyData s1 u) (v : BitVec b.osz.width.bits) (d : Word) :
      OnlyData s (popped (u.setReg b.osz.width 5 v) d) :=
    (((State.push_data h1).trans hu).trans (State.setReg_data ..)).trans (popped_data ..)
  simp only [enter, h1, hframe, except_ok_bind, except_pure, beq_iff_eq, State.dropStack_eq]
  split at h2
  next h0 =>
    subst h2
    rw [if_pos h0]
    exact complete_data (hend (.refl _) _ _)
  next h0 =>
    obtain ⟨hcopies, hpush⟩ := h2
    rw [if_neg h0, hcopies, except_ok_bind, hpush, except_ok_bind]
    exact complete_data (hend ((enterCopies_data hcopies).trans (State.push_data hpush)) _ _)

/-- Settles O30: the three specifications, that of POPA read on its seven registers. -/
theorem pushPopAll : Obligations.PushPopAll := by
  intro b s z w
  refine ⟨fun t ht => ?pusha, fun di si bp sp bx dx cx ax hdi hsi hbp hsp hbx hdx hcx hax => ?popa,
    fun size level s1 s2 s3 h1 h2 => ?enter⟩
  case pusha =>
    rw [exec_pusha]
    exact pusha_of_pushAll ht
  case popa =>
    let l : List (BitVec 3 × Word) := [(7, di), (6, si), (5, bp), (3, bx), (2, dx), (1, cx), (0, ax)]
    have hkeys : l.map Prod.fst = [7, 6, 5, 3, 2, 1, 0] := rfl
    have h4 : 4 ∉ l.map Prod.fst := by rw [hkeys]; decide
    have hreg := poppedRegs_reg s z l (by rw [hkeys]; decide) h4
    refine ⟨poppedRegs s z l, fun p hp => hreg p ?_, poppedRegs_esp s z l h4, poppedRegs_only s z l, ?_⟩
    · exact List.mem_reverse.mp hp
    · rw [exec_popa]
      exact popa_spec hdi hsi hbp hsp hbx hdx hcx hax
  case enter =>
    rw [exec_enterIwIb]
    exact enter_spec h1 h2

end Sys2Proof.Machine
end

section
/-! PROOFS. BOUND (R980). -/
namespace Sys2Proof.Machine
open Sys2Proof Sys2Proof.Claims

theorem exec_boundGvMa (b : Bound) (g : BitVec 3) (m : Addr) (s : State) :
    exec (.boundGvMa b g m) s = bound b g m s := rfl

/-! ## The index and its bounds, in both readings of the upper one (log 24) -/

section
variable {i lo hi : Int}

theorem outOfBounds_of_inside (hlo : lo ≤ i) (hhi : i < hi) : outOfBounds i lo hi = false := by
  simp only [outOfBounds, Bool.or_eq_false_iff]
  refine ⟨decide_eq_false (by omega), ?_⟩
  split <;> exact decide_eq_false (by omega)

theorem outOfBounds_of_outside (h : i < lo ∨ hi < i) : outOfBounds i lo hi = true := by
  simp only [outOfBounds, Bool.or_eq_true, decide_eq_true_eq]
  refine h.imp_right fun hhi => ?_
  split <;> exact decide_eq_true (by omega)

theorem outOfBounds_upper (hlo : lo ≤ hi) : outOfBounds hi lo hi = !Config.boundUpperInclusive := by
  rw [outOfBounds, decide_eq_false (by omega), Bool.false_or, decide_eq_false (by omega), decide_eq_true (by omega)]
  cases Config.boundUpperInclusive <;> rfl
end

/-- BOUND with both bounds read: #BR, or nothing but EIP (R980). -/
theorem bound_eq {b : Bound} {g : BitVec 3} {m : Addr} {s : State} {lo hi : BitVec b.osz.width.bits}
    (hlo : s.readLoc b.osz.width (.mem (m.segment b) (m.offset s.gpr)) = .ok lo)
    (hhi : s.readLoc b.osz.width (.mem (m.segment b) (indexOf b (m.offset s.gpr + BitVec.ofNat 32 b.osz.bytes)))
      = .ok hi) : bound b g m s =
    if outOfBounds (s.reg b.osz.width g).toInt lo.toInt hi.toInt = true then deliverFault s .br
    else .next (done b s s) := by
  simp only [bound, hlo, offAfter_eq_indexOf, hhi, except_ok_bind, except_pure, raiseIf_bind]
  split
  · exact complete_raise b s .br
  · exact complete_data (.refl s)

/-- Settles O41: BOUND raises #BR when the index is out of bounds, read on each side of its bounds. -/
theorem boundCheck : Obligations.BoundCheck := by
  intro b g m s lo hi hlo hhi i
  rw [exec_boundGvMa, bound_eq hlo hhi]
  refine ⟨fun h1 h2 => ?inside, fun h => ?outside, fun h1 h2 => ?upper⟩
  case inside => rw [outOfBounds_of_inside h1 h2, if_neg Bool.false_ne_true]
  case outside => rw [outOfBounds_of_outside h, if_pos rfl]
  case upper =>
    change (s.reg b.osz.width g).toInt = _ at h2
    rw [h2, outOfBounds_upper (h2 ▸ h1)]
    cases Config.boundUpperInclusive <;> rfl

end Sys2Proof.Machine
end

section
/-! PROOFS. Far JMP, CALL, RET and IRET in real mode (R920 to R925, R929 to R931, R950, R960). -/
namespace Sys2Proof.Machine
open Sys2Proof Sys2Proof.Claims

theorem exec_jmpAp (b : Bound) (off : Word) (sel : Half) (s : State) :
    exec (.jmpAp b off sel) s = jmpFar b off sel s := rfl
theorem exec_callAp (b : Bound) (off : Word) (sel : Half) (s : State) :
    exec (.callAp b off sel) s = callFar b off sel s := rfl
theorem exec_jmpMp (b : Bound) (m : Addr) (s : State) : exec (.jmpMp b m) s = jmpFarMem b m s := rfl
theorem exec_callMp (b : Bound) (m : Addr) (s : State) : exec (.callMp b m) s = callFarMem b m s := rfl
theorem exec_retf (b : Bound) (s : State) : exec (.retf b) s = retFar b 0#16 s := rfl
theorem exec_retfIw (b : Bound) (rel : Half) (s : State) : exec (.retfIw b rel) s = retFar b rel s := rfl
theorem exec_iret (b : Bound) (s : State) : exec (.iret b) s = iret b s := rfl

/-! ## How a transfer ends -/

/-- An execute of a class other than none that succeeds leaves what the statements call `doneAs` (R19, R270, R470). -/
theorem completeAs_eq_doneAs {c : FlowClass} (hc : c ≠ .none) (s t : State) :
    completeAs c s (.ok t) = .next (doneAs c s t) := by
  rw [completeAs_ok, retire, doneAs, Bool.and_true]
  cases c with
  | none => exact absurd rfl hc
  | _ => rfl

theorem completeAs_refuse (c : FlowClass) (s : State) (r : Refusal) :
    completeAs c s (.error (.refuse r)) = .refused r := rfl

theorem Size.cut_eq_target (z : Size) (v : Word) : z.cut v = target z v := Size.cut_eq z v

/-- What a real-mode transfer to the offset o comes to, u being the state it leaves: nothing past CS.limit (R930). -/
def realTransfer (c : FlowClass) (s : State) (o : Word) (u : State) : Result :=
  if s.cs.limit.toNat < o.toNat then .refused .realModeLimit else .next (doneAs c s u)

theorem realTransfer_inside {c : FlowClass} {s : State} {o : Word} (u : State) (h : o.toNat ≤ s.cs.limit.toNat) :
    realTransfer c s o u = .next (doneAs c s u) := if_neg (by omega)

theorem realTransfer_past {c : FlowClass} {s : State} {o : Word} (u : State) (h : s.cs.limit.toNat < o.toNat) :
    realTransfer c s o u = .refused .realModeLimit := if_pos h

/-- The limit check as the model writes it, before the rest of an execute. -/
theorem completeAs_limit {c : FlowClass} (hc : c ≠ .none) (s : State) (o : Word) (u : State) :
    completeAs c s (refuseIf (decide (s.cs.limit < o)) .realModeLimit >>= fun _ => .ok u) = realTransfer c s o u := by
  simp only [refuseIf_bind, decide_eq_true_eq, BitVec.lt_def, realTransfer]
  split
  · exact completeAs_refuse c s _
  · exact completeAs_eq_doneAs hc s u

theorem stackRead_second_of_holds {s : State} {z : Size} {v : Word} (h : StackHolds s z 1 v) :
    s.stackRead z z.delta = .ok v := by
  rw [← slots_one]
  exact stackRead_of_holds h

/-! ## The state a transfer leaves -/

/-- CS and EIP replaced. -/
def State.jumpTo (s : State) (cs : SegCache) (o : Word) : State := { s with cs := cs, eip := o }

/-- What IRET restores besides CS and EIP: the flags, and NMI unblocked (R960). -/
def State.unblock (s : State) (f : Flags) : State := { s with flags := f, nmiBlocked := false }

/-- The stack pointer is written by what SS says, so it may be written before CS, EIP and the flags are. -/
theorem State.setSp_jumpTo (s : State) (cs : SegCache) (o v : Word) :
    (s.jumpTo cs o).setSp v = (s.setSp v).jumpTo cs o := by
  cases h : s.ss.db <;> simp only [State.setSp, State.jumpTo, h, Bool.false_eq_true, if_true, if_false] <;> rfl

theorem State.setSp_unblock (s : State) (f : Flags) (v : Word) : (s.unblock f).setSp v = (s.setSp v).unblock f := by
  cases h : s.ss.db <;> simp only [State.setSp, State.unblock, h, Bool.false_eq_true, if_true, if_false] <;> rfl

theorem popped_jumpTo (s : State) (cs : SegCache) (o d : Word) :
    popped (s.jumpTo cs o) d = (popped s d).jumpTo cs o := State.setSp_jumpTo s cs o _

/-! ## Each transfer -/

section
variable {b : Bound} {s : State} {off : Word} {sel : Half} (hpe : s.pe = false)
include hpe

theorem jmpAp_real : exec (.jmpAp b off sel) s =
    realTransfer .unknownTarget s (target b.osz off) (s.jumpTo (s.cs.realLoad sel) (target b.osz off)) := by
  simp only [exec_jmpAp, jmpFar, State.farJump, hpe, Bool.not_false, if_true, Size.cut_eq_target]
  exact completeAs_limit (by decide) s _ _

/-- The far pointer read, an indirect JMP is the direct one (R921). -/
theorem jmpMp_real {m : Addr} (hm : s.readFarPtr b m = .ok (off, sel)) : exec (.jmpMp b m) s =
    realTransfer .unknownTarget s (target b.osz off) (s.jumpTo (s.cs.realLoad sel) (target b.osz off)) := by
  rw [exec_jmpMp, jmpFarMem, hm]
  exact jmpAp_real hpe

section
variable {t : State} (ht : s.pushAll b.osz [slot b.osz s.drawHalf2 s.cs.selector, nextEip b s] = .ok t)
include ht

/-- Pushes that succeed pass the check made before them and keep CS (R931). -/
theorem callAp_real : exec (.callAp b off sel) s =
    realTransfer .call s (target b.osz off) (t.jumpTo (s.cs.realLoad sel) (target b.osz off)) := by
  have hcheck : s.checkStack (.ss 0#32) b.osz 2 = .ok () := State.checkStack_of_pushAll ht _
  have hpush : s.pushAll b.osz [slot b.osz s.drawHalf2 s.cs.selector, s.next b] = .ok t := ht
  have hcs : s.cs.realLoad sel = t.cs.realLoad sel := by rw [State.pushAll_data ht]
  simp only [exec_callAp, callFar, State.farCall, hpe, Bool.not_false, if_true, Size.cut_eq_target, hcheck, hpush,
    except_ok_bind]
  rw [hcs]
  exact completeAs_limit (by decide) s _ _

theorem callMp_real {m : Addr} (hm : s.readFarPtr b m = .ok (off, sel)) : exec (.callMp b m) s =
    realTransfer .call s (target b.osz off) (t.jumpTo (s.cs.realLoad sel) (target b.osz off)) := by
  rw [exec_callMp, callFarMem, hm]
  exact callAp_real hpe ht
end

section
variable {x : Word} (hoff : StackHolds s b.osz 0 off) (hx : StackHolds s b.osz 1 x)
include hoff hx

theorem retfIw_real (rel : Half) : exec (.retfIw b rel) s = realTransfer .ret s (target b.osz off)
    ((popped s (slots b.osz 2 + rel.setWidth 32)).jumpTo (s.cs.realLoad (x.setWidth 16)) (target b.osz off)) := by
  simp only [exec_retfIw, retFar, State.farReturn, stackRead_top_of_holds hoff, stackRead_second_of_holds hx,
    except_ok_bind, hpe, Bool.not_false, if_true, Size.cut_eq_target, State.dropStack_eq, Size.delta_mul, except_pure]
  rw [← popped_jumpTo]
  exact completeAs_limit (by decide) s _ _

/-- RETF releases nothing (R924, R925). -/
theorem retf_real : exec (.retf b) s = realTransfer .ret s (target b.osz off)
    ((popped s (slots b.osz 2)).jumpTo (s.cs.realLoad (x.setWidth 16)) (target b.osz off)) := by
  have hzero : slots b.osz 2 + (0#16 : Half).setWidth 32 = slots b.osz 2 := BitVec.add_zero _
  rw [exec_retf, ← exec_retfIw, retfIw_real hpe hoff hx, hzero]

theorem iret_real {fl : Word} (hfl : StackHolds s b.osz 2 fl) : exec (.iret b) s =
    realTransfer .ret s (target b.osz off)
      (((popped s (slots b.osz 3)).jumpTo (s.cs.realLoad (x.setWidth 16)) (target b.osz off)).unblock
        (s.flags.setImage fl (if b.osz = .s32 then 0x00257FD5#32 else 0x00007FD5#32))) := by
  simp only [exec_iret, iret, State.iretReal, hpe, Bool.not_false, if_true, stackRead_top_of_holds hoff,
    stackRead_second_of_holds hx, Size.delta_mul, stackRead_of_holds hfl, except_ok_bind, Size.cut_eq_target,
    stackStep_sp, except_pure, beq_iff_eq]
  rw [popped, ← State.setSp_jumpTo, ← State.setSp_unblock]
  exact completeAs_limit (by decide) s _ _
end
end

/-- Settles O33: each transfer comes to a `realTransfer`, read inside CS.limit and past it. -/
theorem farTransfersReal : Obligations.FarTransfersReal := by
  intro b s off sel rel hpe cs o
  constructor
  · intro hin
    refine ⟨(jmpAp_real hpe).trans (realTransfer_inside _ hin),
      fun t ht => (callAp_real hpe ht).trans (realTransfer_inside _ hin),
      fun m hm => ⟨(jmpMp_real hpe hm).trans (realTransfer_inside _ hin),
        fun t ht => (callMp_real hpe ht hm).trans (realTransfer_inside _ hin)⟩, fun x hoff hx hsel => ?_⟩
    subst hsel
    exact ⟨(retf_real hpe hoff hx).trans (realTransfer_inside _ hin),
      (retfIw_real hpe hoff hx rel).trans (realTransfer_inside _ hin),
      fun fl hfl => (iret_real hpe hoff hx hfl).trans (realTransfer_inside _ hin)⟩
  · intro hpast no
    exact ⟨(jmpAp_real hpe).trans (realTransfer_past _ hpast),
      fun m hm => (jmpMp_real hpe hm).trans (realTransfer_past _ hpast),
      fun t ht => ⟨(callAp_real hpe ht).trans (realTransfer_past _ hpast),
        fun m hm => (callMp_real hpe ht hm).trans (realTransfer_past _ hpast)⟩,
      fun x hoff hx => ⟨(retf_real hpe hoff hx).trans (realTransfer_past _ hpast),
        (retfIw_real hpe hoff hx rel).trans (realTransfer_past _ hpast),
        fun fl hfl => (iret_real hpe hoff hx hfl).trans (realTransfer_past _ hpast)⟩⟩

end Sys2Proof.Machine
end

section
/-! PROOFS. The repeat protocol and the string instructions (R1000 to R1003, R1010 to R1014). -/
namespace Sys2Proof.Machine
open Sys2Proof Sys2Proof.Claims

/-! ## Pointers and count (R1000, R1001) -/

/-- The cut of an offset register to the address size, as the statements write it (R1000). -/
theorem Size.cut_eq_indexOf (b : Bound) (v : Word) : b.asz.cut v = indexOf b v := Size.cut_eq b.asz v

theorem State.srcIndex_eq (s : State) (b : Bound) : s.srcIndex b = indexOf b s.gpr.esi := Size.cut_eq_indexOf b _

theorem State.dstIndex_eq (s : State) (b : Bound) : s.dstIndex b = indexOf b s.gpr.edi := Size.cut_eq_indexOf b _

theorem Bound.srcSeg_eq (b : Bound) : Bound.srcSeg b = b.seg.getD .ds := rfl

theorem State.setAddrReg_get_other (s : State) (b : Bound) {r q : BitVec 3} (v : Word) (h : q ≠ r) :
    (s.setAddrReg b r v).gpr.get q = s.gpr.get q := by
  unfold State.setAddrReg
  split <;> exact Gpr.get_write_other _ _ _ _ _ h

/-- A count that is not 0 goes down by one without wrapping at the address size (R1002). -/
theorem State.cut_count_pred {s : State} {b : Bound} (h : s.count b ≠ 0#32) :
    b.asz.cut (s.count b - 1#32) = s.count b - 1#32 := by
  rw [State.count, Size.cut_eq] at *
  rw [Size.cut_eq]
  split
  · next hz =>
    rw [if_pos hz] at h
    bv_omega
  · rfl

@[simp] theorem stepped_eip (b : Bound) (w : Width) (s : State) (r : BitVec 3) (p : Word) :
    (stepped b w s r p).eip = s.eip := State.setAddrReg_eip ..

@[simp] theorem stepped_flags (b : Bound) (w : Width) (s : State) (r : BitVec 3) (p : Word) :
    (stepped b w s r p).flags = s.flags := State.setAddrReg_flags ..

/-- Stepping the source pointer leaves the destination pointer. -/
@[simp] theorem stepped_edi (b : Bound) (w : Width) (s : State) (p : Word) :
    (stepped b w s 6#3 p).gpr.edi = s.gpr.edi := State.setAddrReg_get_other s b (r := 6#3) (q := 7#3) _ (by decide)

theorem State.stepSrc_eq (b : Bound) (w : Width) (s : State) : s.stepSrc b w = stepped b w s 6#3 s.gpr.esi := rfl

theorem State.stepDst_eq (b : Bound) (w : Width) (s : State) : s.stepDst b w = stepped b w s 7#3 s.gpr.edi := rfl

/-! ## The repeat protocol (R1002, R1003) -/

/-- An instruction that is a string step, its element made, runs as the statements say (R1002). -/
theorem stringRuns_of_element {i : Instr} {b : Bound} {s u : State} {stop : State → Bool} {element : Except Stop State}
    (hi : exec i s = stringStep stop b s element) (helement : element = .ok u) (heip : u.eip = s.eip) {ends : Bool}
    (hends : stop u = ends) : StringRuns i b s u ends := by
  subst helement hends
  constructor
  · intro hrep
    rw [hi, stringStep, if_pos (beq_iff_eq.mpr hrep)]
    exact complete_eq_done b heip
  · intro hrep hcount
    have hnext : ∀ v, (u.setAddrReg b 1#3 v).advance b = { u.setAddrReg b 1#3 v with eip := nextEip b s } := fun v => by
      rw [State.advance, State.next, State.setAddrReg_eip, heip, nextEip]
    rw [hi, stringStep, if_neg (mt beq_iff_eq.mp hrep), if_neg (mt beq_iff_eq.mp hcount), except_map_of_ok]
    simp only [State.cut_count_pred hcount, Bool.or_eq_true, beq_iff_eq, hnext]
    split <;> exact completeAs_eq_doneAs (by decide) s _

/-- With a repeat prefix and a count of 0 nothing is done (R1002). -/
theorem stringStep_of_count_zero {b : Bound} {s : State} (hrep : b.rep ≠ .none) (hcount : s.count b = 0#32)
    (stop : State → Bool) (element : Except Stop State) :
    stringStep stop b s element = .next (doneAs .notTaken s { s with eip := nextEip b s }) := by
  rw [stringStep, if_neg (mt beq_iff_eq.mp hrep), if_pos (beq_iff_eq.mpr hcount)]
  exact completeAs_eq_doneAs (by decide) s _

/-- A string instruction with an element to do that stops, stops by it (R1002). -/
theorem stringStep_error {b : Bound} {s : State} (h : b.rep = .none ∨ s.count b ≠ 0#32) (stop : State → Bool) (x : Stop) :
    stringStep stop b s (.error x) = complete b s (.error x) := by
  unfold stringStep
  split
  · rfl
  · next hrep =>
    have hcount := h.resolve_left (mt beq_iff_eq.mpr hrep)
    rw [if_neg (mt beq_iff_eq.mp hcount)]
    rfl

theorem zeroStop_eq (b : Bound) (t : State) : zeroStop b t = if b.rep = .repne then t.flags.zf else !t.flags.zf := by
  simp only [zeroStop, beq_iff_eq]

/-! ## Each string instruction -/

/-- What holds of the byte form and of the operand-size form of an instruction. -/
theorem forall_mem_forms {P : Instr × Width → Prop} {i j : Instr} {w : Width} (hi : P (i, .w8)) (hj : P (j, w)) :
    ∀ p ∈ [(i, Width.w8), (j, w)], P p := List.forall_mem_cons.mpr ⟨hi, List.forall_mem_singleton.mpr hj⟩

theorem exec_movs (b : Bound) (s : State) : ∀ p ∈ [(Instr.movsb b, Width.w8), (.movsv b, b.osz.width)],
    exec p.1 s = movs p.2 b s := forall_mem_forms rfl rfl
theorem exec_cmps (b : Bound) (s : State) : ∀ p ∈ [(Instr.cmpsb b, Width.w8), (.cmpsv b, b.osz.width)],
    exec p.1 s = cmps p.2 b s := forall_mem_forms rfl rfl
theorem exec_scas (b : Bound) (s : State) : ∀ p ∈ [(Instr.scasb b, Width.w8), (.scasv b, b.osz.width)],
    exec p.1 s = scas p.2 b s := forall_mem_forms rfl rfl
theorem exec_lods (b : Bound) (s : State) : ∀ p ∈ [(Instr.lodsb b, Width.w8), (.lodsv b, b.osz.width)],
    exec p.1 s = lods p.2 b s := forall_mem_forms rfl rfl
theorem exec_stos (b : Bound) (s : State) : ∀ p ∈ [(Instr.stosb b, Width.w8), (.stosv b, b.osz.width)],
    exec p.1 s = stos p.2 b s := forall_mem_forms rfl rfl

/-- A value read through a segment has as many bytes as were read. -/
theorem State.segRead_lt {s : State} {seg : SegReg} {off : Word} {n v : Nat} (h : s.segRead seg off n = .ok v) :
    v < 2 ^ (8 * n) := by
  obtain ⟨ps, hps, rfl⟩ := State.memRead_ok.mp (State.segRead_ok.mp h).2
  simpa [Memory.readAll, (State.physAll_ok hps).1] using leNat_lt (s.mem.readAll ps)

/-- Reading a memory operand is reading its bytes through the segment. -/
theorem State.segRead_of_readLoc {s : State} {w : Width} {seg : SegReg} {off : Word} {v : BitVec w.bits}
    (h : s.readLoc w (.mem seg off) = .ok v) : s.segRead seg off w.bytes = .ok v.toNat := by
  simp only [State.readLoc, except_bind_ok, except_pure, Except.ok.injEq] at h
  obtain ⟨x, hx, rfl⟩ := h
  have hlt : x < 2 ^ w.bits := by
    have := State.segRead_lt hx
    cases w <;> exact this
  rw [hx, BitVec.toNat_ofNat, Nat.mod_eq_of_lt hlt]

theorem State.writeLoc_mem_gpr {s t : State} {w : Width} {seg : SegReg} {off : Word} {v : BitVec w.bits}
    (h : s.writeLoc w (.mem seg off) v = .ok t) : t.gpr = s.gpr := by rw [State.segWrite_only h]

theorem State.writeLoc_eip {s t : State} {w : Width} {l : Loc} {v : BitVec w.bits} (h : s.writeLoc w l v = .ok t) :
    t.eip = s.eip := by rw [State.writeLoc_data h]

section
variable {i : Instr} {w : Width} {b : Bound} {s : State}

/-- MOVS (R1010). -/
theorem movs_runs (hi : exec i s = movs w b s) {v : BitVec w.bits} {t : State}
    (hread : s.readLoc w (.mem (b.seg.getD .ds) (indexOf b s.gpr.esi)) = .ok v)
    (hwrite : s.writeLoc w (.mem .es (indexOf b s.gpr.edi)) v = .ok t) :
    StringRuns i b s (stepped b w (stepped b w t 6#3 s.gpr.esi) 7#3 s.gpr.edi) false := by
  have hstore : s.segWrite .es (indexOf b s.gpr.edi) w.bytes v.toNat = .ok t := hwrite
  refine stringRuns_of_element hi ?_ ?_ rfl
  · simp only [Bound.srcSeg_eq, State.srcIndex_eq, State.dstIndex_eq, State.segRead_of_readLoc hread, hstore,
      except_ok_bind, except_pure, State.stepSrc_eq, State.stepDst_eq, stepped_edi, State.writeLoc_mem_gpr hwrite]
  · simp only [stepped_eip, State.writeLoc_eip hwrite]

/-- CMPS (R1011). -/
theorem cmps_runs (hi : exec i s = cmps w b s) {x y : BitVec w.bits}
    (hx : s.readLoc w (.mem (b.seg.getD .ds) (indexOf b s.gpr.esi)) = .ok x)
    (hy : s.readLoc w (.mem .es (indexOf b s.gpr.edi)) = .ok y) :
    let f := s.flags.sub x y false
    StringRuns i b s (stepped b w (stepped b w (s.setFlags f) 6#3 s.gpr.esi) 7#3 s.gpr.edi)
      (if b.rep = .repne then f.zf else !f.zf) := by
  refine stringRuns_of_element hi ?_ ?_ ?_
  · simp only [Bound.srcSeg_eq, State.srcIndex_eq, State.dstIndex_eq, hx, hy, except_ok_bind, except_pure,
      State.stepSrc_eq, State.stepDst_eq, stepped_edi, State.setFlags_gpr]
  · simp only [stepped_eip, State.setFlags_eip]
  · rw [zeroStop_eq, stepped_flags, stepped_flags]
    rfl

/-- SCAS (R1012). -/
theorem scas_runs (hi : exec i s = scas w b s) {y : BitVec w.bits}
    (hy : s.readLoc w (.mem .es (indexOf b s.gpr.edi)) = .ok y) :
    let f := s.flags.sub (s.reg w 0#3) y false
    StringRuns i b s (stepped b w (s.setFlags f) 7#3 s.gpr.edi) (if b.rep = .repne then f.zf else !f.zf) := by
  refine stringRuns_of_element hi ?_ ?_ ?_
  · simp only [State.dstIndex_eq, hy, except_ok_bind, except_pure, State.stepDst_eq, State.setFlags_gpr]
  · simp only [stepped_eip, State.setFlags_eip]
  · rw [zeroStop_eq, stepped_flags]
    rfl

/-- LODS (R1013): the accumulator is no string pointer. -/
theorem lods_runs (hi : exec i s = lods w b s) {v : BitVec w.bits}
    (hv : s.readLoc w (.mem (b.seg.getD .ds) (indexOf b s.gpr.esi)) = .ok v) :
    StringRuns i b s (stepped b w (s.setReg w 0#3 v) 6#3 s.gpr.esi) false := by
  have hesi : (s.setReg w 0#3 v).gpr.esi = s.gpr.esi :=
    Gpr.get_write_other s.gpr w 0#3 6#3 v (by cases w <;> decide)
  refine stringRuns_of_element hi ?_ ?_ rfl
  · simp only [Bound.srcSeg_eq, State.srcIndex_eq, hv, except_ok_bind, except_pure, State.stepSrc_eq, hesi]
  · simp only [stepped_eip, State.setReg_eip]

/-- STOS (R1014). -/
theorem stos_runs (hi : exec i s = stos w b s) {t : State}
    (hwrite : s.writeLoc w (.mem .es (indexOf b s.gpr.edi)) (s.reg w 0#3) = .ok t) :
    StringRuns i b s (stepped b w t 7#3 s.gpr.edi) false := by
  refine stringRuns_of_element hi ?_ ?_ rfl
  · simp only [State.dstIndex_eq, hwrite, except_ok_bind, except_pure, State.stepDst_eq, State.writeLoc_mem_gpr hwrite]
  · simp only [stepped_eip, State.writeLoc_eip hwrite]
end

/-- Every string instruction is a string step, so the repeat protocol decides before its element (R1002). -/
theorem exec_eq_stringStep (b : Bound) (s : State) : ∀ i ∈ ([.movsb b, .movsv b, .cmpsb b, .cmpsv b, .stosb b, .stosv b,
    .lodsb b, .lodsv b, .scasb b, .scasv b, .insb b, .insv b, .outsb b, .outsv b] : List Instr),
    ∃ stop element, exec i s = stringStep stop b s element := by
  simp only [List.forall_mem_cons, List.not_mem_nil, false_imp_iff, implies_true, and_true]
  exact ⟨⟨_, _, rfl⟩, ⟨_, _, rfl⟩, ⟨_, _, rfl⟩, ⟨_, _, rfl⟩, ⟨_, _, rfl⟩, ⟨_, _, rfl⟩, ⟨_, _, rfl⟩, ⟨_, _, rfl⟩,
    ⟨_, _, rfl⟩, ⟨_, _, rfl⟩, ⟨_, _, rfl⟩, ⟨_, _, rfl⟩, ⟨_, _, rfl⟩, ⟨_, _, rfl⟩⟩

/-- Settles O42: each instruction makes its element inside the repeat protocol, which does nothing at a count of 0. -/
theorem stringInstructions : Obligations.StringInstructions := by
  constructor
  · intro b s
    exact ⟨fun p hp _ _ hv ht => movs_runs (exec_movs b s p hp) hv ht,
      fun p hp _ _ hx hy => cmps_runs (exec_cmps b s p hp) hx hy, fun p hp _ hy => scas_runs (exec_scas b s p hp) hy,
      fun p hp _ hv => lods_runs (exec_lods b s p hp) hv, fun p hp _ ht => stos_runs (exec_stos b s p hp) ht⟩
  · intro b s hrep hcount i hmem
    obtain ⟨stop, element, hi⟩ := exec_eq_stringStep b s i hmem
    exact hi.trans (stringStep_of_count_zero hrep hcount stop element)

end Sys2Proof.Machine
end

section
/-! PROOFS. Port access: the permission check, and IN, OUT, INS and OUTS (R1015, R1016, R1020 to R1023, R1030). -/
namespace Sys2Proof.Machine
open Sys2Proof Sys2Proof.Claims

/-! ## The permission check (R1030) -/

/-- n bits from k on are all 0. -/
theorem div_two_pow_mod_eq_zero_iff (x k n : Nat) :
    x / 2 ^ k % 2 ^ n = 0 ↔ ∀ j < n, x.testBit (k + j) = false := by
  constructor
  · intro h j hj
    have hbit := Nat.testBit_mod_two_pow (x / 2 ^ k) n j
    rw [h, Nat.zero_testBit, Nat.testBit_div_two_pow] at hbit
    rw [Nat.add_comm]
    simpa [hj] using hbit.symm
  · intro h
    refine Nat.eq_of_testBit_eq fun j => ?_
    rw [Nat.zero_testBit, Nat.testBit_mod_two_pow, Nat.testBit_div_two_pow, Nat.add_comm j k]
    by_cases hj : j < n
    · rw [h j hj, Bool.and_false]
    · rw [decide_eq_false hj, Bool.false_and]

/-- An access past the last port is refused before anything else (R1030). -/
theorem State.ioCheck_wrap {s : State} {p : Half} {n : Nat} (h : 0xFFFF < p.toNat + n - 1) :
    s.ioCheck p n = .error (.refuse .ioWrap) := by
  rw [State.ioCheck, decide_eq_true h]
  rfl

/-- The check passes just when the access is allowed (R1030). -/
theorem State.ioCheck_ok_iff (s : State) (p : Half) (n : Nat) : s.ioCheck p n = .ok () ↔ PortAllowed s p n := by
  by_cases hwrap : 0xFFFF < p.toNat + n - 1
  · simp only [State.ioCheck_wrap hwrap, PortAllowed, Nat.not_le.mpr hwrap, false_and, reduceCtorEq]
  by_cases hopen : s.pe = false ∨ s.cpl ≤ s.flags.iopl
  · have hfree : (!s.pe || decide (s.cpl ≤ s.flags.iopl)) = true := by simpa using hopen
    simp only [State.ioCheck, decide_eq_false hwrap, refuseIf_false, except_ok_bind, hfree, if_true, true_iff]
    exact ⟨Nat.not_lt.mp hwrap, hopen.imp_right .inl⟩
  · have hbitmap : (!s.pe || decide (s.cpl ≤ s.flags.iopl)) = false := by simpa using hopen
    rw [PortAllowed, ← or_assoc, or_iff_right hopen, and_iff_right (Nat.not_lt.mp hwrap)]
    simp only [State.ioCheck, decide_eq_false hwrap, refuseIf_false, except_ok_bind, hbitmap, Bool.false_eq_true,
      if_false, except_bind_ok, raiseIf_ok, Bool.or_eq_false_iff, Bool.not_eq_false', Bool.or_eq_true, beq_iff_eq,
      decide_eq_false_iff_not, Nat.not_lt, Decidable.not_not, div_two_pow_mod_eq_zero_iff, exists_const,
      exists_and_left, and_assoc]

/-- An instruction delivers the fault of its port check, or is refused as the check is (R1030). -/
def PortDenied (i : Instr) (s : State) (p : Half) (n : Nat) : Prop :=
  (∀ x, s.ioCheck p n = .error (.raise x) → exec i s = deliverFault s x) ∧
  (∀ r, s.ioCheck p n = .error (.refuse r) → exec i s = .refused r)

/-! ## IN and OUT (R1020 to R1023) -/

/-- DX, as the statements write it (R105). -/
theorem State.dx_eq (s : State) : s.dx = s.gpr.edx.setWidth 16 := rfl

section
variable {i : Instr} {w : Width} {b : Bound} {s : State} {p : Half}

theorem inPort_ok (hi : exec i s = inPort w b p s) (hok : s.ioCheck p w.bytes = .ok ()) :
    exec i s = .next (done b s (s.setReg w 0#3 (s.drawWord.setWidth w.bits))) := by
  rw [inPort, hok] at hi
  exact exec_of_setReg hi

theorem outPort_ok (hi : exec i s = outPort w b p s) (hok : s.ioCheck p w.bytes = .ok ()) :
    exec i s = .next (done b s (s.ioWrite w p (s.reg w 0#3))) := by
  rw [outPort, hok] at hi
  exact hi.trans (complete_eq_done b rfl)

/-- An instruction whose meaning begins with a port check stops where the check stops (R1030). -/
theorem portDenied_of_complete {n : Nat} {f : Unit → Except Stop State}
    (hi : exec i s = complete b s (s.ioCheck p n >>= f)) : PortDenied i s p n := by
  constructor <;> intro x hx <;> rw [hi, hx] <;> rfl

/-- So does a string instruction whose element begins with one, when there is an element to do (R1002, R1030). -/
theorem portDenied_of_stringStep {n : Nat} {stop : State → Bool} {f : Unit → Except Stop State}
    (hdo : b.rep = .none ∨ s.count b ≠ 0#32) (hi : exec i s = stringStep stop b s (s.ioCheck p n >>= f)) :
    PortDenied i s p n := by
  constructor <;> intro x hx <;> rw [hi, hx, except_error_bind, stringStep_error hdo] <;> rfl

/-! ## INS and OUTS (R1015, R1016) -/

theorem ins_runs (hi : exec i s = ins w b s) {t : State} (hok : s.ioCheck s.dx w.bytes = .ok ())
    (hwrite : s.writeLoc w (.mem .es (indexOf b s.gpr.edi)) (s.drawWord.setWidth w.bits) = .ok t) :
    StringRuns i b s (stepped b w t 7#3 s.gpr.edi) false := by
  refine stringRuns_of_element hi ?_ ?_ rfl
  · simp only [hok, State.ioRead, State.dstIndex_eq, hwrite, except_ok_bind, except_pure, State.stepDst_eq,
      State.writeLoc_mem_gpr hwrite]
  · simp only [stepped_eip, State.writeLoc_eip hwrite]

theorem outs_runs (hi : exec i s = outs w b s) {v : BitVec w.bits} (hok : s.ioCheck s.dx w.bytes = .ok ())
    (hv : s.readLoc w (.mem (b.seg.getD .ds) (indexOf b s.gpr.esi)) = .ok v) :
    StringRuns i b s (stepped b w (s.ioWrite w s.dx v) 6#3 s.gpr.esi) false := by
  refine stringRuns_of_element hi ?_ ?_ rfl
  · simp only [hok, Bound.srcSeg_eq, State.srcIndex_eq, hv, except_ok_bind, except_pure, State.stepSrc_eq]
    rfl
  · rw [stepped_eip]
    rfl
end

theorem exec_ins (b : Bound) (s : State) : ∀ p ∈ [(Instr.insb b, Width.w8), (.insv b, b.osz.width)],
    exec p.1 s = ins p.2 b s := forall_mem_forms rfl rfl
theorem exec_outs (b : Bound) (s : State) : ∀ p ∈ [(Instr.outsb b, Width.w8), (.outsv b, b.osz.width)],
    exec p.1 s = outs p.2 b s := forall_mem_forms rfl rfl

theorem exec_inPort (b : Bound) (s : State) (imm : Byte) : ∀ p ∈ [(Instr.inAlIb b imm, imm.setWidth 16, Width.w8),
    (.inEaxIb b imm, imm.setWidth 16, b.osz.width), (.inAlDx b, s.dx, .w8), (.inEaxDx b, s.dx, b.osz.width)],
    exec p.1 s = inPort p.2.2 b p.2.1 s := by
  simp only [List.forall_mem_cons, List.not_mem_nil, false_imp_iff, implies_true, and_true]
  exact ⟨rfl, rfl, rfl, rfl⟩

theorem exec_outPort (b : Bound) (s : State) (imm : Byte) : ∀ p ∈ [(Instr.outIbAl b imm, imm.setWidth 16, Width.w8),
    (.outIbEax b imm, imm.setWidth 16, b.osz.width), (.outDxAl b, s.dx, .w8), (.outDxEax b, s.dx, b.osz.width)],
    exec p.1 s = outPort p.2.2 b p.2.1 s := by
  simp only [List.forall_mem_cons, List.not_mem_nil, false_imp_iff, implies_true, and_true]
  exact ⟨rfl, rfl, rfl, rfl⟩

/-- Settles O43: the check passes as `PortAllowed` says, and each instruction makes its access, or stops, as the check
answers. -/
theorem portAccess : Obligations.PortAccess := by
  refine ⟨fun s p n _ => ⟨s.ioCheck_ok_iff p n, State.ioCheck_wrap⟩, fun b s imm => ?_⟩
  simp only [← State.dx_eq]
  refine ⟨fun p hp => ?input, fun p hp => ?output, fun p hp _ hok ht => ins_runs (exec_ins b s p hp) hok ht,
    fun p hp _ hok hv => outs_runs (exec_outs b s p hp) hok hv, fun hdo p hp => ?denied⟩
  case input =>
    have hi := exec_inPort b s imm p hp
    exact ⟨inPort_ok hi, portDenied_of_complete hi⟩
  case output =>
    have hi := exec_outPort b s imm p hp
    exact ⟨outPort_ok hi, portDenied_of_complete hi⟩
  case denied =>
    rcases List.mem_append (s := [_, _]).mp hp with hp | hp
    · exact portDenied_of_stringStep hdo (exec_ins b s p hp)
    · exact portDenied_of_stringStep hdo (exec_outs b s p hp)

end Sys2Proof.Machine
end

section
/-! PROOFS. Delivery of an event: the gate and its faults, and the three ways into a handler (R1300 to R1317). -/
namespace Sys2Proof.Machine
open Sys2Proof Sys2Proof.Claims

/-! ## The gate of an event (R1313) -/

/-- The error code of a vector: the IDT bit set and no EXT (R1305). -/
theorem Event.index_code (e : Event) : e.index * 8#32 + 2#32 = BitVec.ofNat 32 (8 * e.vector.toNat + 2) := by
  rw [← BitVec.toNat_inj]
  simp only [Event.index, BitVec.toNat_add, BitVec.toNat_mul, BitVec.toNat_setWidth, BitVec.toNat_ofNat]
  omega

/-- The same with EXT, which a software interrupt leaves clear (R1306). -/
theorem Event.index_code_ext (e : Event) : e.index * 8#32 + 2#32 + e.ext =
    BitVec.ofNat 32 (8 * e.vector.toNat + 2 + if e.kind = .soft then 0 else 1) := by
  rw [Event.index_code, BitVec.ofNat_add _ (ite _ _ _), Event.ext]
  simp only [beq_iff_eq]
  split <;> rfl

theorem isIdtGate_iff {t : BitVec 4} : isIdtGate t = true ↔ t ∈ ([0x5, 0x6, 0x7, 0xE, 0xF] : List (BitVec 4)) := by
  revert t
  decide

/-- The descriptor may stand in the IDT (R1313). -/
def Desc.isGate (g : Desc) : Prop := g.s = false ∧ g.type ∈ ([0x5, 0x6, 0x7, 0xE, 0xF] : List (BitVec 4))

theorem Desc.not_isGate_iff {g : Desc} : (g.s || !isIdtGate g.type) = true ↔ ¬g.isGate := by
  rw [Desc.isGate, ← isIdtGate_iff]
  cases g.s <;> cases isIdtGate g.type <;> decide

theorem Desc.gate_type_ok {g : Desc} (h : g.isGate) : (g.s || !isIdtGate g.type) = false := by
  rwa [← Bool.not_eq_true, Desc.not_isGate_iff, not_not]

section
variable {s : State} {e : Event} {g : Desc} {eip : Word}

theorem State.idtGate_outside (h : s.idtr.limit.toNat < 8 * e.vector.toNat + 7) :
    s.idtGate e = .error (.raise (.gp (e.index * 8#32 + 2#32 + e.ext))) := by
  rw [State.idtGate, decide_eq_true h]
  rfl

theorem State.tryDeliver_of_idtGate_error {x : Stop} (hpe : s.pe = true) (h : s.idtGate e = .error x) :
    s.tryDeliver e eip = .error x := by
  simp only [State.tryDeliver, hpe, Bool.not_true, Bool.false_eq_true, if_false, State.protDeliver, h, except_error_bind]

variable (hlim : 8 * e.vector.toNat + 7 ≤ s.idtr.limit.toNat)
  (hg : s.readDesc (s.idtr.base + e.vector.setWidth 32 * 8#32) = .ok g)
include hlim hg

/-- The checks of a descriptor of the IDT, in their order (R1313). -/
theorem State.idtGate_eq : s.idtGate e =
    raiseIf (g.s || !isIdtGate g.type) (.gp (e.index * 8#32 + 2#32 + e.ext)) >>= fun _ =>
    raiseIf (e.kind == .soft && decide (g.dpl < s.cpl)) (.gateDpl (e.index * 8#32 + 2#32)) >>= fun _ =>
    raiseIf (!g.p) (.np (e.index * 8#32 + 2#32 + e.ext)) >>= fun _ =>
    refuseIf (g.type == 0x5#4) .taskSwitch >>= fun _ => .ok g := by
  have hg : s.readDesc (s.idtr.base + e.index * 8#32) = .ok g := hg
  rw [State.idtGate, decide_eq_false (Nat.not_lt.mpr hlim), hg]
  rfl

theorem State.idtGate_of_not_gate (hgate : ¬g.isGate) :
    s.idtGate e = .error (.raise (.gp (e.index * 8#32 + 2#32 + e.ext))) := by
  rw [State.idtGate_eq hlim hg, Desc.not_isGate_iff.mpr hgate]
  rfl

variable (hgate : g.isGate)
include hgate

theorem State.idtGate_of_dpl (hsoft : e.kind = .soft) (hdpl : g.dpl < s.cpl) :
    s.idtGate e = .error (.raise (.gateDpl (e.index * 8#32 + 2#32))) := by
  rw [State.idtGate_eq hlim hg, Desc.gate_type_ok hgate, hsoft, decide_eq_true hdpl]
  rfl

variable (hdpl : ¬(e.kind = .soft ∧ g.dpl < s.cpl))
include hdpl

theorem State.idtGate_of_allowed : s.idtGate e =
    raiseIf (!g.p) (.np (e.index * 8#32 + 2#32 + e.ext)) >>= fun _ =>
    refuseIf (g.type == 0x5#4) .taskSwitch >>= fun _ => .ok g := by
  have hallowed : (e.kind == .soft && decide (g.dpl < s.cpl)) = false := by simpa using hdpl
  rw [State.idtGate_eq hlim hg, Desc.gate_type_ok hgate, hallowed]
  rfl

theorem State.idtGate_of_absent (hp : g.p = false) :
    s.idtGate e = .error (.raise (.np (e.index * 8#32 + 2#32 + e.ext))) := by
  rw [State.idtGate_of_allowed hlim hg hgate hdpl, hp]
  rfl

theorem State.idtGate_of_task (hp : g.p = true) (htask : g.type = 0x5#4) :
    s.idtGate e = .error (.refuse .taskSwitch) := by
  rw [State.idtGate_of_allowed hlim hg hgate hdpl, hp, htask]
  rfl

theorem State.idtGate_ok (hp : g.p = true) (htask : g.type ≠ 0x5#4) : s.idtGate e = .ok g := by
  rw [State.idtGate_of_allowed hlim hg hgate hdpl, hp, beq_eq_false_iff_ne.mpr htask]
  rfl
end

/-- A vector past the limit of the real-mode table is #GP(0) (R1312). -/
theorem State.tryDeliver_real_outside {s : State} {e : Event} {eip : Word} (hpe : s.pe = false)
    (h : s.idtr.limit.toNat < 4 * e.vector.toNat + 3) : s.tryDeliver e eip = .error (.raise (.gp 0#32)) := by
  rw [State.tryDeliver, hpe, State.realDeliver, decide_eq_true h]
  rfl

/-- Settles O38: the gate check answers by the limit, then by each check of the descriptor in turn, and its fault is the
attempt's. -/
theorem gateFaults : Obligations.GateFaults := by
  intro s e eip g v x
  rw [← Event.index_code_ext, ← Event.index_code]
  refine ⟨State.tryDeliver_real_outside, fun hpe h => ?outside, fun hpe hlim hg => ⟨?notGate, ?dpl, ?absent, ?task⟩⟩
  case outside => exact State.tryDeliver_of_idtGate_error hpe (State.idtGate_outside h)
  case notGate => exact fun hgate => State.tryDeliver_of_idtGate_error hpe (State.idtGate_of_not_gate hlim hg hgate)
  case dpl =>
    exact fun hgate hsoft hdpl => State.tryDeliver_of_idtGate_error hpe (State.idtGate_of_dpl hlim hg hgate hsoft hdpl)
  case absent =>
    exact fun hgate hdpl hp => State.tryDeliver_of_idtGate_error hpe (State.idtGate_of_absent hlim hg hgate hdpl hp)
  case task =>
    exact fun hgate hdpl hp htask =>
      State.tryDeliver_of_idtGate_error hpe (State.idtGate_of_task hlim hg hgate hdpl hp htask)

/-! ## The state a delivery starts from (R1310) -/

section
variable (s : State) (e : Event)

/-- The checks of a delivery read nothing that its start writes. -/
@[simp] theorem State.beginDelivery_memRead (k : AccessKind) (u : Bool) (lin : Word) (n : Nat) :
    (s.beginDelivery e).memRead k u lin n = s.memRead k u lin n := by
  have hphys : (s.beginDelivery e).physAll k u lin n = s.physAll k u lin n :=
    State.physAll_congr (s := s) (t := s.beginDelivery e) rfl rfl k u lin n
  simp only [State.memRead, hphys]
  rfl

@[simp] theorem State.beginDelivery_entersInner (t : Desc) : (s.beginDelivery e).entersInner t = s.entersInner t := rfl

@[simp] theorem State.beginDelivery_readDesc (addr : Word) : (s.beginDelivery e).readDesc addr = s.readDesc addr := by
  simp only [State.readDesc, State.beginDelivery_memRead]

@[simp] theorem State.beginDelivery_stackFromTSS (n : BitVec 2) (x : Word) :
    (s.beginDelivery e).stackFromTSS n x = s.stackFromTSS n x := by
  simp only [State.stackFromTSS, State.beginDelivery_memRead]
  rfl
end

section
variable {s : State} {e : Event} {eip : Word}

theorem names_beginDelivery {sel : Half} {addr : Word} {d : Desc} (h : Names s sel addr d) :
    Names (s.beginDelivery e) sel addr d := by
  obtain ⟨hnull, haddr, hread⟩ := h
  exact ⟨hnull, haddr, by rw [State.beginDelivery_readDesc, hread]⟩

theorem vectorOk_beginDelivery {g t : Desc} {addr : Word} (h : VectorOk s e g t addr) :
    VectorOk (s.beginDelivery e) e g t addr := by
  obtain ⟨hlim, hg, hs, htype, hdpl, hp, hnames, hrest⟩ := h
  exact ⟨hlim, (State.beginDelivery_readDesc s e _).trans hg, hs, htype, hdpl, hp, names_beginDelivery hnames, hrest⟩

theorem stackOk_beginDelivery {sel : Half} {n : BitVec 2} {addr : Word} {d : Desc} (h : StackOk s sel n addr d) :
    StackOk (s.beginDelivery e) sel n addr d := ⟨names_beginDelivery h.1, h.2⟩

theorem deliver_of_tryDeliver {t : State} (h : (s.beginDelivery e).tryDeliver e eip = .ok t) :
    deliver s e eip = .next { t with delivering := none } := by
  simp only [deliver, deliverN, h]
end

/-- A handler entered: CS, EIP, CPL and the flags replaced. -/
def State.enterHandler (s : State) (cs : SegCache) (o : Word) (n : BitVec 2) (f : Flags) : State :=
  { s with cs := cs, eip := o, cpl := n, flags := f }

/-! ## Real-mode entry (R1312) -/

/-- Pushes that succeed pass the check made before them and keep CS and the flags. -/
theorem State.tryDeliver_real_ok {s t : State} {e : Event} {eip : Word} {ip cs : Nat} (hpe : s.pe = false)
    (hlim : 4 * e.vector.toNat + 3 ≤ s.idtr.limit.toNat)
    (hip : s.memRead .read false (s.idtr.base + e.index * 4#32) 2 = .ok ip)
    (hcs : s.memRead .read false (s.idtr.base + e.index * 4#32 + 2#32) 2 = .ok cs)
    (hpush : s.pushAll .s16 [s.flags.image, s.cs.selector.setWidth 32, eip] = .ok t) :
    s.tryDeliver e eip = .ok (t.enterHandler (s.cs.realLoad (BitVec.ofNat 16 cs)) (BitVec.ofNat 32 ip) t.cpl
      { s.flags with ifl := false, tf := false, nt := false, ac := false, rf := false }) := by
  have hcheck : s.checkStack (.ss 0#32) .s16 3 = .ok () := State.checkStack_of_pushAll hpush _
  obtain ⟨hcs', hflags⟩ : t.cs = s.cs ∧ t.flags = s.flags := by
    rw [State.pushAll_data hpush]
    exact ⟨rfl, rfl⟩
  simp only [State.tryDeliver, hpe, Bool.not_false, if_true, State.realDeliver, decide_eq_false (Nat.not_lt.mpr hlim),
    raiseIf_false, hip, hcs, hcheck, hpush, except_ok_bind, except_pure]
  rw [← hcs', ← hflags]
  rfl

theorem deliver_of_realEntry {s : State} {e : Event} {eip : Word} {u : State} (h : RealEntry s e eip u) :
    deliver s e eip = .next u := by
  obtain ⟨hpe, hlim, ip, cs, t, hip, hcs, hpush, rfl⟩ := h
  rw [← s.beginDelivery_memRead e] at hip hcs
  exact deliver_of_tryDeliver (State.tryDeliver_real_ok hpe hlim hip hcs hpush)

/-! ## Protected-mode entry (R1313 to R1317) -/

/-- The gates that enter a handler: interrupt and trap gates, not the task gate (R1313). -/
theorem Desc.isGate_of_handler {g : Desc} (hs : g.s = false)
    (htype : g.type = 0x6#4 ∨ g.type = 0x7#4 ∨ g.type = 0xE#4 ∨ g.type = 0xF#4) : g.isGate ∧ g.type ≠ 0x5#4 := by
  rw [Desc.isGate]
  rcases htype with h | h | h | h <;> rw [h] <;> exact ⟨⟨hs, by decide⟩, by decide⟩

/-- An interrupt gate has type bit 0 clear (R1317). -/
theorem Flags.delivered_eq_handlerFlags (f : Flags) {g : Desc}
    (htype : g.type = 0x6#4 ∨ g.type = 0x7#4 ∨ g.type = 0xE#4 ∨ g.type = 0xF#4) : f.delivered g = handlerFlags f g := by
  rw [Flags.delivered, handlerFlags]
  rcases htype with h | h | h | h <;> rw [h] <;> simp

section
variable {s : State} {e : Event} {eip : Word} {g t : Desc} {addr : Word}

theorem State.idtGate_of_vectorOk (h : VectorOk s e g t addr) : s.idtGate e = .ok g := by
  obtain ⟨hlim, hg, hs, htype, hdpl, hp, -⟩ := h
  obtain ⟨hgate, htask⟩ := Desc.isGate_of_handler hs htype
  exact State.idtGate_ok hlim hg hgate (fun ⟨hsoft, hlt⟩ => absurd hlt (BitVec.not_lt.mpr (hdpl hsoft))) hp htask

theorem State.gateTarget_of_vectorOk (h : VectorOk s e g t addr) (x : Word) : s.gateTarget g x = .ok (addr, t) := by
  obtain ⟨-, -, -, -, -, -, ⟨hnull, haddr, hread⟩, hs, hcode, hdpl, hp, -⟩ := h
  have hgood : (!t.isCode || decide (s.cpl < t.dpl)) = false := by simp [Desc.isCode, hs, hcode, BitVec.not_lt.mpr hdpl]
  simp only [State.gateTarget, hnull, State.lookup_ok.mpr ⟨haddr, hread⟩, hgood, hp, Bool.not_true, raiseIf_false,
    except_ok_bind, except_pure]

theorem Flags.delivered_eq_handlerFlags_of_vectorOk (h : VectorOk s e g t addr) (f : Flags) :
    f.delivered g = handlerFlags f g := by
  obtain ⟨-, -, -, htype, -⟩ := h
  exact f.delivered_eq_handlerFlags htype

theorem State.tryDeliver_of_vectorOk (hpe : s.pe = true) (h : VectorOk s e g t addr) : s.tryDeliver e eip =
    if s.entersInner t then s.deliverInner e eip g addr t else s.deliverSame e eip g addr t := by
  simp only [State.tryDeliver, hpe, Bool.not_true, Bool.false_eq_true, if_false, State.protDeliver,
    State.idtGate_of_vectorOk h, State.gateTarget_of_vectorOk h, except_ok_bind]

theorem gateOffset_le_of_vectorOk (h : VectorOk s e g t addr) : g.gateOffset ≤ t.limit := by
  obtain ⟨-, -, -, -, -, -, -, -, -, -, -, hoff⟩ := h
  exact hoff

/-- A frame that is pushed passes the check made before it (R1316). -/
theorem State.deliverSame_ok {s1 s2 : State} (h : VectorOk s e g t addr)
    (hpush : s.pushAll g.gateSize ([s.flags.image, slot g.gateSize s.drawHalf2 s.cs.selector, eip] ++ e.errSlots) = .ok s1)
    (hacc : s1.setAccessed addr t = .ok s2) : s.deliverSame e eip g addr t =
      .ok (s2.enterHandler (loadedCS g.gateSelector t s.cpl) g.gateOffset s2.cpl (handlerFlags s.flags g)) := by
  have hcheck : s.checkStack (.ss e.ext) g.gateSize (3 + e.errSlots.length) = .ok () := by
    rw [← State.checkStack_of_pushAll hpush (.ss e.ext), List.length_append]
    rfl
  obtain ⟨hcpl, hflags⟩ : s2.cpl = s.cpl ∧ s2.flags = s.flags := by
    rw [(State.pushAll_data hpush).trans (State.setAccessed_only hacc).data]
    exact ⟨rfl, rfl⟩
  have hoff := decide_eq_false (BitVec.not_lt.mpr (gateOffset_le_of_vectorOk h))
  simp only [State.deliverSame, hcheck, hpush, hoff, State.loadCS, hacc, raiseIf_false, except_ok_bind, except_pure, hflags,
    Flags.delivered_eq_handlerFlags_of_vectorOk h, hcpl]
  rfl

theorem deliver_of_sameEntry {u : State} (h : SameEntry s e eip u) : deliver s e eip = .next u := by
  obtain ⟨hpe, g, t, addr, s1, s2, hok, hlevel, hpush, hacc, rfl⟩ := h
  have hok' := vectorOk_beginDelivery hok
  have hsame : s.entersInner t = false := by
    rw [State.entersInner, Desc.conforming]
    rcases hlevel with h | h
    · rw [h]
      rfl
    · rw [h, decide_eq_false (BitVec.lt_irrefl _), Bool.and_false]
  have htry := State.tryDeliver_of_vectorOk (s := s.beginDelivery e) (eip := eip) hpe hok'
  rw [State.beginDelivery_entersInner, hsame, if_neg (by decide), State.deliverSame_ok hok' hpush hacc] at htry
  exact deliver_of_tryDeliver htry
end

/-! ## The stack switch (R1315) -/

/-- Pushes that succeed on a stack just switched to pass the check made of it before the switch. -/
theorem State.checkPushes_of_switched {s t u : State} {sp : Word} {z : Size} {vs : List Word} (h0 : t.cr0 = s.cr0)
    (hf : t.flags = s.flags) (hv : t.pagingView = s.pagingView) (h : (t.setSp sp).pushAll z vs = .ok u) (sf : Exc) :
    s.checkPushes t.ss sf t.cpl z (stackStep t.ss.db sp 0#32) vs.length = .ok () := by
  have hcheck := State.checkStack_of_pushAll h sf
  obtain ⟨hss, hcpl, hcr0, hflags, hview⟩ := t.setSp_keeps sp
  rwa [State.checkStack, State.setSp_sp, hss, hcpl,
    State.checkPushes_congr (hcr0.trans h0) (hflags.trans hf) (hview.trans hv)] at hcheck

theorem State.innerStack_ok {s : State} {n : BitVec 2} {x esp1 saddr : Word} {ss1 : Half} {d : Desc}
    (htss : s.stackFromTSS n x = .ok (ss1, esp1)) (h : StackOk s ss1 n saddr d) :
    s.innerStack n x = .ok (ss1, saddr, d, esp1) := by
  obtain ⟨⟨hnull, haddr, hread⟩, hrpl, hdpl, hs, hdata, hwrite, hp⟩ := h
  have hgood : d.badStack ss1 n = false := by
    simp only [Desc.badStack, Desc.isWritableData, hrpl, hdpl, hs, hdata, hwrite, bne_self_eq_false]
    rfl
  simp only [State.innerStack, htss, hnull, State.lookup_ok.mpr ⟨haddr, hread⟩, hgood, hp, Bool.not_true, raiseIf_false,
    except_ok_bind, except_pure]

section
variable {s : State} {e : Event} {eip : Word} {g t : Desc} {addr : Word}

theorem State.deliverInner_ok {ss1 : Half} {esp1 saddr : Word} {d : Desc} {s1 s2 s3 : State} (h : VectorOk s e g t addr)
    (htss : s.stackFromTSS t.dpl e.ext = .ok (ss1, esp1)) (hstack : StackOk s ss1 t.dpl saddr d)
    (hacc1 : s.setAccessed saddr d = .ok s1)
    (hpush : (({ s1 with ss := .ofDesc ss1 d, cpl := t.dpl } : State).setSp esp1).pushAll g.gateSize
      ([slot g.gateSize s.drawHalf s.ss.selector, s.gpr.esp, s.flags.image, slot g.gateSize s.drawHalf2 s.cs.selector, eip]
        ++ e.errSlots) = .ok s2)
    (hacc2 : s2.setAccessed addr t = .ok s3) : s.deliverInner e eip g addr t =
      .ok (s3.enterHandler (loadedCS g.gateSelector t t.dpl) g.gateOffset t.dpl (handlerFlags s.flags g)) := by
  obtain ⟨hcr0, hflags1, hview⟩ : s1.cr0 = s.cr0 ∧ s1.flags = s.flags ∧ s1.pagingView = s.pagingView := by
    rw [State.setAccessed_only hacc1]
    exact ⟨rfl, rfl, rfl⟩
  have hcheck : s.checkPushes (.ofDesc ss1 d) (.ss (selCode ss1 + e.ext)) t.dpl g.gateSize (stackStep d.db esp1 0#32)
      (5 + e.errSlots.length) = .ok () := by
    rw [← State.checkPushes_of_switched (t := { s1 with ss := .ofDesc ss1 d, cpl := t.dpl }) hcr0 hflags1 hview hpush
      (.ss (selCode ss1 + e.ext)), List.length_append]
    rfl
  have hflags : s3.flags = s.flags := by
    obtain ⟨-, -, -, hkeep, -⟩ := State.setSp_keeps ({ s1 with ss := .ofDesc ss1 d, cpl := t.dpl } : State) esp1
    rw [(State.pushAll_data hpush).trans (State.setAccessed_only hacc2).data]
    exact hkeep.trans hflags1
  have hoff := decide_eq_false (BitVec.not_lt.mpr (gateOffset_le_of_vectorOk h))
  simp only [State.deliverInner, State.innerTarget, State.innerStack_ok htss hstack, hcheck, hoff, raiseIf_false,
    except_ok_bind, except_pure, State.loadStack, hacc1, hpush, State.loadCS, hacc2, hflags,
    Flags.delivered_eq_handlerFlags_of_vectorOk h]
  rfl

theorem deliver_of_innerEntry {u : State} (h : InnerEntry s e eip u) : deliver s e eip = .next u := by
  obtain ⟨hpe, g, t, addr, ss1, esp1, saddr, d, s1, s2, s3, hok, hconf, hdpl, htss, hstack, hacc1, hpush, hacc2, rfl⟩ := h
  have hok' := vectorOk_beginDelivery hok
  have hinner : s.entersInner t = true := by
    rw [State.entersInner, Desc.conforming, hconf, decide_eq_true hdpl]
    rfl
  have htry := State.tryDeliver_of_vectorOk (s := s.beginDelivery e) (eip := eip) hpe hok'
  rw [← s.beginDelivery_stackFromTSS e] at htss
  rw [State.beginDelivery_entersInner, hinner, if_pos rfl,
    State.deliverInner_ok hok' htss (stackOk_beginDelivery hstack) hacc1 hpush hacc2] at htry
  exact deliver_of_tryDeliver htry
end

theorem deliver_of_enters {s : State} {e : Event} {eip : Word} {u : State} (h : Enters s e eip u) :
    deliver s e eip = .next u := by
  rcases h with h | h | h
  · exact deliver_of_realEntry h
  · exact deliver_of_sameEntry h
  · exact deliver_of_innerEntry h

/-- Settles O37: each of the three entries is an attempt that succeeds, and an exception is the event of its vector. -/
theorem handlerEntry : Obligations.HandlerEntry := by
  refine ⟨fun s e eip u => deliver_of_enters, fun s code lin u => ⟨fun p hp h => ?_, deliver_of_enters⟩⟩
  simp only [List.mem_cons, List.not_mem_nil, or_false] at hp
  rcases hp with rfl | rfl | rfl | rfl | rfl | rfl | rfl | rfl | rfl <;> exact deliver_of_enters h

end Sys2Proof.Machine
end

section
/-! PROOFS. The privilege check, and CPUID, RDTSC, the MSRs, the caches, ESC and WAIT (R1150 to R1172, R1361). -/
namespace Sys2Proof.Machine
open Sys2Proof Sys2Proof.Claims

theorem exec_hlt (b : Bound) (s : State) : exec (.hlt b) s = hlt b s := rfl
theorem exec_cpuid (b : Bound) (s : State) : exec (.cpuid b) s = cpuid b s := rfl
theorem exec_rdtsc (b : Bound) (s : State) : exec (.rdtsc b) s = rdtsc b s := rfl
theorem exec_rdmsr (b : Bound) (s : State) : exec (.rdmsr b) s = rdmsr b s := rfl
theorem exec_wrmsr (b : Bound) (s : State) : exec (.wrmsr b) s = wrmsr b s := rfl
theorem exec_invd (b : Bound) (s : State) : exec (.invd b) s = invd b s := rfl
theorem exec_wbinvd (b : Bound) (s : State) : exec (.wbinvd b) s = wbinvd b s := rfl
theorem exec_invlpgM (b : Bound) (m : Addr) (s : State) : exec (.invlpgM b m) s = invlpg b m s := rfl
theorem exec_wait (b : Bound) (s : State) : exec (.wait b) s = wait b s := rfl
theorem exec_esc (b : Bound) (op g : BitVec 3) (e : Rm) (s : State) : exec (.esc b op g e) s = escape b s := rfl
theorem exec_movDdRd (b : Bound) (d r : BitVec 3) (s : State) : exec (.movDdRd b d r) s = movToDebug b d r s := rfl
theorem exec_movRdDd (b : Bound) (r d : BitVec 3) (s : State) : exec (.movRdDd b r d) s = movFromDebug b r d s := rfl

/-- A check that raises at the start of an execute: its exception is delivered, or the rest runs. -/
theorem complete_raiseIf (b : Bound) (s : State) (c : Bool) (x : Exc) (f : Unit → Except Stop State) :
    complete b s (raiseIf c x >>= f) = if c = true then deliverFault s x else complete b s (f ()) := by
  cases c <;> rfl

/-! ## The privilege check fails (R1361) -/

section
variable {b : Bound} {s : State} (hpe : s.pe = true) (hcpl : s.cpl ≠ 0#2)
include hpe hcpl

theorem State.privileged_raise : s.privileged = .error (.raise (.gp 0#32)) := by
  rw [State.privileged, hpe, bne_iff_ne.mpr hcpl]
  rfl

/-- A meaning whose first check is the privilege check raises #GP(0). -/
theorem complete_privileged (f : Unit → Except Stop State) :
    complete b s (s.privileged >>= f) = deliverFault s (.gp 0#32) := by
  rw [State.privileged_raise hpe hcpl, except_error_bind, complete_raise]

/-- The check of R352 before it passes in protected mode. -/
theorem complete_protectedOnly_privileged (f : Unit → Except Stop State) :
    complete b s (s.protectedOnly >>= fun _ => s.privileged >>= f) = deliverFault s (.gp 0#32) := by
  rw [State.protectedOnly_ok hpe, except_ok_bind, complete_privileged hpe hcpl]

theorem hlt_of_unprivileged : hlt b s = deliverFault s (.gp 0#32) := by
  rw [hlt, State.privileged_raise hpe hcpl, except_error_bind, completeAs_raise]

/-- LGDT and LIDT check privilege before they read the table's image (R1122, R1123). -/
theorem complete_readTable_of_unprivileged (m : Addr) (f : TableReg → Except Stop State) :
    complete b s (s.readTable b m >>= f) = deliverFault s (.gp 0#32) := by
  rw [State.readTable, State.privileged_raise hpe hcpl]
  rfl

/-- RDMSR and WRMSR check privilege before they look at ECX (R1152, R1153). -/
theorem complete_msrCheck_of_unprivileged (f : Unit → Except Stop State) :
    complete b s (s.msrCheck >>= f) = deliverFault s (.gp 0#32) := by
  rw [State.msrCheck, State.privileged_raise hpe hcpl]
  rfl

/-- A debug register that exists passes the check made before the privilege check (R1132, R1134). -/
theorem complete_debugExists_privileged {d : BitVec 3} (hd : s.cr4.getLsbD 3 = false ∨ (d ≠ 4#3 ∧ d ≠ 5#3))
    (f : Unit → Except Stop State) :
    complete b s (s.debugExists d >>= fun _ => s.privileged >>= f) = deliverFault s (.gp 0#32) := by
  have hexists : s.debugExists d = .ok () := by
    rw [State.debugExists, raiseIf_ok]
    rcases hd with h | ⟨h4, h5⟩
    · rw [h, Bool.false_and]
    · rw [beq_eq_false_iff_ne.mpr h4, beq_eq_false_iff_ne.mpr h5, Bool.or_false, Bool.and_false]
  rw [hexists, except_ok_bind, complete_privileged hpe hcpl]

theorem rdtsc_of_tsd (htsd : s.cr4.getLsbD 2 = true) : rdtsc b s = deliverFault s (.gp 0#32) := by
  rw [rdtsc, htsd, hpe, bne_iff_ne.mpr hcpl]
  rfl
end

/-- Settles O45: the privilege check is the first of each instruction that can fail, and it fails. -/
theorem privilegedInstructions : Obligations.PrivilegedInstructions := by
  intro b s e m r d c hpe hcpl
  refine ⟨?always, fun hd => ?debug, fun htsd => ?stamp⟩
  case always =>
    simp only [List.forall_mem_cons, List.not_mem_nil, false_imp_iff, implies_true, and_true]
    refine ⟨?hlt, ?lgdt, ?lidt, ?lldt, ?ltr, ?lmsw, ?clts, ?toControl, ?fromControl, ?invd, ?wbinvd, ?invlpg, ?rdmsr,
      ?wrmsr⟩
    case hlt => exact (exec_hlt b s).trans (hlt_of_unprivileged hpe hcpl)
    case lgdt => exact (exec_lgdtMs b m s).trans (complete_readTable_of_unprivileged hpe hcpl m _)
    case lidt => exact (exec_lidtMs b m s).trans (complete_readTable_of_unprivileged hpe hcpl m _)
    case lldt => exact (exec_lldtEw b e s).trans (complete_protectedOnly_privileged hpe hcpl _)
    case ltr => exact (exec_ltrEw b e s).trans (complete_protectedOnly_privileged hpe hcpl _)
    case lmsw => exact (exec_lmswEw b e s).trans (complete_privileged hpe hcpl _)
    case clts => exact (exec_clts b s).trans (complete_privileged hpe hcpl _)
    case toControl => exact (exec_movCdRd b c r s).trans (complete_privileged hpe hcpl _)
    case fromControl => exact (exec_movRdCd b r c s).trans (complete_privileged hpe hcpl _)
    case invd => exact (exec_invd b s).trans (complete_privileged hpe hcpl _)
    case wbinvd => exact (exec_wbinvd b s).trans (complete_privileged hpe hcpl _)
    case invlpg => exact (exec_invlpgM b m s).trans (complete_privileged hpe hcpl _)
    case rdmsr => exact (exec_rdmsr b s).trans (complete_msrCheck_of_unprivileged hpe hcpl _)
    case wrmsr => exact (exec_wrmsr b s).trans (complete_msrCheck_of_unprivileged hpe hcpl _)
  case debug =>
    exact ⟨(exec_movDdRd b d r s).trans (complete_debugExists_privileged hpe hcpl hd _),
      (exec_movRdDd b r d s).trans (complete_debugExists_privileged hpe hcpl hd _)⟩
  case stamp => exact (exec_rdtsc b s).trans (rdtsc_of_tsd hpe hcpl htsd)

/-! ## Identification, time stamp, MSRs and caches (R1150 to R1162) -/

theorem cpuid_eq {b : Bound} {s : State} {a bx c d : Word} (h : Config.cpuidTable s.gpr.eax = (a, bx, c, d)) :
    cpuid b s = .next (done b s { s with smcDirty := [], gpr := { s.gpr with eax := a, ebx := bx, ecx := c, edx := d } }) := by
  rw [cpuid, h]
  exact complete_eq_done b rfl

/-- The free time stamp in EDX:EAX (R1151; log 16). -/
theorem State.readTsc_eq (s : State) : s.readTsc = { s with
    gpr := { s.gpr with edx := s.drawBits.extractLsb' 32 32, eax := s.drawBits.extractLsb' 0 32 } } := by
  rw [State.readTsc, BitVec.setWidth_eq_extractLsb' (by decide)]

theorem rdtsc_eq {b : Bound} {s : State} (h : s.cr4.getLsbD 2 = false ∨ s.pe = false ∨ s.cpl = 0#2) :
    rdtsc b s = .next (done b s s.readTsc) := by
  have hallowed : (s.cr4.getLsbD 2 && s.pe && s.cpl != 0#2) = false := by
    rcases h with h | h | h
    · rw [h, Bool.false_and, Bool.false_and]
    · rw [h, Bool.and_false, Bool.false_and]
    · rw [h, bne_self_eq_false, Bool.and_false]
  rw [rdtsc, complete_raiseIf, hallowed, if_neg (by decide)]
  exact complete_eq_done b rfl

section
variable {b : Bound} {s : State} (hp : s.pe = false ∨ s.cpl = 0#2)
include hp

theorem complete_msrCheck (f : Unit → Except Stop State) : complete b s (s.msrCheck >>= f) =
    if s.gpr.ecx = 0x10#32 then complete b s (f ()) else deliverFault s (.gp 0#32) := by
  rw [State.msrCheck, State.privileged_ok hp, except_ok_bind, complete_raiseIf]
  simp only [bne_iff_ne, ne_eq, ite_not]

theorem rdmsr_eq : rdmsr b s =
    if s.gpr.ecx = 0x10#32 then .next (done b s s.readTsc) else deliverFault s (.gp 0#32) := by
  rw [rdmsr, complete_msrCheck hp, except_pure, complete_eq_done (s := s) (t := s.readTsc) b rfl]

theorem wrmsr_eq : wrmsr b s =
    if s.gpr.ecx = 0x10#32 then .next (done b s s.serialise) else deliverFault s (.gp 0#32) := by
  rw [wrmsr, complete_msrCheck hp, except_pure, complete_eq_done (s := s) (t := s.serialise) b rfl]

theorem wbinvd_eq : wbinvd b s = .next (done b s s.serialise) := by
  rw [wbinvd, State.privileged_ok hp]
  exact complete_eq_done b rfl

theorem invd_eq : invd b s = .refused .invdDataLoss := by
  rw [invd, State.privileged_ok hp]
  rfl

theorem invlpg_eq (m : Addr) : invlpg b m s =
    .next (done b s (s.signal (.invlpg (s.linear (m.segment b) (m.offset s.gpr)))).serialise) := by
  rw [invlpg, State.privileged_ok hp]
  exact complete_eq_done b rfl
end

/-! ## WAIT and ESC (R1171, R1172) -/

theorem wait_eq (b : Bound) (s : State) : wait b s =
    if s.cr0.getLsbD 3 = true ∧ s.cr0.getLsbD 1 = true then deliverFault s .nm else .next (done b s s) := by
  rw [wait, complete_raiseIf, except_pure, complete_eq_done b rfl]
  simp only [Bool.and_eq_true]

theorem escape_eq (b : Bound) (s : State) : escape b s =
    if s.cr0.getLsbD 2 = true ∨ s.cr0.getLsbD 3 = true then deliverFault s .nm else .refused .fpuUnsupported := by
  rw [escape, complete_raiseIf, complete_refuse]
  simp only [Bool.or_eq_true]

/-- Settles O50: each instruction passes its check, or raises or is refused as the check says. -/
theorem identification : Obligations.Identification := by
  intro b s m op g e settled stamp top
  have hstamp : s.readTsc = stamp := s.readTsc_eq
  rw [exec_wait, exec_esc, exec_rdtsc, exec_rdmsr, exec_wrmsr, exec_cpuid, exec_wbinvd, exec_invd, exec_invlpgM, ← hstamp]
  refine ⟨fun a bx c d h => cpuid_eq h, rdtsc_eq, fun hp hecx => ⟨?_, ?_⟩, fun hp hecx => ⟨?_, ?_⟩,
    fun hp => ⟨wbinvd_eq hp, invd_eq hp, invlpg_eq hp m⟩, wait_eq b s, escape_eq b s⟩
  · rw [rdmsr_eq hp, if_pos hecx]
  · exact (wrmsr_eq hp).trans (if_pos hecx)
  · rw [rdmsr_eq hp, if_neg hecx]
  · rw [wrmsr_eq hp, if_neg hecx]

end Sys2Proof.Machine
end

section
/-! PROOFS. What an instruction and a delivery can change, said once: the frames the invariants of the step rest on. -/
namespace Sys2Proof.Machine
open Sys2Proof

/-! ## What a computation succeeds with -/

/-- Whatever a computation succeeds with has the property. -/
def Gives {α : Type} (P : α → Prop) (r : Except Stop α) : Prop := ∀ u, r = .ok u → P u

theorem Gives.ok {α : Type} {P : α → Prop} {u : α} (h : P u) : Gives P (.ok u) := by
  rintro v ⟨⟩
  exact h

theorem Gives.error {α : Type} {P : α → Prop} (e : Stop) : Gives P (.error e) := nofun

theorem Gives.bind {α β : Type} {P : β → Prop} {x : Except Stop α} {f : α → Except Stop β}
    (h : ∀ a, x = .ok a → Gives P (f a)) : Gives P (x >>= f) := by
  intro u hu
  obtain ⟨a, ha, hf⟩ := except_bind_ok.mp hu
  exact h a ha u hf

/-- The rest of a computation after a check that passed. -/
theorem Gives.after {β : Type} {P : β → Prop} {x : Except Stop Unit} {f : Unit → Except Stop β} (h : Gives P (f ())) :
    Gives P (x >>= f) := .bind fun _ _ => h

theorem Gives.ite {α : Type} {P : α → Prop} {c : Prop} [Decidable c] {x y : Except Stop α} (hx : c → Gives P x)
    (hy : ¬c → Gives P y) : Gives P (if c then x else y) := by
  split
  · exact hx ‹_›
  · exact hy ‹_›

theorem Gives.mono {α : Type} {P Q : α → Prop} {x : Except Stop α} (h : Gives P x) (hpq : ∀ a, P a → Q a) : Gives Q x :=
  fun u hu => hpq u (h u hu)

/-! ## Flags -/

/-- The flags differ in the six status flags and DF at most. -/
def Flags.StatusOnly (f g : Flags) : Prop :=
  g = { f with cf := g.cf, pf := g.pf, af := g.af, zf := g.zf, sf := g.sf, of := g.of, df := g.df }

/-- What an instruction of this state may make of the flags: VM keeps, IOPL, VIF and VIP need CPL 0, IF is not set where
CPL > IOPL (R134, R852, R961, R1105, R1106). -/
structure State.MayWriteFlags (s : State) (f : Flags) : Prop where
  vm : f.vm = s.flags.vm
  iopl : s.pe = true → s.cpl ≠ 0#2 → f.iopl = s.flags.iopl
  vif : s.pe = true → s.cpl ≠ 0#2 → f.vif = s.flags.vif
  vip : s.pe = true → s.cpl ≠ 0#2 → f.vip = s.flags.vip
  ifl : s.pe = true → s.flags.iopl < s.cpl → f.ifl = true → s.flags.ifl = true

theorem State.MayWriteFlags.of_status {s : State} {f : Flags} (h : s.flags.StatusOnly f) : s.MayWriteFlags f := by
  rw [h]
  exact ⟨rfl, fun _ _ => rfl, fun _ _ => rfl, fun _ _ => rfl, fun _ _ h => h⟩

/-! ## Plain instructions: registers, EIP, status flags and memory -/

/-- The state changed in its general registers, EIP, the status flags and DF, memory and the stored addresses only. -/
structure Plain (s u : State) : Prop where
  frame : u = { s with gpr := u.gpr, eip := u.eip, flags := u.flags, smcDirty := u.smcDirty, mem := u.mem }
  flags : s.flags.StatusOnly u.flags
  canonical : s.canonical = true → u.canonical = true

section
variable {s u t : State}

theorem Plain.refl (s : State) : Plain s s := ⟨rfl, rfl, id⟩

theorem Plain.trans (h : Plain s u) (g : Plain u t) : Plain s t where
  frame := by rw [g.frame, h.frame]
  flags := by
    have hg := g.flags
    have hf := h.flags
    unfold Flags.StatusOnly at *
    rw [hg, hf]
  canonical := g.canonical ∘ h.canonical

theorem Plain.of_data (h : OnlyData s u) (hc : s.canonical = true → u.canonical = true) : Plain s u where
  frame := by
    unfold OnlyData at h
    rw [h]
  flags := by
    have : u.flags = s.flags := by rw [h]
    rw [this]
    rfl
  canonical := hc

theorem Plain.setReg (h : Plain s u) (w : Width) (r : BitVec 3) (v : BitVec w.bits) : Plain s (u.setReg w r v) :=
  h.trans (.of_data rfl id)

theorem Plain.setSp (h : Plain s u) (v : Word) : Plain s (u.setSp v) :=
  h.trans (.of_data (State.setSp_data u v) (State.setSp_canonical v))

theorem Plain.dropStack (h : Plain s u) (d : Word) : Plain s (u.dropStack d) := h.setSp _

theorem Plain.setAddrReg (h : Plain s u) (b : Bound) (r : BitVec 3) (v : Word) : Plain s (u.setAddrReg b r v) := by
  unfold State.setAddrReg
  split <;> exact h.setReg ..

theorem Plain.setAccPair (h : Plain s u) (w : Width) (hi lo : BitVec w.bits) : Plain s (u.setAccPair w hi lo) := by
  cases w <;> exact (h.setReg ..).setReg ..

theorem Plain.setFlags (h : Plain s u) {f : Flags} (hf : s.flags.StatusOnly f) : Plain s (u.setFlags f) where
  frame := by
    show { u with flags := f } = _
    rw [h.frame]
    rfl
  flags := hf
  canonical := h.canonical

theorem Plain.setEip (h : Plain s u) (v : Word) : Plain s { u with eip := v } :=
  ⟨by rw [h.frame], h.flags, h.canonical⟩

theorem Plain.advance (h : Plain s u) (b : Bound) : Plain s (u.advance b) := h.setEip _

theorem Plain.setGpr (h : Plain s u) (g : Gpr) : Plain s { u with gpr := g } := h.trans (.of_data rfl id)

theorem Plain.serialise (h : Plain s u) : Plain s u.serialise where
  frame := by
    unfold State.serialise
    rw [h.frame]
  flags := h.flags
  canonical hs := by
    have := h.canonical hs
    simp only [State.canonical, Bool.and_eq_true] at this ⊢
    exact ⟨this.1, rfl⟩

theorem Plain.memWrite (h : Plain s u) {x : Bool} {lin : Word} {n v : Nat} : Gives (Plain s) (u.memWrite x lin n v) :=
  fun _ ht => h.trans (.of_data (State.memWrite_only ht).data (State.memWrite_canonical ht))

theorem Plain.segWrite (h : Plain s u) {r : SegReg} {off : Word} {n v : Nat} : Gives (Plain s) (u.segWrite r off n v) :=
  fun _ ht => h.trans (.of_data (State.segWrite_only ht).data (State.segWrite_canonical ht))

theorem Plain.writeLoc (h : Plain s u) {w : Width} {l : Loc} {v : BitVec w.bits} : Gives (Plain s) (u.writeLoc w l v) :=
  fun _ ht => h.trans (.of_data (State.writeLoc_data ht) (State.writeLoc_canonical ht))

theorem Plain.push (h : Plain s u) {z : Size} {v : Word} : Gives (Plain s) (u.push z v) :=
  fun _ ht => h.trans (.of_data (State.push_data ht) (State.push_canonical ht))

theorem Plain.pushAll (h : Plain s u) {z : Size} {vs : List Word} : Gives (Plain s) (u.pushAll z vs) :=
  fun _ ht => h.trans (.of_data (State.pushAll_data ht) (State.pushAll_canonical ht))

theorem Plain.setAccessed (h : Plain s u) {addr : Word} {d : Desc} : Gives (Plain s) (u.setAccessed addr d) :=
  fun _ ht => h.trans (.of_data (State.setAccessed_only ht).data (State.setAccessed_canonical ht))

theorem Plain.enterCopies (h : Plain s u) {z : Size} {k : Nat} : Gives (Plain s) (enterCopies z k u) :=
  fun _ ht => h.trans (.of_data (enterCopies_data ht) (enterCopies_canonical ht))

theorem Plain.rmw {w : Width} {l : Loc} {f : BitVec w.bits → BitVec w.bits × Flags}
    (hf : ∀ a, s.flags.StatusOnly (f a).2) : Gives (Plain s) (s.rmw w l f) := by
  intro u hu
  obtain ⟨a, t, -, ht, rfl⟩ := State.rmw_ok.mp hu
  exact ((Plain.refl s).writeLoc t ht).setFlags (hf a)

end

/-! ## What an instruction can change -/

/-- What an instruction is licensed to do: leave a class other than none, lower CPL, raise CPL. -/
structure Licence where
  flow : Bool
  lowers : Bool
  raises : Bool

/-- Nothing is licensed. -/
def Licence.none : Licence := ⟨false, false, false⟩

/-- What an instruction changes without privilege: registers and segment registers, EIP, flags, CPL, memory, the shadow
and the blocking of interrupts, and the port writes. -/
structure UserEffect (k : Licence) (s u : State) : Prop where
  frame : u = { s with
    gpr := u.gpr, eip := u.eip, es := u.es, cs := u.cs, ss := u.ss, ds := u.ds, fs := u.fs, gs := u.gs, flags := u.flags
    cpl := u.cpl, intShadow := u.intShadow, trapPostponed := u.trapPostponed, nmiBlocked := u.nmiBlocked
    smcDirty := u.smcDirty, mem := u.mem, ioWrites := u.ioWrites }
  flags : s.MayWriteFlags u.flags
  canonical : s.canonical = true → u.canonical = true
  shaped : s.segmentsShaped = true → u.segmentsShaped = true
  realCpl : s.pe = false → u.cpl = s.cpl
  lowers : u.cpl < s.cpl → k.lowers = true
  raises : s.cpl < u.cpl → k.raises = true

/-- What a privileged instruction changes: the control, debug and descriptor-table registers beside registers, flags and
memory. -/
structure SystemEffect (s u : State) : Prop where
  privileged : s.pe = false ∨ s.cpl = 0#2
  frame : u = { s with
    gpr := u.gpr, eip := u.eip, flags := u.flags, cr0 := u.cr0, cr2 := u.cr2, cr3 := u.cr3, cr4 := u.cr4, gdtr := u.gdtr
    idtr := u.idtr, ldtr := u.ldtr, tr := u.tr, dr0 := u.dr0, dr1 := u.dr1, dr2 := u.dr2, dr3 := u.dr3, dr6 := u.dr6
    dr7 := u.dr7, halted := u.halted, smcDirty := u.smcDirty, mem := u.mem, pagingSignals := u.pagingSignals }
  canonical : s.canonical = true → u.canonical = true
  legal : s.legalMode = true → u.legalMode = true
  debug : s.debugFixed = true → u.debugFixed = true
  settled : s.settled = true → u.settled = true

/-- What an instruction that completes made of the state, before it retires. -/
def Effect (k : Licence) (s u : State) : Prop := UserEffect k s u ∨ SystemEffect s u

/-- An event of the instruction was delivered: a fault, with CR2 noted, or a software interrupt (R1301, R1320). -/
def Delivered (s t : State) : Prop :=
  ∃ (cr2 : Word) (e : Event) (eip : Word), deliver { s with cr2 := cr2, classOut := some .fault } e eip = .next t

/-- The ways an instruction with this licence has a next state: an event was delivered, or it completed (R19). -/
def Ends (k : Licence) (s : State) (r : Result) : Prop :=
  ∀ t, r = .next t → Delivered s t ∨
    ∃ trap u c, (c ≠ .none → k.flow = true) ∧ Effect k s u ∧ t = retire s trap u c

section
variable {k : Licence} {s u : State}

theorem State.segmentsShaped_congr (hcs : u.cs = s.cs) (hss : u.ss = s.ss) : u.segmentsShaped = s.segmentsShaped := by
  simp only [State.segmentsShaped, hcs, hss]

theorem Plain.user (k : Licence) (h : Plain s u) : UserEffect k s u := by
  have hcpl : u.cpl = s.cpl := by rw [h.frame]
  refine ⟨by rw [h.frame], .of_status h.flags, h.canonical, ?_, fun _ => hcpl, ?_, ?_⟩
  · rw [State.segmentsShaped_congr (s := s) (u := u) (by rw [h.frame]) (by rw [h.frame])]
    exact id
  · rw [hcpl]
    exact fun h => absurd h (BitVec.lt_irrefl _)
  · rw [hcpl]
    exact fun h => absurd h (BitVec.lt_irrefl _)

theorem UserEffect.setEip (h : UserEffect k s u) (v : Word) : UserEffect k s { u with eip := v } :=
  ⟨by rw [h.frame], h.flags, h.canonical, h.shaped, h.realCpl, h.lowers, h.raises⟩

theorem SystemEffect.setEip (h : SystemEffect s u) (v : Word) : SystemEffect s { u with eip := v } :=
  ⟨h.privileged, by rw [h.frame], h.canonical, h.legal, h.debug, h.settled⟩

theorem Effect.advance (h : Effect k s u) (b : Bound) : Effect k s (u.advance b) :=
  h.imp (fun h => h.setEip _) (fun h => h.setEip _)

theorem State.noteFault_eq (s : State) (x : Exc) : s.noteFault x = { s with cr2 := (s.noteFault x).cr2 } := by
  cases x <;> rfl

theorem delivered_of_deliverFault {x : Exc} (h : deliverFault s x = .next u) : Delivered s u := by
  refine ⟨(s.noteFault x).cr2, x.event, s.eip, ?_⟩
  unfold deliverFault at h
  rw [State.noteFault_eq] at h
  exact h

/-- An execute whose every success is an effect ends as R19 says. -/
theorem ends_finish {trap : Bool} {r : Except Stop (State × FlowClass)}
    (h : Gives (fun p => (p.2 ≠ .none → k.flow = true) ∧ Effect k s p.1) r) : Ends k s (finish s trap r) := by
  intro t ht
  rcases finish_next ht with ⟨u, c, hr, rfl⟩ | ⟨x, -, hx⟩
  · exact .inr ⟨trap, u, c, (h _ hr).1, (h _ hr).2, rfl⟩
  · exact .inl (delivered_of_deliverFault hx)

theorem Gives.map {α β : Type} {P : β → Prop} {r : Except Stop α} {f : α → β} (h : Gives (fun a => P (f a)) r) :
    Gives P (r.map f) := by
  intro u hu
  obtain ⟨a, ha, rfl⟩ := except_map_ok.mp hu
  exact h a ha

theorem ends_complete {b : Bound} {r : Except Stop State} (h : Gives (Effect k s) r) : Ends k s (complete b s r) :=
  ends_finish (.map (h.mono fun _ hu => ⟨fun hc => absurd rfl hc, hu.advance b⟩))

/-- An instruction that changes registers, status flags and memory alone. -/
theorem ends_plain {b : Bound} {r : Except Stop State} (h : Gives (Plain s) r) : Ends k s (complete b s r) :=
  ends_complete (h.mono fun _ hu => .inl (hu.user k))

theorem ends_user {b : Bound} {r : Except Stop State} (h : Gives (UserEffect k s) r) : Ends k s (complete b s r) :=
  ends_complete (h.mono fun _ hu => .inl hu)

theorem ends_system {b : Bound} {r : Except Stop State} (h : Gives (SystemEffect s) r) : Ends k s (complete b s r) :=
  ends_complete (h.mono fun _ hu => .inr hu)

theorem ends_completeAs {c : FlowClass} {r : Except Stop State} (hk : k.flow = true) (h : Gives (Effect k s) r) :
    Ends k s (completeAs c s r) :=
  ends_finish (.map (h.mono fun _ hu => ⟨fun _ => hk, hu⟩))

theorem ends_softInt (b : Bound) (v : Byte) : Ends k s (softInt b v s) :=
  fun _ ht => .inl ⟨s.cr2, _, _, ht⟩

end

end Sys2Proof.Machine
end

section
/-! PROOFS. The instructions that change registers, status flags and memory alone. -/
namespace Sys2Proof.Machine
open Sys2Proof

/-- The result is a completed computation that changes registers, EIP, status flags and memory alone. -/
def PlainForm (b : Bound) (s : State) (r : Result) : Prop := ∃ x, r = complete b s x ∧ Gives (Plain s) x

theorem PlainForm.ends {k : Licence} {b : Bound} {s : State} {r : Result} (h : PlainForm b s r) : Ends k s r := by
  obtain ⟨x, rfl, hx⟩ := h
  exact ends_plain hx

/-! ## The flag formulas write status flags -/

section
variable (f : Flags) {n : Nat}

theorem Flags.sub_status (a b : BitVec n) (c : Bool) : f.StatusOnly (f.sub a b c) := by
  unfold Flags.StatusOnly Flags.sub
  rfl

theorem Alu.eval_status (op : Alu) (a b : BitVec n) : f.StatusOnly (op.eval f a b).2 := by cases op <;> rfl

theorem ShiftOp.eval_status (op : ShiftOp) (dr : FlagDraws) (d : BitVec n) (c : Nat) :
    f.StatusOnly (op.eval f dr d c).2 := by cases op <;> rfl

theorem shldBody_status (dr : FlagDraws) (draw src d : BitVec n) (c : Nat) :
    f.StatusOnly (shldBody f dr draw src d c).2 := by
  unfold shldBody
  split <;> rfl

theorem shrdBody_status (dr : FlagDraws) (draw src d : BitVec n) (c : Nat) :
    f.StatusOnly (shrdBody f dr draw src d c).2 := by
  unfold shrdBody
  split <;> rfl

end

section
variable (b : Bound) (s : State) (e : Rm) (g r : BitVec 3) (w : Width)

/-! ## Arithmetic -/

theorem aluInto_plain (op : Alu) (l : Loc) (src : BitVec w.bits) : Gives (Plain s) (aluInto op w s l src) :=
  .ite (fun _ => .rmw fun _ => Alu.eval_status ..) fun _ =>
    .bind fun _ _ => .ok ((Plain.refl s).setFlags (Alu.eval_status ..))

theorem aluRmReg_plain (op : Alu) : PlainForm b s (aluRmReg op w b e g s) := ⟨_, rfl, aluInto_plain _ _ _ _ _⟩

theorem aluRegRm_plain (op : Alu) : PlainForm b s (aluRegRm op w b g e s) :=
  ⟨_, rfl, .bind fun _ _ => aluInto_plain _ _ _ _ _⟩

theorem aluRmImm_plain (op : Alu) (imm : BitVec w.bits) : PlainForm b s (aluRmImm op w b e imm s) :=
  ⟨_, rfl, aluInto_plain _ _ _ _ _⟩

theorem aluAcc_plain (op : Alu) (imm : BitVec w.bits) : PlainForm b s (aluAcc op w b imm s) :=
  ⟨_, rfl, aluInto_plain _ _ _ _ _⟩

theorem incRm_plain : PlainForm b s (incRm w b e s) := ⟨_, rfl, .rmw fun _ => rfl⟩

theorem decRm_plain : PlainForm b s (decRm w b e s) := ⟨_, rfl, .rmw fun _ => rfl⟩

theorem negRm_plain : PlainForm b s (negRm w b e s) := ⟨_, rfl, .rmw fun _ => rfl⟩

theorem notRm_plain : PlainForm b s (notRm w b e s) := ⟨_, rfl, .rmw fun _ => rfl⟩

theorem incReg_plain : PlainForm b s (incReg w b r s) := ⟨_, rfl, .rmw fun _ => rfl⟩

theorem decReg_plain : PlainForm b s (decReg w b r s) := ⟨_, rfl, .rmw fun _ => rfl⟩

theorem mulRm_plain : PlainForm b s (mulRm w b e s) :=
  ⟨_, rfl, .bind fun _ _ => .ok (((Plain.refl s).setAccPair ..).setFlags rfl)⟩

theorem imulRm_plain : PlainForm b s (imulRm w b e s) :=
  ⟨_, rfl, .bind fun _ _ => .ok (((Plain.refl s).setAccPair ..).setFlags rfl)⟩

theorem imulRegRm_plain : PlainForm b s (imulRegRm w b g e s) :=
  ⟨_, rfl, .bind fun _ _ => .ok (((Plain.refl s).setReg ..).setFlags rfl)⟩

theorem imulRegRmImm_plain (imm : BitVec w.bits) : PlainForm b s (imulRegRmImm w b g e imm s) :=
  ⟨_, rfl, .bind fun _ _ => .ok (((Plain.refl s).setReg ..).setFlags rfl)⟩

theorem divRm_plain : PlainForm b s (divRm w b e s) :=
  ⟨_, rfl, .bind fun _ _ => .after (.after (.ok (((Plain.refl s).setAccPair ..).setFlags rfl)))⟩

theorem idivRm_plain : PlainForm b s (idivRm w b e s) :=
  ⟨_, rfl, .bind fun _ _ => .after (.after (.ok (((Plain.refl s).setAccPair ..).setFlags rfl)))⟩

theorem daa_plain : PlainForm b s (daa b s) := ⟨_, rfl, .ok (((Plain.refl s).setReg ..).setFlags rfl)⟩

theorem das_plain : PlainForm b s (das b s) := ⟨_, rfl, .ok (((Plain.refl s).setReg ..).setFlags rfl)⟩

theorem aaa_plain : PlainForm b s (aaa b s) :=
  ⟨_, rfl, .ok ((((Plain.refl s).setReg ..).setReg ..).setFlags rfl)⟩

theorem aas_plain : PlainForm b s (aas b s) :=
  ⟨_, rfl, .ok ((((Plain.refl s).setReg ..).setReg ..).setFlags rfl)⟩

theorem aam_plain (imm : Byte) : PlainForm b s (aam b imm s) :=
  ⟨_, rfl, .after (.ok ((((Plain.refl s).setReg ..).setReg ..).setFlags rfl))⟩

theorem aad_plain (imm : Byte) : PlainForm b s (aad b imm s) :=
  ⟨_, rfl, .ok ((((Plain.refl s).setReg ..).setReg ..).setFlags rfl)⟩

theorem cmpxchg_plain : PlainForm b s (cmpxchg w b e g s) :=
  ⟨_, rfl, .bind fun _ _ => .ite
    (fun _ => .bind fun t ht => .ok (((Plain.refl s).writeLoc t ht).setFlags rfl))
    (fun _ => .bind fun t ht => .ok ((((Plain.refl s).writeLoc t ht).setReg ..).setFlags rfl))⟩

theorem cmpxchg8b_plain (m : Addr) : PlainForm b s (cmpxchg8b b m s) :=
  ⟨_, rfl, .bind fun _ _ => .ite
    (fun _ => .bind fun t ht => .ok (((Plain.refl s).segWrite t ht).setFlags rfl))
    (fun _ => .bind fun t ht => .ok (((((Plain.refl s).segWrite t ht).setReg ..).setReg ..).setFlags rfl))⟩

theorem xadd_plain : PlainForm b s (xadd w b e g s) :=
  ⟨_, rfl, .bind fun _ _ => .bind fun t ht => .ok ((((Plain.refl s).setReg ..).writeLoc t ht).setFlags rfl)⟩

/-! ## Bits and shifts -/

theorem bitOn_plain (op : BitOp) (l : Loc) (i : Nat) : Gives (Plain s) (bitOn op w s l i) := by
  cases op with
  | bt => exact .bind fun _ _ => .ok ((Plain.refl s).setFlags rfl)
  | bts => exact .rmw fun _ => rfl
  | btr => exact .rmw fun _ => rfl
  | btc => exact .rmw fun _ => rfl

theorem bitRmReg_plain (op : BitOp) : PlainForm b s (bitRmReg op w b e g s) := ⟨_, rfl, bitOn_plain _ _ _ _ _⟩

theorem bitRmImm_plain (op : BitOp) (imm : Byte) : PlainForm b s (bitRmImm op w b e imm s) :=
  ⟨_, rfl, bitOn_plain _ _ _ _ _⟩

theorem scanRegRm_plain (find : {n : Nat} → BitVec n → Nat) : PlainForm b s (scanRegRm find w b g e s) :=
  ⟨_, rfl, .bind fun _ _ => .ok (((Plain.refl s).setReg ..).setFlags rfl)⟩

theorem setcc_plain (cc : BitVec 4) : PlainForm b s (setcc b cc e s) := ⟨_, rfl, (Plain.refl s).writeLoc⟩

theorem shiftFrame_plain (count : Byte) {body : BitVec w.bits → Nat → BitVec w.bits × Flags}
    (h : ∀ d c, s.flags.StatusOnly (body d c).2) : PlainForm b s (shiftFrame w b e count body s) :=
  ⟨_, rfl, .bind fun _ _ => .ite (fun _ => (Plain.refl s).writeLoc)
    (fun _ => .bind fun t ht => .ok (((Plain.refl s).writeLoc t ht).setFlags (h _ _)))⟩

theorem shiftRm_plain (op : ShiftOp) (count : Byte) : PlainForm b s (shiftRm op w b e count s) :=
  shiftFrame_plain b s e w count fun _ _ => ShiftOp.eval_status ..

theorem shld_plain (count : Byte) : PlainForm b s (shld w b e g count s) :=
  shiftFrame_plain b s e w count fun _ _ => shldBody_status ..

theorem shrd_plain (count : Byte) : PlainForm b s (shrd w b e g count s) :=
  shiftFrame_plain b s e w count fun _ _ => shrdBody_status ..

/-! ## Data movement -/

theorem movRmReg_plain : PlainForm b s (movRmReg w b e g s) := ⟨_, rfl, (Plain.refl s).writeLoc⟩

theorem movRegRm_plain : PlainForm b s (movRegRm w b g e s) :=
  ⟨_, rfl, .bind fun _ _ => .ok ((Plain.refl s).setReg ..)⟩

theorem movRegImm_plain (imm : BitVec w.bits) : PlainForm b s (movRegImm w b r imm s) :=
  ⟨_, rfl, .ok ((Plain.refl s).setReg ..)⟩

theorem movRmImm_plain (imm : BitVec w.bits) : PlainForm b s (movRmImm w b e imm s) :=
  ⟨_, rfl, (Plain.refl s).writeLoc⟩

theorem movAccMoffs_plain (o : Word) : PlainForm b s (movAccMoffs w b o s) :=
  ⟨_, rfl, .bind fun _ _ => .ok ((Plain.refl s).setReg ..)⟩

theorem movMoffsAcc_plain (o : Word) : PlainForm b s (movMoffsAcc w b o s) := ⟨_, rfl, (Plain.refl s).writeLoc⟩

theorem storeSelector_plain (v : Half) : Gives (Plain s) (s.storeSelector b e v) := by
  unfold State.storeSelector
  split
  · exact (Plain.refl s).segWrite
  · split <;> exact .ok ((Plain.refl s).setReg ..)

theorem movRmSeg_plain (sr : SegReg) : PlainForm b s (movRmSeg b e sr s) := ⟨_, rfl, storeSelector_plain _ _ _ _⟩

theorem movzx_plain : PlainForm b s (movzx w b g e s) := ⟨_, rfl, .bind fun _ _ => .ok ((Plain.refl s).setReg ..)⟩

theorem movsx_plain : PlainForm b s (movsx w b g e s) := ⟨_, rfl, .bind fun _ _ => .ok ((Plain.refl s).setReg ..)⟩

theorem xchgLoc_plain (l : Loc) : Gives (Plain s) (xchgLoc w s l g) :=
  .bind fun _ _ => .bind fun t ht => .ok (((Plain.refl s).writeLoc t ht).setReg ..)

theorem xchgRmReg_plain : PlainForm b s (xchgRmReg w b e g s) := ⟨_, rfl, xchgLoc_plain _ _ _ _⟩

theorem xchgAcc_plain : PlainForm b s (xchgAcc w b r s) := ⟨_, rfl, xchgLoc_plain _ _ _ _⟩

theorem nop_plain : PlainForm b s (nop b s) := ⟨_, rfl, .ok (.refl s)⟩

theorem lea_plain (m : Addr) : PlainForm b s (lea b g m s) := ⟨_, rfl, .ok ((Plain.refl s).setReg ..)⟩

theorem cbw_plain : PlainForm b s (cbw b s) := by
  refine ⟨_, rfl, .ok ?_⟩
  split <;> exact (Plain.refl s).setReg ..

theorem cwd_plain : PlainForm b s (cwd b s) := ⟨_, rfl, .ok ((Plain.refl s).setReg ..)⟩

theorem bswap_plain : PlainForm b s (bswap b r s) := by
  refine ⟨_, rfl, .ok ?_⟩
  split <;> exact (Plain.refl s).setReg ..

theorem cmovcc_plain (cc : BitVec 4) : PlainForm b s (cmovcc w b cc g e s) := by
  refine ⟨_, rfl, .bind fun v _ => .ok ?_⟩
  split
  · exact (Plain.refl s).setReg ..
  · exact .refl s

theorem xlat_plain : PlainForm b s (xlat b s) := ⟨_, rfl, .bind fun _ _ => .ok ((Plain.refl s).setReg ..)⟩

theorem lahf_plain : PlainForm b s (lahf b s) := ⟨_, rfl, .ok ((Plain.refl s).setReg ..)⟩

theorem sahf_plain : PlainForm b s (sahf b s) := ⟨_, rfl, .ok ((Plain.refl s).setFlags rfl)⟩

/-! ## The stack -/

theorem pushReg_plain : PlainForm b s (pushReg b r s) := ⟨_, rfl, (Plain.refl s).push⟩

theorem pushRm_plain : PlainForm b s (pushRm b e s) := ⟨_, rfl, .bind fun _ _ => (Plain.refl s).push⟩

theorem pushImm_plain (v : Word) : PlainForm b s (pushImm b v s) := ⟨_, rfl, (Plain.refl s).push⟩

theorem pushSeg_plain (sr : SegReg) : PlainForm b s (pushSeg sr b s) := ⟨_, rfl, (Plain.refl s).push⟩

theorem popReg_plain : PlainForm b s (popReg b r s) :=
  ⟨_, rfl, .bind fun _ _ => .ok (((Plain.refl s).dropStack _).setReg ..)⟩

theorem popRm_plain : PlainForm b s (popRm b e s) :=
  ⟨_, rfl, .bind fun _ _ => ((Plain.refl s).setSp _).writeLoc⟩

theorem pusha_plain : PlainForm b s (pusha b s) := ⟨_, rfl, .after (Plain.refl s).pushAll⟩

theorem popa_plain : PlainForm b s (popa b s) :=
  ⟨_, rfl, .bind fun _ _ => .bind fun _ _ => .bind fun _ _ => .bind fun _ _ => .bind fun _ _ => .bind fun _ _ =>
    .bind fun _ _ => .bind fun _ _ => .ok ((((((((Plain.refl s).setReg ..).setReg ..).setReg ..).setReg ..).setReg
      ..).setReg ..).setReg .. |>.dropStack _)⟩

theorem pushf_plain : PlainForm b s (pushf b s) := ⟨_, rfl, (Plain.refl s).push⟩

theorem enter_plain (size : Half) (level : Byte) : PlainForm b s (enter b size level s) := by
  refine ⟨_, rfl, .bind fun s1 h1 => .ite (fun _ => .ok ?_)
    fun _ => .bind fun s2 h2 => .bind fun s3 h3 => .ok ?_⟩
  · exact (((Plain.refl s).push s1 h1).setReg ..).dropStack _
  · exact (((((Plain.refl s).push s1 h1).enterCopies s2 h2).push s3 h3).setReg ..).dropStack _

theorem leave_plain : PlainForm b s (leave b s) :=
  ⟨_, rfl, .bind fun _ _ => .ok (((Plain.refl s).setSp _).setReg ..)⟩

/-! ## BOUND, ports, selectors, identification -/

theorem bound_plain (m : Addr) : PlainForm b s (bound b g m s) :=
  ⟨_, rfl, .bind fun _ _ => .bind fun _ _ => .after (.ok (.refl s))⟩

theorem inPort_plain (p : Half) : PlainForm b s (inPort w b p s) := ⟨_, rfl, .after (.ok ((Plain.refl s).setReg ..))⟩

theorem setZf_plain (z : Bool) : Plain s (s.setZf z) := (Plain.refl s).setFlags rfl

theorem arpl_plain : PlainForm b s (arpl b e g s) :=
  ⟨_, rfl, .after (.bind fun _ _ => .ite
    (fun _ => .bind fun t ht => .ok (((Plain.refl s).writeLoc t ht).trans (setZf_plain t _)))
    (fun _ => .ok (setZf_plain ..)))⟩

theorem inspectInto_plain (types : BitVec 4 → Bool) (value : Desc → (w : Width) → BitVec w.bits) :
    PlainForm b s (inspectInto types value b g e s) := by
  refine ⟨_, rfl, .after (.bind fun sel _ => .bind fun d _ => ?_)⟩
  split
  · exact .ok (setZf_plain ..)
  · exact .ite (fun _ => .ok (((Plain.refl s).setReg ..).trans (setZf_plain ..))) fun _ => .ok (setZf_plain ..)

theorem verify_plain (good : Desc → Bool) : PlainForm b s (verify good b e s) := by
  refine ⟨_, rfl, .after (.bind fun sel _ => .bind fun d _ => ?_)⟩
  split <;> exact .ok (setZf_plain ..)

theorem storeTable_plain (r : TableReg) (m : Addr) : PlainForm b s (storeTable r b m s) :=
  ⟨_, rfl, .after (.after (.bind fun t ht => ((Plain.refl s).segWrite t ht).segWrite))⟩

theorem storeSys_plain (r : SysSeg) : PlainForm b s (storeSys r b e s) := ⟨_, rfl, .after (storeSelector_plain _ _ _ _)⟩

theorem smsw_plain : PlainForm b s (smsw b e s) := ⟨_, rfl, storeSelector_plain _ _ _ _⟩

theorem movFromControl_plain (c : ControlReg) : PlainForm b s (movFromControl b r c s) :=
  ⟨_, rfl, .after (.ok (((Plain.refl s).setReg ..).setFlags rfl))⟩

theorem movFromDebug_plain (d : BitVec 3) : PlainForm b s (movFromDebug b r d s) :=
  ⟨_, rfl, .after (.after (.ok (((Plain.refl s).setReg ..).setFlags rfl)))⟩

theorem setFlagsTo_plain {f : Flags → Flags} (hf : ∀ f₀ : Flags, f₀.StatusOnly (f f₀)) : PlainForm b s (setFlagsTo f b s) :=
  ⟨_, rfl, .ok ((Plain.refl s).setFlags (hf _))⟩

theorem cpuid_plain : PlainForm b s (cpuid b s) := ⟨_, rfl, .ok ((Plain.refl s).serialise.setGpr _)⟩

theorem readTsc_plain : Plain s s.readTsc := (Plain.refl s).setGpr _

theorem rdtsc_plain : PlainForm b s (rdtsc b s) := ⟨_, rfl, .after (.ok (readTsc_plain s))⟩

theorem rdmsr_plain : PlainForm b s (rdmsr b s) := ⟨_, rfl, .after (.ok (readTsc_plain s))⟩

theorem wrmsr_plain : PlainForm b s (wrmsr b s) := ⟨_, rfl, .after (.ok (Plain.refl s).serialise)⟩

theorem wbinvd_plain : PlainForm b s (wbinvd b s) := ⟨_, rfl, .after (.ok (Plain.refl s).serialise)⟩

theorem invd_plain : PlainForm b s (invd b s) := ⟨_, rfl, .after (.error _)⟩

theorem undefinedOpcode_plain : PlainForm b s (undefinedOpcode b s) := ⟨_, rfl, .error _⟩

theorem escape_plain : PlainForm b s (escape b s) := ⟨_, rfl, .after (.error _)⟩

theorem wait_plain : PlainForm b s (wait b s) := ⟨_, rfl, .after (.ok (.refl s))⟩

end

end Sys2Proof.Machine
end

section
/-! PROOFS. The flags POPF and IRET write (R431, R852, R961). -/
namespace Sys2Proof.Machine
open Sys2Proof Sys2Proof.Claims

/-- A two-bit field put together from its bits. -/
theorem ofBool_append_ofBool (x : BitVec 2) : BitVec.ofBool x[1] ++ BitVec.ofBool x[0] = x := by
  revert x
  decide

/-- The IOPL field of an image, from its bits. -/
theorem iopl_of_image (v : Word) : BitVec.ofBool v[13] ++ BitVec.ofBool v[12] = v.extractLsb' 12 2 := by
  simpa using ofBool_append_ofBool (v.extractLsb' 12 2)

/-- POPF's flags, the masked ones from the image (R852). -/
theorem setImage_popfMask (s : State) (v : Word) (z : Size) :
    s.flags.setImage v (s.popfMask z) =
      { cf := v.getLsbD 0, pf := v.getLsbD 2, af := v.getLsbD 4, zf := v.getLsbD 6, sf := v.getLsbD 7, tf := v.getLsbD 8
        ifl := if !s.pe || decide (s.cpl ≤ s.flags.iopl) then v.getLsbD 9 else s.flags.ifl
        df := v.getLsbD 10, of := v.getLsbD 11
        iopl := if !s.pe || s.cpl == 0#2 then v.extractLsb' 12 2 else s.flags.iopl
        nt := v.getLsbD 14, rf := s.flags.rf, vm := s.flags.vm
        ac := if decide (z = .s32) then v.getLsbD 18 else s.flags.ac, vif := s.flags.vif, vip := s.flags.vip
        id := if decide (z = .s32) then v.getLsbD 21 else s.flags.id } := by
  unfold State.popfMask
  generalize (!s.pe || decide (s.cpl ≤ s.flags.iopl)) = io
  generalize (!s.pe || s.cpl == 0#2) = top
  cases z <;> cases io <;> cases top <;> simp [Flags.setImage, iopl_of_image, ofBool_append_ofBool]

/-- IRET's flags in protected mode, the masked ones from the image (R961). -/
theorem setImage_iretMask (s : State) (v : Word) (z : Size) :
    s.flags.setImage v (s.iretMask z) =
      { cf := v.getLsbD 0, pf := v.getLsbD 2, af := v.getLsbD 4, zf := v.getLsbD 6, sf := v.getLsbD 7, tf := v.getLsbD 8
        ifl := if decide (s.cpl ≤ s.flags.iopl) then v.getLsbD 9 else s.flags.ifl, df := v.getLsbD 10, of := v.getLsbD 11
        iopl := if s.cpl == 0#2 then v.extractLsb' 12 2 else s.flags.iopl, nt := v.getLsbD 14
        rf := if decide (z = .s32) then v.getLsbD 16 else s.flags.rf, vm := s.flags.vm
        ac := if decide (z = .s32) then v.getLsbD 18 else s.flags.ac
        vif := if decide (z = .s32) && s.cpl == 0#2 then v.getLsbD 19 else s.flags.vif
        vip := if decide (z = .s32) && s.cpl == 0#2 then v.getLsbD 20 else s.flags.vip
        id := if decide (z = .s32) then v.getLsbD 21 else s.flags.id } := by
  unfold State.iretMask
  generalize decide (s.cpl ≤ s.flags.iopl) = io
  generalize (s.cpl == 0#2) = top
  cases z <;> cases io <;> cases top <;> simp [Flags.setImage, iopl_of_image, ofBool_append_ofBool]

theorem exec_popf (b : Bound) (s : State) : exec (.popf b) s = popf b s := rfl

/-- POPF with its image in the slot at the stack pointer (R852). -/
theorem popf_spec {b : Bound} {s : State} {v : Word} (h : StackHolds s b.osz 0 v) :
    popf b s = .next (done b s ((popped s (slots b.osz 1)).setFlags (s.flags.setImage v (s.popfMask b.osz)))) := by
  unfold popf
  rw [stackRead_top_of_holds h]
  simp only [except_ok_bind, except_pure, State.dropStack_eq, ← slots_one]
  rw [complete_setFlags (popped_data s _)]
  rfl

/-- Settles O29: each mask is read bit by bit; the completion clears RF. -/
theorem stackFlags : Obligations.StackFlags := by
  refine ⟨fun b s v h => ?_, fun s z v => by simpa only [decide_eq_true_eq] using setImage_iretMask s v z⟩
  dsimp only
  rw [exec_popf, popf_spec h, setImage_popfMask]
  rfl

end Sys2Proof.Machine
end

section
/-! PROOFS. The instructions that change segment registers, privileged flags, CPL or outputs, and the privileged ones. -/
namespace Sys2Proof.Machine
open Sys2Proof

section
variable {k : Licence} {s u t : State}

theorem UserEffect.refl (k : Licence) (s : State) : UserEffect k s s := (Plain.refl s).user k

/-- An effect followed by plain changes. -/
theorem UserEffect.plain (h : UserEffect k s u) (g : Plain u t) : UserEffect k s t where
  frame := by rw [g.frame, h.frame]
  flags := by
    have hg := g.flags
    unfold Flags.StatusOnly at hg
    rw [hg]
    exact ⟨h.flags.vm, h.flags.iopl, h.flags.vif, h.flags.vip, h.flags.ifl⟩
  canonical := g.canonical ∘ h.canonical
  shaped hs := by
    rw [State.segmentsShaped_congr (s := u) (u := t) (by rw [g.frame]) (by rw [g.frame])]
    exact h.shaped hs
  realCpl := by
    rw [g.frame]
    exact h.realCpl
  lowers := by
    rw [g.frame]
    exact h.lowers
  raises := by
    rw [g.frame]
    exact h.raises

/-- Fields other than the segment registers, CPL and memory written. -/
theorem UserEffect.setFlags (h : UserEffect k s u) {f : Flags} (hf : s.MayWriteFlags f) :
    UserEffect k s (u.setFlags f) :=
  ⟨by
    show { u with flags := f } = _
    rw [h.frame]
    rfl, hf, h.canonical, h.shaped, h.realCpl, h.lowers, h.raises⟩

theorem UserEffect.shadowIf (h : UserEffect k s u) (c : Bool) : UserEffect k s (u.shadowIf c) :=
  ⟨by
    unfold State.shadowIf
    rw [h.frame], h.flags, h.canonical, h.shaped, h.realCpl, h.lowers, h.raises⟩

theorem UserEffect.postponeTrap (h : UserEffect k s u) (c : Bool) : UserEffect k s (u.postponeTrap c) :=
  ⟨by
    unfold State.postponeTrap
    rw [h.frame], h.flags, h.canonical, h.shaped, h.realCpl, h.lowers, h.raises⟩

theorem UserEffect.unblockNmi (h : UserEffect k s u) : UserEffect k s { u with nmiBlocked := false } :=
  ⟨by rw [h.frame], h.flags, h.canonical, h.shaped, h.realCpl, h.lowers, h.raises⟩

theorem UserEffect.ioWrite (h : UserEffect k s u) (w : Width) (p : Half) (v : BitVec w.bits) :
    UserEffect k s (u.ioWrite w p v) :=
  ⟨by
    unfold State.ioWrite
    rw [h.frame], h.flags, h.canonical, h.shaped, h.realCpl, h.lowers, h.raises⟩

/-- Segment registers loaded in place of others of their shape. -/
theorem UserEffect.setSegs (h : UserEffect k s u) {es ss ds fs gs : SegCache}
    (hss : u.segmentsShaped = true → ({ u with ss := ss } : State).segmentsShaped = true) :
    UserEffect k s { u with es := es, ss := ss, ds := ds, fs := fs, gs := gs } :=
  ⟨by rw [h.frame], h.flags, h.canonical, fun hs => hss (h.shaped hs), h.realCpl, h.lowers, h.raises⟩

/-! ## Segment loads by an instruction -/

theorem State.segmentsShaped_iff {s : State} : s.segmentsShaped = true ↔
    (s.cs.valid = true ∧ s.cs.type.getLsbD 3 = true) ∧
      s.ss.valid = true ∧ s.ss.type.getLsbD 3 = false ∧ s.ss.type.getLsbD 1 = true := by
  simp [State.segmentsShaped, and_assoc]

/-- The type of a loaded descriptor keeps every bit but the accessed one. -/
theorem SegCache.ofDesc_type (sel : Half) (d : Desc) {i : Nat} (hi : i ≠ 0) :
    (SegCache.ofDesc sel d).type.getLsbD i = d.type.getLsbD i := by
  show (d.type ||| 1#4).getLsbD i = _
  simp [BitVec.getLsbD_one, hi]

/-- SS loaded from a writable data descriptor keeps the shape. -/
theorem State.segmentsShaped_setStack {d : Desc} (hd : d.isWritableData = true) (sel : Half)
    (h : s.segmentsShaped = true) : ({ s with ss := .ofDesc sel d } : State).segmentsShaped = true := by
  obtain ⟨-, h3, h1⟩ := Desc.isWritableData_iff.mp hd
  rw [State.segmentsShaped_iff] at h ⊢
  exact ⟨h.1, rfl, by rw [SegCache.ofDesc_type _ _ (by decide), h3], by rw [SegCache.ofDesc_type _ _ (by decide), h1]⟩

theorem UserEffect.setSeg (h : UserEffect k s u) {r : SegReg} {c : SegCache} (hcs : r ≠ .cs)
    (hss : r = .ss → u.segmentsShaped = true → ({ u with ss := c } : State).segmentsShaped = true) :
    UserEffect k s (u.setSeg r c) := by
  cases r with
  | cs => exact absurd rfl hcs
  | ss => exact h.setSegs (hss rfl)
  | es => exact h.setSegs id
  | ds => exact h.setSegs id
  | fs => exact h.setSegs id
  | gs => exact h.setSegs id

theorem State.loadSegReg_user (k : Licence) {r : SegReg} {sel : Half} (hcs : r ≠ .cs) :
    Gives (UserEffect k s) (s.loadSegReg r sel) := by
  intro u hu
  unfold State.loadSegReg at hu
  split at hu
  · injection hu with hu
    subst hu
    refine (UserEffect.refl k s).setSeg hcs fun hr h => ?_
    subst hr
    rw [State.segmentsShaped_iff] at h ⊢
    exact ⟨h.1, rfl, h.2.2⟩
  · split at hu
    · next hr =>
      obtain ⟨-, -, addr, d, t, -, hw, -, -, ht, rfl⟩ := State.loadSS_ok hu
      exact (((Plain.refl s).setAccessed t ht).user k).setSeg (by decide) fun _ h =>
        State.segmentsShaped_setStack hw sel h
    · next hr =>
      have hss : r ≠ .ss := by simpa using hr
      rcases State.loadDataSeg_ok hu with ⟨-, rfl⟩ | ⟨-, addr, d, t, -, ht, rfl⟩
      · exact (UserEffect.refl k s).setSeg hcs fun h => absurd h hss
      · exact (((Plain.refl s).setAccessed t ht).user k).setSeg hcs fun h => absurd h hss

theorem ends_completeShadowed {b : Bound} {r : Except Stop State} (h : Gives (UserEffect k s) r) :
    Ends k s (completeShadowed b s r) :=
  ends_finish (.map (h.mono fun _ hu => ⟨fun hc => absurd rfl hc, .inl ((hu.postponeTrap _).setEip _)⟩))

section
variable (b : Bound) (e : Rm) (m : Addr) (g : BitVec 3) (w : Width)

theorem movSegRm_ends (r : SegReg) : Ends k s (movSegRm b r e s) := by
  have hrun : Gives (UserEffect k s) (do
      raiseIf (r == .cs) .ud
      let sel ← s.readLoc .w16 (s.loc b e)
      let t ← s.loadSegReg r sel
      return t.shadowIf (r == .ss)) :=
    .bind fun _ hr => .bind fun _ _ => .bind fun t ht => .ok
      ((State.loadSegReg_user k (by simpa using raiseIf_ok.mp hr) t ht).shadowIf _)
  unfold movSegRm
  dsimp only
  split
  · exact ends_completeShadowed hrun
  · exact ends_user hrun

theorem popSeg_ends {r : SegReg} (hcs : r ≠ .cs) : Ends k s (popSeg r b s) := by
  have hrun : Gives (UserEffect k s) (do
      let v ← s.stackRead b.osz 0#32
      let t ← s.loadSegReg r (v.setWidth 16)
      return (t.setSp (stackStep t.ss.db s.sp b.osz.delta)).shadowIf (r == .ss)) :=
    .bind fun _ _ => .bind fun t ht => .ok
      (((State.loadSegReg_user k hcs t ht).plain ((Plain.refl t).setSp _)).shadowIf _)
  unfold popSeg
  dsimp only
  split
  · exact ends_completeShadowed hrun
  · exact ends_user hrun

theorem loadFarPointer_ends {r : SegReg} (hcs : r ≠ .cs) : Ends k s (loadFarPointer r b g m s) :=
  ends_user (.bind fun ⟨_, _⟩ _ => .bind fun t ht => .ok
    ((State.loadSegReg_user k hcs t ht).plain ((Plain.refl t).setReg ..)))

/-! ## Flags and ports -/

theorem State.mayWrite_popf (v : Word) (z : Size) (rf : Bool) :
    s.MayWriteFlags { s.flags.setImage v (s.popfMask z) with rf := rf } := by
  rw [setImage_popfMask]
  refine ⟨rfl, fun hpe hcpl => ?_, fun _ _ => rfl, fun _ _ => rfl, fun hpe hlt => ?_⟩
  · simp [hpe, hcpl]
  · simp [hpe, BitVec.not_le.mpr hlt]

theorem State.mayWrite_iret (v : Word) (z : Size) : s.MayWriteFlags (s.flags.setImage v (s.iretMask z)) := by
  rw [setImage_iretMask]
  refine ⟨rfl, fun _ hcpl => ?_, fun _ hcpl => ?_, fun _ hcpl => ?_, fun _ hlt => ?_⟩
  · simp [hcpl]
  · simp [hcpl]
  · simp [hcpl]
  · simp [BitVec.not_le.mpr hlt]

theorem State.mayWrite_iretReal (hpe : s.pe = false) (v : Word) {m : Word} (hm : m.getLsbD 17 = false) :
    s.MayWriteFlags (s.flags.setImage v m) where
  vm := by simp only [Flags.setImage, hm, Bool.false_eq_true, if_false]
  iopl h := by simp [hpe] at h
  vif h := by simp [hpe] at h
  vip h := by simp [hpe] at h
  ifl h := by simp [hpe] at h

theorem popf_ends : Ends k s (popf b s) :=
  ends_user (.bind fun _ _ => .ok ((((Plain.refl s).dropStack _).user k).setFlags (State.mayWrite_popf ..)))

theorem State.ioplCheck_ok : s.ioplCheck = .ok () ↔ (s.pe = true → ¬s.flags.iopl < s.cpl) := by
  unfold State.ioplCheck
  rw [raiseIf_ok]
  simp

theorem cli_ends : Ends k s (cli b s) :=
  ends_user (.after (.ok ((UserEffect.refl k s).setFlags
    ⟨rfl, fun _ _ => rfl, fun _ _ => rfl, fun _ _ => rfl, nofun⟩)))

theorem sti_ends : Ends k s (sti b s) :=
  ends_user (.bind fun _ hc => .ok (((UserEffect.refl k s).setFlags (f := { s.flags with ifl := true })
    ⟨rfl, fun _ _ => rfl, fun _ _ => rfl, fun _ _ => rfl,
      fun hpe hlt => absurd hlt (State.ioplCheck_ok.mp hc hpe)⟩).shadowIf _))

theorem outPort_ends (p : Half) : Ends k s (outPort w b p s) :=
  ends_user (.after (.ok ((UserEffect.refl k s).ioWrite ..)))

/-! ## String instructions -/

/-- A string instruction ends as its element does, with its count stepped when it is repeated. -/
theorem ends_stringStep {b : Bound} {stop : State → Bool} {x : Except Stop State} (hk : b.rep ≠ .none → k.flow = true)
    (h : Gives (UserEffect k s) x) : Ends k s (stringStep stop b s x) := by
  unfold stringStep
  split
  · exact ends_user h
  · next hrep =>
    replace hk := hk (by simpa using hrep)
    split
    · exact ends_completeAs hk (.ok (.inl (((Plain.refl s).advance b).user k)))
    · refine ends_finish (.map (h.mono fun u hu => ?_))
      dsimp only
      have hc := hu.plain ((Plain.refl u).setAddrReg b 1#3 (b.asz.cut (s.count b - 1#32)))
      split
      · exact ⟨fun _ => hk, .inl (hc.setEip _)⟩
      · exact ⟨fun _ => hk, .inl hc⟩

theorem Plain.stepIndex {u : State} (h : Plain s u) (b : Bound) (r : BitVec 3) (w : Width) : Plain s (u.stepIndex b r w) :=
  h.setAddrReg ..

theorem Plain.stepSrc {u : State} (h : Plain s u) (b : Bound) (w : Width) : Plain s (u.stepSrc b w) := h.stepIndex ..

theorem Plain.stepDst {u : State} (h : Plain s u) (b : Bound) (w : Width) : Plain s (u.stepDst b w) := h.stepIndex ..

/-- The result is the repeat protocol of an element that changes registers, status flags and memory alone. -/
def PlainString (b : Bound) (s : State) (r : Result) : Prop :=
  ∃ stop x, r = stringStep stop b s x ∧ Gives (Plain s) x

theorem PlainString.ends {b : Bound} {r : Result} (hk : b.rep ≠ .none → k.flow = true) (h : PlainString b s r) :
    Ends k s r := by
  obtain ⟨stop, x, rfl, hx⟩ := h
  exact ends_stringStep hk (hx.mono fun _ hu => hu.user k)

theorem movs_plain : PlainString b s (movs w b s) :=
  ⟨_, _, rfl, .bind fun _ _ => .bind fun t ht => .ok ((((Plain.refl s).segWrite t ht).stepSrc b w).stepDst b w)⟩

theorem cmps_plain : PlainString b s (cmps w b s) :=
  ⟨_, _, rfl, .bind fun _ _ => .bind fun _ _ => .ok
    ((((Plain.refl s).setFlags (Flags.sub_status ..)).stepSrc b w).stepDst b w)⟩

theorem scas_plain : PlainString b s (scas w b s) :=
  ⟨_, _, rfl, .bind fun _ _ => .ok (((Plain.refl s).setFlags (Flags.sub_status ..)).stepDst b w)⟩

theorem lods_plain : PlainString b s (lods w b s) :=
  ⟨_, _, rfl, .bind fun _ _ => .ok (((Plain.refl s).setReg ..).stepSrc b w)⟩

theorem stos_plain : PlainString b s (stos w b s) :=
  ⟨_, _, rfl, .bind fun t ht => .ok (((Plain.refl s).writeLoc t ht).stepDst b w)⟩

theorem ins_plain : PlainString b s (ins w b s) :=
  ⟨_, _, rfl, .after (.bind fun t ht => .ok (((Plain.refl s).writeLoc t ht).stepDst b w))⟩

theorem outs_ends (hk : k.flow = true) : Ends k s (outs w b s) :=
  ends_stringStep (fun _ => hk) (.after (.bind fun v _ => .ok
    (((UserEffect.refl k s).ioWrite w s.dx v).plain ((Plain.refl _).stepSrc b w))))

/-! ## Near transfers -/

theorem branchNear_plain (z : Size) (o : Word) : Gives (Plain s) (s.branchNear z o) :=
  .bind fun _ _ => .ok ((Plain.refl s).setEip _)

theorem ends_plainAs {c : FlowClass} {r : Except Stop State} (hk : k.flow = true) (h : Gives (Plain s) r) :
    Ends k s (completeAs c s r) :=
  ends_completeAs hk (h.mono fun _ hu => .inl (hu.user k))

theorem jmpRel_ends (hk : k.flow = true) (rel : Word) : Ends k s (jmpRel b rel s) := ends_plainAs hk (branchNear_plain _ _)

theorem jmpRm_ends (hk : k.flow = true) : Ends k s (jmpRm b e s) :=
  ends_plainAs hk (.bind fun _ _ => branchNear_plain _ _)

theorem branchIf_ends (hk : k.flow = true) (c : Bool) (rel : Word) : Ends k s (branchIf c b rel s) := by
  unfold branchIf
  split
  · exact ends_plainAs hk (branchNear_plain _ _)
  · exact ends_plainAs hk (.ok ((Plain.refl s).advance b))

theorem loopIf_ends (hk : k.flow = true) (c : Bool) (rel : Word) : Ends k s (loopIf c b rel s) := by
  unfold loopIf
  dsimp only
  split
  · exact ends_plainAs hk (.map ((branchNear_plain _ _).mono fun _ hu => hu.setAddrReg ..))
  · exact ends_plainAs hk (.ok (((Plain.refl s).advance b).setAddrReg ..))

theorem callNear_plain (o : Word) : Gives (Plain s) (s.callNear b o) :=
  .bind fun _ _ => .bind fun p hp => .ok (((Plain.refl s).push p hp).setEip _)

theorem callRel_ends (hk : k.flow = true) (rel : Word) : Ends k s (callRel b rel s) := ends_plainAs hk (callNear_plain _ _)

theorem callRm_ends (hk : k.flow = true) : Ends k s (callRm b e s) :=
  ends_plainAs hk (.bind fun _ _ => callNear_plain _ _)

theorem retNear_ends (hk : k.flow = true) (release : Half) : Ends k s (retNear b release s) :=
  ends_plainAs hk (.bind fun _ _ => .bind fun t ht => .ok ((branchNear_plain _ _ t ht).dropStack _))

theorem into_ends : Ends k s (into b s) := by
  unfold into
  split
  · exact ends_softInt _ _
  · exact ends_plain (.ok (.refl s))

end

end

end Sys2Proof.Machine
end

section
/-! PROOFS. Far transfers: what they make of CS, SS and CPL. -/
namespace Sys2Proof.Machine
open Sys2Proof

section
variable {k : Licence} {s u t : State}

/-- CS loaded from a code descriptor keeps the shape. -/
theorem State.segmentsShaped_setCode {d : Desc} (hd : d.isCode = true) (sel : Half) (h : s.segmentsShaped = true) :
    ({ s with cs := .ofDesc sel d } : State).segmentsShaped = true := by
  have h3 : d.type.getLsbD 3 = true := by
    simp only [Desc.isCode, Bool.and_eq_true] at hd
    exact hd.2
  rw [State.segmentsShaped_iff] at h ⊢
  exact ⟨⟨rfl, by rw [SegCache.ofDesc_type _ _ (by decide), h3]⟩, h.2⟩

theorem UserEffect.setCs (h : UserEffect k s u) {c : SegCache}
    (hc : u.segmentsShaped = true → ({ u with cs := c } : State).segmentsShaped = true) :
    UserEffect k s { u with cs := c } :=
  ⟨by rw [h.frame], h.flags, h.canonical, fun hs => hc (h.shaped hs), h.realCpl, h.lowers, h.raises⟩

theorem UserEffect.setCpl (h : UserEffect k s u) {n : BitVec 2} (hpe : s.pe = true) (hl : n < s.cpl → k.lowers = true)
    (hr : s.cpl < n → k.raises = true) : UserEffect k s { u with cpl := n } :=
  ⟨by rw [h.frame], h.flags, h.canonical, h.shaped, fun h => by simp [hpe] at h, hl, hr⟩

theorem UserEffect.setAccessed (h : UserEffect k s u) {addr : Word} {d : Desc} :
    Gives (UserEffect k s) (u.setAccessed addr d) :=
  fun _ ht => h.plain ((Plain.refl u).setAccessed _ ht)

theorem UserEffect.loadCS (h : UserEffect k s u) {sel : Half} {addr : Word} {d : Desc} {n : BitVec 2}
    (hd : d.isCode = true) (hpe : s.pe = true) (hl : n < s.cpl → k.lowers = true) (hr : s.cpl < n → k.raises = true) :
    Gives (UserEffect k s) (u.loadCS sel addr d n) := by
  intro v hv
  obtain ⟨t, ht, rfl⟩ := State.loadCS_ok.mp hv
  exact ((h.setAccessed t ht).setCs (State.segmentsShaped_setCode hd _)).setCpl hpe hl hr

/-- CS loaded with CPL kept. -/
theorem UserEffect.loadCS_same (h : UserEffect k s u) {sel : Half} {addr : Word} {d : Desc} (hd : d.isCode = true)
    (hpe : s.pe = true) : Gives (UserEffect k s) (u.loadCS sel addr d s.cpl) :=
  h.loadCS hd hpe (fun h => absurd h (BitVec.lt_irrefl _)) (fun h => absurd h (BitVec.lt_irrefl _))

theorem UserEffect.loadStack (h : UserEffect k s u) {sel : Half} {addr : Word} {d : Desc} (hd : d.isWritableData = true) :
    Gives (UserEffect k s) (u.loadStack sel addr d) := by
  intro v hv
  obtain ⟨t, ht, rfl⟩ := State.loadStack_ok.mp hv
  exact (h.setAccessed t ht).setSegs (State.segmentsShaped_setStack hd _)

theorem UserEffect.realLoadCS (h : UserEffect k s u) (sel : Half) : UserEffect k s (u.realLoadCS sel) := by
  refine h.setCs fun hs => ?_
  rw [State.segmentsShaped_iff] at hs ⊢
  exact ⟨⟨rfl, hs.1.2⟩, hs.2⟩

theorem UserEffect.nullOuter (h : UserEffect k s u) : UserEffect k s u.nullOuter := h.setSegs id

theorem UserEffect.setSp (h : UserEffect k s u) (v : Word) : UserEffect k s (u.setSp v) :=
  h.plain ((Plain.refl u).setSp v)

theorem UserEffect.dropStack (h : UserEffect k s u) (d : Word) : UserEffect k s (u.dropStack d) := h.setSp _

theorem UserEffect.pushAll (h : UserEffect k s u) {z : Size} {vs : List Word} :
    Gives (UserEffect k s) (u.pushAll z vs) :=
  fun _ ht => h.plain ((Plain.refl u).pushAll _ ht)

/-! ## The checks that fix the descriptors loaded -/

theorem State.gateCheck_gives {sel : Half} {g : Desc} :
    Gives (fun p => p.2.isCode = true ∧ ¬s.cpl < p.2.dpl) (s.gateCheck sel g) :=
  .after <| .after <| .after <| .bind fun ⟨_, _⟩ _ => .bind fun _ hc => .bind fun _ hd => .after <| .ok
    ⟨by simpa using raiseIf_ok.mp hc, by simpa using raiseIf_ok.mp hd⟩

theorem State.returnTarget_gives {sel : Half} :
    Gives (fun p => p.2.isCode = true ∧ ¬rpl sel < s.cpl) (s.returnTarget sel) :=
  .after <| .bind fun ⟨_, _⟩ _ => .bind fun _ hc => .bind fun _ hr => .after <| .after <| .after <| .ok
    ⟨by simpa using raiseIf_ok.mp hc, by simpa using raiseIf_ok.mp hr⟩

theorem Desc.isWritableData_of_badStack {d : Desc} {sel : Half} {n : BitVec 2} (h : d.badStack sel n = false) :
    d.isWritableData = true := by
  simp only [Desc.badStack, Bool.or_eq_false_iff, Bool.not_eq_false'] at h
  exact h.2

theorem State.returnStack_gives {sel : Half} {n : BitVec 2} :
    Gives (fun p => p.2.isWritableData = true) (s.returnStack sel n) :=
  .after <| .bind fun ⟨_, _⟩ _ => .bind fun _ hb => .after <| .ok (Desc.isWritableData_of_badStack (raiseIf_ok.mp hb))

theorem State.innerStack_gives {n : BitVec 2} {x : Word} :
    Gives (fun p => p.2.2.1.isWritableData = true) (s.innerStack n x) :=
  .bind fun ⟨_, _⟩ _ => .after <| .bind fun ⟨_, _⟩ _ => .bind fun _ hb => .after <| .ok
    (Desc.isWritableData_of_badStack (raiseIf_ok.mp hb))

/-! ## Jumps and calls -/

theorem State.gateJump_user (k : Licence) (hpe : s.pe = true) {sel : Half} {g : Desc} :
    Gives (UserEffect k s) (s.gateJump sel g) :=
  .bind fun ⟨_, _⟩ hg => .after <| .after <| .bind fun u hu => .ok
    (((UserEffect.refl k s).loadCS_same (State.gateCheck_gives _ hg).1 hpe u hu).setEip _)

theorem State.farJump_user (k : Licence) (b : Bound) (sel : Half) (off : Word) :
    Gives (UserEffect k s) (s.farJump b sel off) := by
  refine .ite (fun _ => .after (.ok (((UserEffect.refl k s).realLoadCS _).setEip _))) fun hpe => .after <|
    .bind fun ⟨_, d⟩ _ => .ite (fun hd => ?_) fun _ => .ite (fun _ => ?_) fun _ => .after (.error _)
  · exact .after <| .after <| .bind fun t ht => .ok
      (((UserEffect.refl k s).loadCS_same hd (by simpa using hpe) t ht).setEip _)
  · exact State.gateJump_user k (by simpa using hpe)

theorem State.gateCallInner_user (hk : k.lowers = true) (hpe : s.pe = true) {g t : Desc} {addr ret : Word}
    (ht : t.isCode = true) (hlt : t.dpl < s.cpl) : Gives (UserEffect k s) (s.gateCallInner g addr t ret) := by
  have hl : t.dpl < s.cpl → k.lowers = true := fun _ => hk
  have hr : s.cpl < t.dpl → k.raises = true := fun h => absurd hlt (BitVec.lt_asymm h)
  exact .bind fun ⟨_, _, _, _⟩ hstack => .after <| .bind fun _ _ => .after <| .bind fun s1 h1 => .bind fun s3 h3 =>
    .bind fun s4 h4 => .ok ((UserEffect.loadCS (UserEffect.pushAll (UserEffect.setSp (UserEffect.setCpl
      ((UserEffect.refl k s).loadStack (State.innerStack_gives _ hstack) s1 h1) hpe hl hr) _) s3 h3) ht hpe hl hr
        s4 h4).setEip _)

theorem State.gateCall_user (hk : k.lowers = true) (hpe : s.pe = true) {sel : Half} {g : Desc} {ret : Word} :
    Gives (UserEffect k s) (s.gateCall sel g ret) := by
  refine .bind fun ⟨addr, t⟩ hg => .ite (fun _ => ?_) fun hlevel => ?_
  · exact .after <| .after <| .bind fun s1 h1 => .bind fun s2 h2 => .ok
      ((((UserEffect.refl k s).pushAll s1 h1).loadCS_same (State.gateCheck_gives _ hg).1 hpe s2 h2).setEip _)
  · obtain ⟨hcode, hle⟩ := State.gateCheck_gives _ hg
    simp only [Bool.or_eq_true, beq_iff_eq, not_or] at hlevel
    exact State.gateCallInner_user hk hpe hcode (BitVec.lt_of_le_ne (BitVec.not_lt.mp hle) hlevel.2)

theorem State.farCall_user (hk : k.lowers = true) (b : Bound) (sel : Half) (off : Word) :
    Gives (UserEffect k s) (s.farCall b sel off) := by
  refine .ite (fun _ => .after <| .after <| .bind fun t ht => .ok
      ((((UserEffect.refl k s).pushAll t ht).realLoadCS _).setEip _)) fun hpe => .after <|
    .bind fun ⟨_, d⟩ _ => .ite (fun hd => ?_) fun _ => .ite (fun _ => ?_) fun _ => .after (.error _)
  · exact .after <| .after <| .after <| .bind fun s1 h1 => .bind fun s2 h2 => .ok
      ((((UserEffect.refl k s).pushAll s1 h1).loadCS_same hd (by simpa using hpe) s2 h2).setEip _)
  · exact State.gateCall_user hk (by simpa using hpe)

/-! ## Returns -/

theorem State.farReturn_user (hk : k.raises = true) (z : Size) (imm : Half) :
    Gives (UserEffect k s) (s.farReturn z imm) := by
  refine .bind fun _ _ => .bind fun _ _ => .ite (fun _ => .after (.ok
      ((((UserEffect.refl k s).realLoadCS _).setEip _).dropStack _))) fun hpe => .bind fun ⟨_, d⟩ hd => ?_
  replace hpe : s.pe = true := by simpa using hpe
  obtain ⟨hcode, hle⟩ := State.returnTarget_gives _ hd
  refine .ite (fun _ => ?_) fun _ => ?_
  · exact .after <| .bind fun t ht => .ok ((((UserEffect.refl k s).loadCS_same hcode hpe t ht).setEip _).dropStack _)
  · exact .bind fun _ _ => .bind fun _ _ => .bind fun ⟨_, _⟩ hsd => .after <| .bind fun t ht => .bind fun u hu => .ok
      ((((((UserEffect.refl k s).loadCS hcode hpe (fun h => absurd h hle) (fun _ => hk) t ht).loadStack
        (State.returnStack_gives _ hsd) u hu).setEip _).setSp _).nullOuter)

theorem State.iretReal_user (k : Licence) (hpe : s.pe = false) (z : Size) : Gives (UserEffect k s) (s.iretReal z) := by
  refine .bind fun _ _ => .bind fun _ _ => .bind fun _ _ => .after <| .ok
    (((((UserEffect.refl k s).realLoadCS _).setEip _).setFlags (State.mayWrite_iretReal hpe _ ?_)).unblockNmi.setSp _)
  split <;> decide

theorem State.iretProt_user (hk : k.raises = true) (hpe : s.pe = true) (z : Size) :
    Gives (UserEffect k s) (s.iretProt z) := by
  refine .after <| .bind fun _ _ => .bind fun _ _ => .bind fun fl _ => .after <| .bind fun ⟨_, d⟩ hd => ?_
  obtain ⟨hcode, hle⟩ := State.returnTarget_gives _ hd
  have hf := State.mayWrite_iret (s := s) fl z
  refine .ite (fun _ => ?_) fun _ => ?_
  · exact .after <| .bind fun t ht => .ok
      (((((UserEffect.refl k s).loadCS_same hcode hpe t ht).setEip _).setFlags hf).unblockNmi.setSp _)
  · exact .bind fun _ _ => .bind fun _ _ => .bind fun ⟨_, _⟩ hsd => .after <| .bind fun t ht => .bind fun u hu => .ok
      ((((((UserEffect.refl k s).loadCS hcode hpe (fun h => absurd h hle) (fun _ => hk) t ht).loadStack
        (State.returnStack_gives _ hsd) u hu).setEip _).setFlags hf).unblockNmi.setSp _).nullOuter

section
variable (b : Bound) (m : Addr) (off : Word) (sel : Half)

theorem ends_userAs {c : FlowClass} {r : Except Stop State} (hk : k.flow = true) (h : Gives (UserEffect k s) r) :
    Ends k s (completeAs c s r) :=
  ends_completeAs hk (h.mono fun _ hu => .inl hu)

theorem jmpFar_ends (hk : k.flow = true) : Ends k s (jmpFar b off sel s) := ends_userAs hk (State.farJump_user _ _ _ _)

theorem jmpFarMem_ends (hk : k.flow = true) : Ends k s (jmpFarMem b m s) :=
  ends_userAs hk (.bind fun ⟨_, _⟩ _ => State.farJump_user _ _ _ _)

theorem callFar_ends (hk : k.flow = true) (hl : k.lowers = true) : Ends k s (callFar b off sel s) :=
  ends_userAs hk (State.farCall_user hl _ _ _)

theorem callFarMem_ends (hk : k.flow = true) (hl : k.lowers = true) : Ends k s (callFarMem b m s) :=
  ends_userAs hk (.bind fun ⟨_, _⟩ _ => State.farCall_user hl _ _ _)

theorem retFar_ends (hk : k.flow = true) (hr : k.raises = true) (release : Half) : Ends k s (retFar b release s) :=
  ends_userAs hk (State.farReturn_user hr _ _)

theorem iret_ends (hk : k.flow = true) (hr : k.raises = true) : Ends k s (iret b s) :=
  ends_userAs hk (.ite (fun h => State.iretReal_user k (by simpa using h) _)
    fun h => State.iretProt_user hr (by simpa using h) _)

end

end

end Sys2Proof.Machine
end

section
/-! PROOFS. The privileged instructions, and every instruction's licence. -/
namespace Sys2Proof.Machine
open Sys2Proof

section
variable {k : Licence} {s u : State}

theorem State.privileged_iff : s.privileged = .ok () ↔ s.pe = false ∨ s.cpl = 0#2 := by
  unfold State.privileged
  rw [raiseIf_ok, Bool.and_eq_false_iff]
  simp

theorem State.canonical_serialise (h : s.canonical = true) : s.serialise.canonical = true :=
  (Plain.refl s).serialise.canonical h

/-- A privileged execute whose writes keep the invariants. -/
theorem Gives.privileged {f : Unit → Except Stop State} (h : s.pe = false ∨ s.cpl = 0#2 → Gives (SystemEffect s) (f ())) :
    Gives (SystemEffect s) (s.privileged >>= f) :=
  .bind fun _ hp => h (State.privileged_iff.mp hp)

theorem SystemEffect.refl (hp : s.pe = false ∨ s.cpl = 0#2) : SystemEffect s s := ⟨hp, rfl, id, id, id, id⟩

theorem SystemEffect.serialise (h : SystemEffect s u) : SystemEffect s u.serialise :=
  ⟨h.privileged, by
    unfold State.serialise
    rw [h.frame], fun hs => State.canonical_serialise (h.canonical hs), h.legal, h.debug, h.settled⟩

/-- Status flags written after the registers of the system. -/
theorem SystemEffect.flagsUndefined (h : SystemEffect s u) : SystemEffect s u.flagsUndefined :=
  ⟨h.privileged, by
    show { u with flags := _ } = _
    rw [h.frame]
    rfl, h.canonical, h.legal, h.debug, h.settled⟩

/-! ## CR0 and CR4 -/

theorem State.legalMode_iff {s : State} : s.legalMode = true ↔ (s.pe = true ∨ s.cpl = 0#2) ∧ s.flags.vm = false ∧
    (s.pg = true → s.pe = true) ∧ (s.cr0.getLsbD 29 = true → s.cr0.getLsbD 30 = true) ∧
    s.cr0 &&& 0x1FFAFFD0#32 = 0x10#32 ∧ s.cr4 &&& 0xFFFFFE03#32 = 0#32 := by
  simp only [State.legalMode, Bool.and_eq_true, Bool.or_eq_true, Bool.not_eq_true', beq_iff_eq, ← Bool.not_eq_true,
    ← imp_iff_not_or, and_assoc]

/-- CPL is 0 wherever a privileged instruction runs in a legal mode. -/
theorem State.cpl_zero_of_legal (hp : s.pe = false ∨ s.cpl = 0#2) (h : s.legalMode = true) : s.cpl = 0#2 := by
  rcases hp with hp | hp
  · simpa [hp] using (State.legalMode_iff.mp h).1
  · exact hp

/-- A write of CR0 that keeps the rules of R140 and R145. -/
theorem SystemEffect.setCr0 (h : s.pe = false ∨ s.cpl = 0#2) {v : Word}
    (hv : s.legalMode = true → (v.getLsbD 31 = true → v.getLsbD 0 = true) ∧
      (v.getLsbD 29 = true → v.getLsbD 30 = true) ∧ v &&& 0x1FFAFFD0#32 = 0x10#32) :
    SystemEffect s { s with cr0 := v } where
  privileged := h
  frame := rfl
  canonical := id
  legal hs := by
    have hcpl := State.cpl_zero_of_legal h hs
    obtain ⟨-, hvm, -, -, -, h4⟩ := State.legalMode_iff.mp hs
    exact State.legalMode_iff.mpr ⟨.inr hcpl, hvm, (hv hs).1, (hv hs).2.1, (hv hs).2.2, h4⟩
  debug := id
  settled := id

theorem SystemEffect.setCr4 (h : s.pe = false ∨ s.cpl = 0#2) {v : Word} (hv : v &&& 0xFFFFFE03#32 = 0#32) :
    SystemEffect s { s with cr4 := v } where
  privileged := h
  frame := rfl
  canonical := id
  legal hs := by
    obtain ⟨hcpl, hvm, hpg, hnw, h0, -⟩ := State.legalMode_iff.mp hs
    exact State.legalMode_iff.mpr ⟨hcpl, hvm, hpg, hnw, h0, hv⟩
  debug := id
  settled := id

theorem SystemEffect.signal (h : SystemEffect s u) (x : PagingSignal) : SystemEffect s (u.signal x) :=
  ⟨h.privileged, by
    unfold State.signal
    rw [h.frame], h.canonical, h.legal, h.debug, h.settled⟩

theorem SystemEffect.signalIf (h : SystemEffect s u) (c : Bool) : SystemEffect s (u.signalIf c) := by
  unfold State.signalIf
  split
  · exact h.signal _
  · exact h

/-- What a mask keeps of a value adds nothing to the mask. -/
theorem absorb_mask (v m : Word) : m ||| v &&& m = m := by
  ext i hi
  simp

/-- A mask read in two parts. -/
theorem and_or_mask (v a b : Word) : v &&& (a ||| b) = v &&& a ||| v &&& b := BitVec.and_or_distrib_left

/-- A value written over some bits, read through a mask. -/
theorem or_and_mask (v w m : Word) : (v ||| w) &&& m = v &&& m ||| w &&& m := BitVec.and_or_distrib_right

theorem cr0_written {v : Word} (h : v &&& 0x1FFAFFC0#32 = 0#32) : (v ||| 0x10#32) &&& 0x1FFAFFD0#32 = 0x10#32 := by
  have h2 : v &&& 0x1FFAFFD0#32 = v &&& 0x10#32 := by
    rw [show (0x1FFAFFD0#32) = 0x1FFAFFC0#32 ||| 0x10#32 from rfl, and_or_mask, h, BitVec.zero_or]
  rw [or_and_mask, h2, show (0x10#32 &&& 0x1FFAFFD0#32) = 0x10#32 from rfl, BitVec.or_comm]
  exact absorb_mask v _

theorem cr4_written {v : Word} (hhigh : v &&& 0xFFFFFE00#32 = 0#32) (hlow : v &&& 0x3#32 = 0#32) :
    v &&& 0xFFFFFE03#32 = 0#32 := by
  rw [show (0xFFFFFE03#32) = 0xFFFFFE00#32 ||| 0x3#32 from rfl, and_or_mask, hhigh, hlow, BitVec.zero_or]

/-- LMSW writes no bit but the low four (R1128). -/
theorem lmsw_masked (c v : Word) : (c &&& 0xFFFFFFF1#32 ||| v &&& 0xF#32) &&& 0x1FFAFFD0#32 = c &&& 0x1FFAFFD0#32 := by
  rw [or_and_mask, BitVec.and_assoc, BitVec.and_assoc, show (0xF#32 &&& 0x1FFAFFD0#32) = 0#32 from rfl, BitVec.and_zero,
    BitVec.or_zero]
  rfl

theorem clts_masked (c : Word) : c &&& 0xFFFFFFF7#32 &&& 0x1FFAFFD0#32 = c &&& 0x1FFAFFD0#32 := by
  rw [BitVec.and_assoc]
  rfl

theorem State.writeControl_system (hp : s.pe = false ∨ s.cpl = 0#2) (c : ControlReg) (v : Word) :
    Gives (SystemEffect s) (s.writeControl c v) := by
  cases c with
  | cr0 =>
    refine .bind fun _ hpg => .bind fun _ hnw => .bind fun _ hres => .ok ?_
    refine ((SystemEffect.setCr0 hp fun _ => ⟨?_, ?_, ?_⟩).signal _).signalIf _
    · simpa using raiseIf_ok.mp hpg
    · simpa using raiseIf_ok.mp hnw
    · exact cr0_written (by simpa using refuseIf_ok.mp hres)
  | cr2 => exact .ok ⟨hp, rfl, id, id, id, id⟩
  | cr3 => exact .ok (SystemEffect.signal (u := { s with cr3 := v }) ⟨hp, rfl, id, id, id, id⟩ _)
  | cr4 =>
    exact .bind fun _ hhigh => .bind fun _ hlow => .ok ((SystemEffect.setCr4 hp
      (cr4_written (by simpa using raiseIf_ok.mp hhigh) (by simpa using refuseIf_ok.mp hlow))).signalIf _)

/-! ## Debug registers -/

theorem State.debugFixed_iff {s : State} :
    s.debugFixed = true ↔ s.dr6 &&& 0xFFFF1FF0#32 = 0xFFFF0FF0#32 ∧ s.dr7 &&& 0x0000FCFF#32 = 0x400#32 := by
  simp [State.debugFixed]

theorem dr6_written (v : Word) : (v &&& 0xE00F#32 ||| 0xFFFF0FF0#32) &&& 0xFFFF1FF0#32 = 0xFFFF0FF0#32 := by
  rw [or_and_mask, BitVec.and_assoc, show (0xE00F#32 &&& 0xFFFF1FF0#32) = 0#32 from rfl, BitVec.and_zero,
    BitVec.zero_or]
  rfl

theorem dr7_written {v : Word} (h : v &&& 0x20FF#32 = 0#32) :
    (v &&& 0xFFFF03FF#32 ||| 0x400#32) &&& 0x0000FCFF#32 = 0x400#32 := by
  have h0 : v &&& 0xFF#32 = 0#32 := by
    rw [show (0xFF#32) = 0x20FF#32 &&& 0xFF#32 from rfl, ← BitVec.and_assoc, h, BitVec.zero_and]
  rw [or_and_mask, BitVec.and_assoc, show (0xFFFF03FF#32 &&& 0x0000FCFF#32) = 0xFF#32 from rfl, h0, BitVec.zero_or]
  rfl

theorem State.writeDr6_system (hp : s.pe = false ∨ s.cpl = 0#2) (v : Word) : SystemEffect s (s.writeDr6 v) :=
  ⟨hp, rfl, id, id, fun h => State.debugFixed_iff.mpr ⟨dr6_written v, (State.debugFixed_iff.mp h).2⟩, id⟩

theorem State.writeDr7_system (hp : s.pe = false ∨ s.cpl = 0#2) (v : Word) : Gives (SystemEffect s) (s.writeDr7 v) :=
  .bind fun _ hv => .ok ⟨hp, rfl, id, id, fun h => State.debugFixed_iff.mpr ⟨(State.debugFixed_iff.mp h).1,
    dr7_written (by simpa using refuseIf_ok.mp hv)⟩, id⟩

theorem State.writeDebug_system (hp : s.pe = false ∨ s.cpl = 0#2) (n : BitVec 3) (v : Word) :
    Gives (SystemEffect s) (s.writeDebug n v) := by
  unfold State.writeDebug
  split
  · exact .ok ⟨hp, rfl, id, id, id, id⟩
  · exact .ok ⟨hp, rfl, id, id, id, id⟩
  · exact .ok ⟨hp, rfl, id, id, id, id⟩
  · exact .ok ⟨hp, rfl, id, id, id, id⟩
  · exact .ok (State.writeDr6_system hp v)
  · exact State.writeDr7_system hp v
  · exact .ok (State.writeDr6_system hp v)
  · exact State.writeDr7_system hp v

section
variable (b : Bound) (e : Rm) (m : Addr) (r : BitVec 3)

theorem movToControl_ends (c : ControlReg) : Ends k s (movToControl b c r s) :=
  ends_system (.privileged fun hp => .bind fun t ht => .ok (State.writeControl_system hp _ _ t ht).flagsUndefined.serialise)

theorem movToDebug_ends (d : BitVec 3) : Ends k s (movToDebug b d r s) :=
  ends_system (.after (.privileged fun hp => .bind fun t ht => .ok
    (State.writeDebug_system hp _ _ t ht).flagsUndefined.serialise))

theorem lmsw_ends : Ends k s (lmsw b e s) := by
  refine ends_system (.privileged fun hp => .bind fun v _ => .ok (SystemEffect.serialise (u := { s with cr0 := _ })
    (SystemEffect.setCr0 hp fun hs => ?_)))
  obtain ⟨-, -, hpg, hnw, h0, -⟩ := State.legalMode_iff.mp hs
  rw [lmsw_masked, getLsbD_lmsw _ _ 31 (by decide), getLsbD_lmsw _ _ 0 (by decide), getLsbD_lmsw _ _ 29 (by decide),
    getLsbD_lmsw _ _ 30 (by decide)]
  exact ⟨fun h => by simp [show s.cr0.getLsbD 0 = true from hpg h], hnw, h0⟩

theorem clts_ends : Ends k s (clts b s) := by
  refine ends_system (.privileged fun hp => .ok (SystemEffect.serialise (u := { s with cr0 := _ })
    (SystemEffect.setCr0 hp fun hs => ?_)))
  obtain ⟨-, -, hpg, hnw, h0, -⟩ := State.legalMode_iff.mp hs
  rw [clts_masked, getLsbD_clts _ 31 (by decide), getLsbD_clts _ 0 (by decide), getLsbD_clts _ 29 (by decide),
    getLsbD_clts _ 30 (by decide)]
  simpa using ⟨hpg, hnw, h0⟩

theorem hlt_ends (hk : k.flow = true) : Ends k s (hlt b s) :=
  ends_completeAs hk ((Gives.privileged fun hp => .ok ⟨hp, rfl, id, id, id, id⟩).mono fun _ hu => .inr hu)

theorem invlpg_ends : Ends k s (invlpg b m s) :=
  ends_system (.privileged fun hp => .ok (((SystemEffect.refl hp).signal _).serialise))

/-! ## Descriptor tables -/

theorem State.readTable_gives : Gives (fun _ => s.pe = false ∨ s.cpl = 0#2) (s.readTable b m) :=
  .bind fun _ hp => .bind fun _ _ => .bind fun _ _ => .ok (State.privileged_iff.mp hp)

theorem lgdt_ends : Ends k s (lgdt b m s) :=
  ends_system (.bind fun t ht => .ok ⟨State.readTable_gives b m t ht, rfl, State.canonical_serialise, id, id, id⟩)

theorem lidt_ends : Ends k s (lidt b m s) :=
  ends_system (.bind fun t ht => .ok ⟨State.readTable_gives b m t ht, rfl, State.canonical_serialise, id, id, id⟩)

theorem lldt_ends : Ends k s (lldt b e s) :=
  ends_system (.after (.privileged fun hp => .bind fun _ _ => .ite
    (fun _ => .ok ⟨hp, rfl, State.canonical_serialise, id, id, id⟩)
    fun _ => .after (.bind fun ⟨_, _⟩ _ => .after (.after (.ok ⟨hp, rfl, State.canonical_serialise, id, id, id⟩)))))

/-- TR loaded from an available TSS is busy. -/
theorem busy_of_available {t : BitVec 4} (h : t = 0x1#4 ∨ t = 0x9#4) : t ||| 2#4 = 0x3#4 ∨ t ||| 2#4 = 0xB#4 := by
  rcases h with rfl | rfl <;> decide

theorem ltr_ends : Ends k s (ltr b e s) := by
  refine ends_system (.after (.privileged fun hp => .bind fun _ _ => .after (.after (.bind fun ⟨_, d⟩ _ =>
    .bind fun _ htype => .after (.bind fun t ht => .ok ?_)))))
  have hframe : OnlyMemory s t := State.memWrite_only ht
  have hbusy := busy_of_available (t := d.type)
    (by simpa [or_iff_not_imp_left] using (Bool.or_eq_false_iff.mp (raiseIf_ok.mp htype)).2)
  refine ⟨hp, by rw [hframe]; rfl, fun hs => State.canonical_serialise (s := t) (State.memWrite_canonical ht hs), ?_, ?_, ?_⟩
  · rw [hframe]
    exact id
  · rw [hframe]
    exact id
  · rw [hframe]
    simp only [State.settled, Bool.and_eq_true, Bool.or_eq_true, beq_iff_eq]
    exact fun h => ⟨h.1, hbusy⟩

end

end

end Sys2Proof.Machine
end

section
/-! PROOFS. Every instruction ends within its licence. -/
namespace Sys2Proof

/-- A far CALL, which may enter a more privileged level (R1362). -/
def Instr.lowersCpl : Instr → Bool
  | .callAp .. => true
  | .callMp .. => true
  | _ => false

/-- A far return or IRET, which may go to an outer level (R1362). -/
def Instr.raisesCpl : Instr → Bool
  | .retf .. => true
  | .retfIw .. => true
  | .iret .. => true
  | _ => false

/-- What an instruction may do to control flow and CPL. -/
def Instr.licence (i : Instr) : Machine.Licence := ⟨i.canAlterFlow, i.lowersCpl, i.raisesCpl⟩

end Sys2Proof

namespace Sys2Proof.Machine
open Sys2Proof

/-- Every instruction that has a next state delivered an event or made an effect within its licence; one line for each
meaning. -/
theorem exec_ends (i : Instr) (s : State) : Ends i.licence s (exec i s) :=
  match i with
  | .addEbGb .. | .addEvGv .. | .orEbGb .. | .orEvGv .. | .adcEbGb .. | .adcEvGv .. | .sbbEbGb .. | .sbbEvGv ..
  | .andEbGb .. | .andEvGv .. | .subEbGb .. | .subEvGv .. | .xorEbGb .. | .xorEvGv .. | .cmpEbGb ..
  | .cmpEvGv .. | .testEbGb .. | .testEvGv .. => (aluRmReg_plain ..).ends
  | .addGbEb .. | .addGvEv .. | .orGbEb .. | .orGvEv .. | .adcGbEb .. | .adcGvEv .. | .sbbGbEb .. | .sbbGvEv ..
  | .andGbEb .. | .andGvEv .. | .subGbEb .. | .subGvEv .. | .xorGbEb .. | .xorGvEv .. | .cmpGbEb ..
  | .cmpGvEv .. => (aluRegRm_plain ..).ends
  | .addAlIb .. | .addEaxIz .. => (aluAcc_plain _ _ _ .add _).ends
  | .orAlIb .. | .orEaxIz .. => (aluAcc_plain _ _ _ .or _).ends
  | .adcAlIb .. | .adcEaxIz .. => (aluAcc_plain _ _ _ .adc _).ends
  | .sbbAlIb .. | .sbbEaxIz .. => (aluAcc_plain _ _ _ .sbb _).ends
  | .andAlIb .. | .andEaxIz .. => (aluAcc_plain _ _ _ .and _).ends
  | .subAlIb .. | .subEaxIz .. => (aluAcc_plain _ _ _ .sub _).ends
  | .xorAlIb .. | .xorEaxIz .. => (aluAcc_plain _ _ _ .xor _).ends
  | .cmpAlIb .. | .cmpEaxIz .. => (aluAcc_plain _ _ _ .cmp _).ends
  | .testAlIb .. | .testEaxIz .. => (aluAcc_plain _ _ _ .test _).ends
  | .pushEs .. | .pushCs .. | .pushSs .. | .pushDs .. | .pushFs .. | .pushGs .. => (pushSeg_plain ..).ends
  | .popEs .. => popSeg_ends (r := .es) _ (by decide)
  | .popSs .. => popSeg_ends (r := .ss) _ (by decide)
  | .popDs .. => popSeg_ends (r := .ds) _ (by decide)
  | .popFs .. => popSeg_ends (r := .fs) _ (by decide)
  | .popGs .. => popSeg_ends (r := .gs) _ (by decide)
  | .daa .. => (daa_plain ..).ends
  | .das .. => (das_plain ..).ends
  | .aaa .. => (aaa_plain ..).ends
  | .aas .. => (aas_plain ..).ends
  | .incZv .. => (incReg_plain ..).ends
  | .decZv .. => (decReg_plain ..).ends
  | .pushZv .. => (pushReg_plain ..).ends
  | .popZv .. => (popReg_plain ..).ends
  | .pusha .. => (pusha_plain ..).ends
  | .popa .. => (popa_plain ..).ends
  | .boundGvMa .. => (bound_plain ..).ends
  | .arplEwGw .. => (arpl_plain ..).ends
  | .pushIz .. | .pushIbs .. => (pushImm_plain ..).ends
  | .imulGvEvIz .. | .imulGvEvIbs .. => (imulRegRmImm_plain ..).ends
  | .insb .. | .insv .. => (ins_plain ..).ends fun _ => rfl
  | .outsb .. | .outsv .. => outs_ends _ _ rfl
  | .jccJb .. | .jcxzJb .. | .jccJz .. => branchIf_ends _ rfl _ _
  | .addEbIb .. | .orEbIb .. | .adcEbIb .. | .sbbEbIb .. | .andEbIb .. | .subEbIb .. | .xorEbIb ..
  | .cmpEbIb .. | .addEvIz .. | .orEvIz .. | .adcEvIz .. | .sbbEvIz .. | .andEvIz .. | .subEvIz ..
  | .xorEvIz .. | .cmpEvIz .. | .addEbIb82 .. | .orEbIb82 .. | .adcEbIb82 .. | .sbbEbIb82 .. | .andEbIb82 ..
  | .subEbIb82 .. | .xorEbIb82 .. | .cmpEbIb82 .. | .addEvIbs .. | .orEvIbs .. | .adcEvIbs .. | .sbbEvIbs ..
  | .andEvIbs .. | .subEvIbs .. | .xorEvIbs .. | .cmpEvIbs .. | .testEbIb .. | .testEvIz .. =>
    (aluRmImm_plain ..).ends
  | .xchgEbGb .. | .xchgEvGv .. => (xchgRmReg_plain ..).ends
  | .movEbGb .. | .movEvGv .. => (movRmReg_plain ..).ends
  | .movGbEb .. | .movGvEv .. => (movRegRm_plain ..).ends
  | .movEwSw .. => (movRmSeg_plain ..).ends
  | .leaGvM .. => (lea_plain ..).ends
  | .movSwEw .. => movSegRm_ends _ _ _
  | .popEv .. => (popRm_plain ..).ends
  | .nop .. => (nop_plain ..).ends
  | .xchgEaxR1 .. | .xchgEaxR2 .. | .xchgEaxR3 .. | .xchgEaxR4 .. | .xchgEaxR5 .. | .xchgEaxR6 ..
  | .xchgEaxR7 .. => (xchgAcc_plain ..).ends
  | .cbw .. => (cbw_plain ..).ends
  | .cwd .. => (cwd_plain ..).ends
  | .callAp .. => callFar_ends _ _ _ rfl rfl
  | .wait .. => (wait_plain ..).ends
  | .pushf .. => (pushf_plain ..).ends
  | .popf .. => popf_ends _
  | .sahf .. => (sahf_plain ..).ends
  | .lahf .. => (lahf_plain ..).ends
  | .movAlOb .. | .movEaxOv .. => (movAccMoffs_plain ..).ends
  | .movObAl .. | .movOvEax .. => (movMoffsAcc_plain ..).ends
  | .movsb .. | .movsv .. => (movs_plain ..).ends fun h => bne_iff_ne.mpr h
  | .cmpsb .. | .cmpsv .. => (cmps_plain ..).ends fun h => bne_iff_ne.mpr h
  | .stosb .. | .stosv .. => (stos_plain ..).ends fun h => bne_iff_ne.mpr h
  | .lodsb .. | .lodsv .. => (lods_plain ..).ends fun h => bne_iff_ne.mpr h
  | .scasb .. | .scasv .. => (scas_plain ..).ends fun h => bne_iff_ne.mpr h
  | .movZbIb .. | .movZvIz .. => (movRegImm_plain ..).ends
  | .rolEbIb .. | .rorEbIb .. | .rclEbIb .. | .rcrEbIb .. | .shlEbIb .. | .shrEbIb .. | .sarEbIb ..
  | .rolEvIb .. | .rorEvIb .. | .rclEvIb .. | .rcrEvIb .. | .shlEvIb .. | .shrEvIb .. | .sarEvIb ..
  | .rolEb1 .. | .rorEb1 .. | .rclEb1 .. | .rcrEb1 .. | .shlEb1 .. | .shrEb1 .. | .sarEb1 .. | .rolEv1 ..
  | .rorEv1 .. | .rclEv1 .. | .rcrEv1 .. | .shlEv1 .. | .shrEv1 .. | .sarEv1 .. | .rolEbCl .. | .rorEbCl ..
  | .rclEbCl .. | .rcrEbCl .. | .shlEbCl .. | .shrEbCl .. | .sarEbCl .. | .rolEvCl .. | .rorEvCl ..
  | .rclEvCl .. | .rcrEvCl .. | .shlEvCl .. | .shrEvCl .. | .sarEvCl .. => (shiftRm_plain ..).ends
  | .retIw .. | .ret .. => retNear_ends _ rfl _
  | .lesGvMp .. => loadFarPointer_ends (r := .es) _ _ _ (by decide)
  | .ldsGvMp .. => loadFarPointer_ends (r := .ds) _ _ _ (by decide)
  | .lssGvMp .. => loadFarPointer_ends (r := .ss) _ _ _ (by decide)
  | .lfsGvMp .. => loadFarPointer_ends (r := .fs) _ _ _ (by decide)
  | .lgsGvMp .. => loadFarPointer_ends (r := .gs) _ _ _ (by decide)
  | .movEbIb .. | .movEvIz .. => (movRmImm_plain ..).ends
  | .enterIwIb .. => (enter_plain ..).ends
  | .leave .. => (leave_plain ..).ends
  | .retfIw .. | .retf .. => retFar_ends _ rfl rfl _
  | .int3 .. | .intIb .. => ends_softInt _ _
  | .into .. => into_ends _
  | .iret .. => iret_ends _ rfl rfl
  | .aamIb .. => (aam_plain ..).ends
  | .aadIb .. => (aad_plain ..).ends
  | .xlat .. => (xlat_plain ..).ends
  | .esc .. => (escape_plain ..).ends
  | .loopneJb .. | .loopeJb .. | .loopJb .. => loopIf_ends _ rfl _ _
  | .inAlIb .. | .inEaxIb .. | .inAlDx .. | .inEaxDx .. => (inPort_plain ..).ends
  | .outIbAl .. | .outIbEax .. | .outDxAl .. | .outDxEax .. => outPort_ends _ _ _
  | .callJz .. => callRel_ends _ rfl _
  | .jmpJz .. | .jmpJb .. => jmpRel_ends _ rfl _
  | .jmpAp .. => jmpFar_ends _ _ _ rfl
  | .hlt .. => hlt_ends _ rfl
  | .cmc .. => (setFlagsTo_plain (f := fun f => { f with cf := !f.cf }) _ _ fun _ => rfl).ends
  | .clc .. => (setFlagsTo_plain (f := fun f => { f with cf := false }) _ _ fun _ => rfl).ends
  | .stc .. => (setFlagsTo_plain (f := fun f => { f with cf := true }) _ _ fun _ => rfl).ends
  | .cld .. => (setFlagsTo_plain (f := fun f => { f with df := false }) _ _ fun _ => rfl).ends
  | .std .. => (setFlagsTo_plain (f := fun f => { f with df := true }) _ _ fun _ => rfl).ends
  | .notEb .. | .notEv .. => (notRm_plain ..).ends
  | .negEb .. | .negEv .. => (negRm_plain ..).ends
  | .mulEb .. | .mulEv .. => (mulRm_plain ..).ends
  | .imulEb .. | .imulEv .. => (imulRm_plain ..).ends
  | .divEb .. | .divEv .. => (divRm_plain ..).ends
  | .idivEb .. | .idivEv .. => (idivRm_plain ..).ends
  | .cli .. => cli_ends _
  | .sti .. => sti_ends _
  | .incEb .. | .incEv .. => (incRm_plain ..).ends
  | .decEb .. | .decEv .. => (decRm_plain ..).ends
  | .callEv .. => callRm_ends _ _ rfl
  | .callMp .. => callFarMem_ends _ _ rfl rfl
  | .jmpEv .. => jmpRm_ends _ _ rfl
  | .jmpMp .. => jmpFarMem_ends _ _ rfl
  | .pushEv .. => (pushRm_plain ..).ends
  | .sldtEw .. | .strEw .. => (storeSys_plain ..).ends
  | .lldtEw .. => lldt_ends _ _
  | .ltrEw .. => ltr_ends _ _
  | .verrEw .. | .verwEw .. => (verify_plain ..).ends
  | .sgdtMs .. | .sidtMs .. => (storeTable_plain ..).ends
  | .lgdtMs .. => lgdt_ends _ _
  | .lidtMs .. => lidt_ends _ _
  | .smswEw .. => (smsw_plain ..).ends
  | .lmswEw .. => lmsw_ends _ _
  | .invlpgM .. => invlpg_ends _ _
  | .larGvEw .. | .lslGvEw .. => (inspectInto_plain ..).ends
  | .clts .. => clts_ends _
  | .invd .. => (invd_plain ..).ends
  | .wbinvd .. => (wbinvd_plain ..).ends
  | .ud2 b | .rsm b => (undefinedOpcode_plain b s).ends
  | .movRdCd .. => (movFromControl_plain ..).ends
  | .movRdDd .. => (movFromDebug_plain ..).ends
  | .movCdRd .. => movToControl_ends _ _ _
  | .movDdRd .. => movToDebug_ends _ _ _
  | .wrmsr .. => (wrmsr_plain ..).ends
  | .rdtsc .. => (rdtsc_plain ..).ends
  | .rdmsr .. => (rdmsr_plain ..).ends
  | .cmovccGvEv .. => (cmovcc_plain ..).ends
  | .setccEb .. => (setcc_plain ..).ends
  | .cpuid .. => (cpuid_plain ..).ends
  | .btEvGv .. | .btsEvGv .. | .btrEvGv .. | .btcEvGv .. => (bitRmReg_plain ..).ends
  | .shldEvGvIb .. | .shldEvGvCl .. => (shld_plain ..).ends
  | .shrdEvGvIb .. | .shrdEvGvCl .. => (shrd_plain ..).ends
  | .imulGvEv .. => (imulRegRm_plain ..).ends
  | .cmpxchgEbGb .. | .cmpxchgEvGv .. => (cmpxchg_plain ..).ends
  | .movzxGvEb .. | .movzxGvEw .. => (movzx_plain ..).ends
  | .btEvIb .. | .btsEvIb .. | .btrEvIb .. | .btcEvIb .. => (bitRmImm_plain ..).ends
  | .bsfGvEv .. | .bsrGvEv .. => (scanRegRm_plain ..).ends
  | .movsxGvEb .. | .movsxGvEw .. => (movsx_plain ..).ends
  | .xaddEbGb .. | .xaddEvGv .. => (xadd_plain ..).ends
  | .cmpxchg8bMq .. => (cmpxchg8b_plain ..).ends
  | .bswapZd .. => (bswap_plain ..).ends

end Sys2Proof.Machine
end

section
/-! PROOFS. What the delivery of an event can change (R1310 to R1331). -/
namespace Sys2Proof.Machine
open Sys2Proof

/-- What a delivery changes: registers and memory by its pushes, CS, SS and CPL by the switch to the handler, EIP, the
flags the handler starts with, CR2, and the record of the delivery. CPL does not rise and IF is not set. -/
structure DeliveryEffect (s u : State) : Prop where
  frame : u = { s with
    gpr := u.gpr, eip := u.eip, cs := u.cs, ss := u.ss, flags := u.flags, cr2 := u.cr2, cpl := u.cpl, halted := u.halted
    shutdown := u.shutdown, delivering := u.delivering, smcDirty := u.smcDirty, mem := u.mem }
  flags : u.flags = { s.flags with
    tf := u.flags.tf, nt := u.flags.nt, rf := u.flags.rf, vm := u.flags.vm, ac := u.flags.ac, ifl := u.flags.ifl }
  vm : s.flags.vm = false → u.flags.vm = false
  ifl : u.flags.ifl = true → s.flags.ifl = true
  canonical : s.canonical = true → u.canonical = true
  shaped : s.segmentsShaped = true → u.segmentsShaped = true
  cpl_le : u.cpl ≤ s.cpl
  realCpl : s.pe = false → u.cpl = s.cpl

section
variable {s u t : State}

theorem DeliveryEffect.refl (s : State) : DeliveryEffect s s :=
  ⟨rfl, rfl, id, id, id, id, BitVec.le_refl _, fun _ => rfl⟩

theorem DeliveryEffect.trans (h : DeliveryEffect s u) (g : DeliveryEffect u t) : DeliveryEffect s t where
  frame := by rw [g.frame, h.frame]
  flags := by rw [g.flags, h.flags]
  vm := g.vm ∘ h.vm
  ifl := h.ifl ∘ g.ifl
  canonical := g.canonical ∘ h.canonical
  shaped := g.shaped ∘ h.shaped
  cpl_le := BitVec.le_trans g.cpl_le h.cpl_le
  realCpl hpe := by
    rw [g.realCpl (by rw [h.frame]; exact hpe), h.realCpl hpe]

/-- Operand writes and pushes inside a delivery. -/
theorem DeliveryEffect.data (h : DeliveryEffect s u) (hd : OnlyData u t) (hc : u.canonical = true → t.canonical = true) :
    DeliveryEffect s t := by
  refine h.trans ⟨?_, ?_, ?_, ?_, hc, ?_, ?_, ?_⟩
  · unfold OnlyData at hd
    rw [hd]
  · rw [hd]
  · rw [hd]
    exact id
  · rw [hd]
    exact id
  · rw [State.segmentsShaped_congr (s := u) (u := t) (by rw [hd]) (by rw [hd])]
    exact id
  · rw [hd]
    exact BitVec.le_refl _
  · rw [hd]
    exact fun _ => rfl

theorem DeliveryEffect.setSp (h : DeliveryEffect s u) (v : Word) : DeliveryEffect s (u.setSp v) :=
  h.data (State.setSp_data u v) (State.setSp_canonical v)

theorem DeliveryEffect.pushAll (h : DeliveryEffect s u) {z : Size} {vs : List Word} :
    Gives (DeliveryEffect s) (u.pushAll z vs) :=
  fun _ ht => h.data (State.pushAll_data ht) (State.pushAll_canonical ht)

theorem DeliveryEffect.setAccessed (h : DeliveryEffect s u) {addr : Word} {d : Desc} :
    Gives (DeliveryEffect s) (u.setAccessed addr d) :=
  fun _ ht => h.data (State.setAccessed_only ht).data (State.setAccessed_canonical ht)

theorem DeliveryEffect.loadStack (h : DeliveryEffect s u) {sel : Half} {addr : Word} {d : Desc}
    (hd : d.isWritableData = true) : Gives (DeliveryEffect s) (u.loadStack sel addr d) := by
  intro v hv
  obtain ⟨t, ht, rfl⟩ := State.loadStack_ok.mp hv
  exact (h.setAccessed t ht).trans
    ⟨rfl, rfl, id, id, id, State.segmentsShaped_setStack hd _, BitVec.le_refl _, fun _ => rfl⟩

/-- CPL lowered, or kept, in protected mode. -/
theorem DeliveryEffect.setCpl (h : DeliveryEffect s u) {n : BitVec 2} (hpe : s.pe = true) (hn : n ≤ s.cpl) :
    DeliveryEffect s { u with cpl := n } :=
  ⟨by rw [h.frame], h.flags, h.vm, h.ifl, h.canonical, h.shaped, hn, fun h => by simp [hpe] at h⟩

theorem DeliveryEffect.loadCS (h : DeliveryEffect s u) {sel : Half} {addr : Word} {d : Desc} {n : BitVec 2}
    (hd : d.isCode = true) (hpe : s.pe = true) (hn : n ≤ s.cpl) :
    Gives (DeliveryEffect s) (u.loadCS sel addr d n) := by
  intro v hv
  obtain ⟨t, ht, rfl⟩ := State.loadCS_ok.mp hv
  exact DeliveryEffect.setCpl (u := { t with cs := .ofDesc ((sel &&& 0xFFFC#16) ||| n.setWidth 16) d })
    ((h.setAccessed t ht).trans ⟨rfl, rfl, id, id, id, State.segmentsShaped_setCode hd _, BitVec.le_refl _, fun _ => rfl⟩) hpe hn

/-- The handler's first EIP and flags. -/
theorem DeliveryEffect.enter (h : DeliveryEffect s u) {f : Flags} (v : Word)
    (hf : f = { u.flags with tf := f.tf, nt := f.nt, rf := f.rf, vm := f.vm, ac := f.ac, ifl := f.ifl })
    (hvm : u.flags.vm = false → f.vm = false) (hifl : f.ifl = true → u.flags.ifl = true) :
    DeliveryEffect s { u with eip := v, flags := f } :=
  h.trans ⟨rfl, hf, hvm, hifl, id, id, BitVec.le_refl _, fun _ => rfl⟩

theorem DeliveryEffect.delivered (h : DeliveryEffect s u) (v : Word) (g : Desc) :
    DeliveryEffect s { u with eip := v, flags := u.flags.delivered g } :=
  h.enter v rfl (fun _ => rfl) fun h => (Bool.and_eq_true_iff.mp h).1

theorem State.gateTarget_gives {g : Desc} {x : Word} : Gives (fun p => p.2.isCode = true) (s.gateTarget g x) :=
  .after <| .bind fun ⟨_, _⟩ _ => .bind fun _ hc => .after <| .ok
    (by simpa using (Bool.or_eq_false_iff.mp (raiseIf_ok.mp hc)).1)

theorem State.innerTarget_gives {e : Event} {g d : Desc} :
    Gives (fun p => p.2.2.1.isWritableData = true) (s.innerTarget e g d) :=
  .bind fun ⟨_, _, _, _⟩ hs => .after <| .after <| .ok (State.innerStack_gives _ hs)

theorem State.realDeliver_effect (e : Event) (eip : Word) : Gives (DeliveryEffect s) (s.realDeliver e eip) :=
  .after <| .bind fun _ _ => .bind fun _ _ => .after <| .bind fun t ht => .ok <|
    DeliveryEffect.enter (u := t.realLoadCS _) (((DeliveryEffect.refl s).pushAll t ht).trans
      ⟨rfl, rfl, id, id, id, ((UserEffect.refl Licence.none t).realLoadCS _).shaped, BitVec.le_refl _, fun _ => rfl⟩) _
      rfl id nofun

theorem State.deliverInner_effect (hpe : s.pe = true) {t : Desc} (ht : t.isCode = true) (hlt : t.dpl < s.cpl) (e : Event)
    (eip : Word) (g : Desc) (addr : Word) : Gives (DeliveryEffect s) (s.deliverInner e eip g addr t) := by
  have hle := BitVec.le_of_lt hlt
  exact .bind fun ⟨_, _, _, _⟩ hd => .bind fun s1 h1 => .bind fun s3 h3 => .bind fun s4 h4 => .ok
    ((DeliveryEffect.loadCS (DeliveryEffect.pushAll (DeliveryEffect.setSp (DeliveryEffect.setCpl
      ((DeliveryEffect.refl s).loadStack (State.innerTarget_gives _ hd) s1 h1) hpe hle) _) s3 h3) ht hpe hle
        s4 h4).delivered _ g)

theorem State.deliverSame_effect (hpe : s.pe = true) {t : Desc} (ht : t.isCode = true) (e : Event) (eip : Word) (g : Desc)
    (addr : Word) : Gives (DeliveryEffect s) (s.deliverSame e eip g addr t) :=
  .after <| .after <| .bind fun s1 h1 => .bind fun s2 h2 => .ok
    ((((DeliveryEffect.refl s).pushAll s1 h1).loadCS ht hpe (BitVec.le_refl _) s2 h2).delivered _ g)

theorem State.tryDeliver_effect (e : Event) (eip : Word) : Gives (DeliveryEffect s) (s.tryDeliver e eip) := by
  refine .ite (fun _ => State.realDeliver_effect e eip) fun hpe => .bind fun g _ => .bind fun ⟨addr, t⟩ ht => ?_
  replace hpe : s.pe = true := by simpa using hpe
  have hcode := State.gateTarget_gives _ ht
  refine .ite (fun hin => ?_) fun _ => ?_
  · exact State.deliverInner_effect hpe hcode (of_decide_eq_true (Bool.and_eq_true_iff.mp hin).2) _ _ _ _
  · exact State.deliverSame_effect hpe hcode _ _ _ _

theorem DeliveryEffect.record (h : DeliveryEffect s u) (c : Option EventClass) :
    DeliveryEffect s { u with delivering := c } :=
  h.trans ⟨rfl, rfl, id, id, id, id, BitVec.le_refl _, fun _ => rfl⟩

theorem deliver_effect {e : Event} {eip : Word} (h : deliver s e eip = .next u) : DeliveryEffect s u := by
  refine deliverN_keeps (P := DeliveryEffect s) ?_ ?_ ?_ ?_ ?_ (DeliveryEffect.refl s) h
  · exact fun u e hu => hu.trans ⟨rfl, rfl, id, id, State.canonical_serialise, id, BitVec.le_refl _, fun _ => rfl⟩
  · exact fun u e eip t hu ht => (hu.trans (State.tryDeliver_effect e eip t ht)).record _
  · intro u x hu
    rw [State.noteFault_eq]
    exact hu.trans ⟨rfl, rfl, id, id, id, id, BitVec.le_refl _, fun _ => rfl⟩
  · exact fun u e hu => hu.data (u.keepAccessed_only e).data (State.keepAccessed_canonical e)
  · exact fun u hu => hu.trans ⟨rfl, rfl, id, id, id, id, BitVec.le_refl _, fun _ => rfl⟩

/-- A delivery that ends leaves no event in delivery, a shutdown neither (R1310; log 15). -/
theorem deliverN_settled {n : Nat} {e : Event} {eip : Word} (h : deliverN n s e eip = .next u) : u.delivering = none := by
  induction n generalizing s e eip with
  | zero => simp [deliverN] at h
  | succ n ih =>
    simp only [deliverN] at h
    split at h
    · cases h
      rfl
    · cases h
    · split at h
      · cases h
        rfl
      · split at h <;> exact ih h

theorem DeliveryEffect.legal (h : DeliveryEffect s u) (hs : s.legalMode = true) : u.legalMode = true := by
  obtain ⟨hcpl, hvm, hpg, hnw, h0, h4⟩ := State.legalMode_iff.mp hs
  have hpe : u.pe = s.pe := by rw [h.frame]; rfl
  have hcr0 : u.cr0 = s.cr0 := by rw [h.frame]
  have hcr4 : u.cr4 = s.cr4 := by rw [h.frame]
  refine State.legalMode_iff.mpr ⟨?_, h.vm hvm, ?_, by rw [hcr0]; exact hnw, by rw [hcr0]; exact h0,
    by rw [hcr4]; exact h4⟩
  · rw [hpe]
    cases hpe' : s.pe with
    | true => exact .inl rfl
    | false => exact .inr (by rw [h.realCpl hpe']; simpa [hpe'] using hcpl)
  · rw [hpe, State.pg, hcr0]
    exact hpg

end

end Sys2Proof.Machine
end

section
/-! PROOFS. What every step keeps, and what an instruction without privilege cannot change. -/
namespace Sys2Proof.Machine
open Sys2Proof

/-- A predicate that everything a step does keeps: its bookkeeping, RESET, a trap recorded in DR6, a delivery, an
instruction's effect, and its end. -/
structure StepInvariant (P : State → Prop) : Prop where
  bookkeeping {s : State} {cr2 : Word} {shadow trap postponed nmi : Bool} {c : Option FlowClass} {k : Nat}
    {inputs : List BoundaryInput} : P s →
    P { s with
      cr2 := cr2, intShadow := shadow, pendingTrapDB := trap, trapPostponed := postponed, nmiBlocked := nmi, classOut := c
      tick := k, inputs := inputs }
  reset {s : State} : P s → P s.resetTo
  trapped {s : State} : P s → P { s with dr6 := s.dr6 ||| 0x4000#32 }
  delivery {s u : State} : P s → DeliveryEffect s u → u.delivering = none → P u
  effect {k : Licence} {s u : State} : P s → Effect k s u → P u
  retired {s u : State} {trap : Bool} {c : FlowClass} : P u → P (retire s trap u c)

section
variable {P : State → Prop} {s t : State}

theorem StepInvariant.deliver (h : StepInvariant P) {e : Event} {eip : Word} (hs : P s)
    (ht : Machine.deliver s e eip = .next t) : P t :=
  h.delivery hs (deliver_effect ht) (deliverN_settled ht)

theorem StepInvariant.delivered (h : StepInvariant P) (hs : P s) (ht : Delivered s t) : P t := by
  obtain ⟨cr2, e, eip, hd⟩ := ht
  exact h.deliver (h.bookkeeping (cr2 := cr2) (c := some .fault) hs) hd

theorem StepInvariant.exec (h : StepInvariant P) (i : Instr) (hs : P s) (ht : Machine.exec i s = .next t) : P t := by
  rcases exec_ends i s t ht with hd | ⟨_, u, _, -, hu, rfl⟩
  · exact h.delivered hs hd
  · exact h.retired (h.effect hs hu)

theorem StepInvariant.runInstruction (h : StepInvariant P) (hs : P s) (ht : Machine.runInstruction s = .next t) : P t := by
  unfold Machine.runInstruction at ht
  split at ht
  · exact h.exec _ hs ht
  · rcases finish_next ht with ⟨_, _, hr, -⟩ | ⟨_, -, hx⟩
    · cases hr
    · exact h.delivered hs (delivered_of_deliverFault hx)

theorem StepInvariant.boundary (h : StepInvariant P) {x : BoundaryInput} (hs : P s)
    (ht : Machine.boundary s x = .next t) : P t := by
  unfold Machine.boundary at ht
  split at ht
  · cases ht
    exact h.reset hs
  split at ht
  · cases ht
    exact hs
  split at ht
  · exact h.deliver (h.bookkeeping (h.trapped hs)) ht
  split at ht
  · exact h.deliver (h.bookkeeping hs) ht
  split at ht
  · exact h.deliver hs ht
  split at ht
  · cases ht
    exact hs
  · exact h.runInstruction (h.bookkeeping hs) ht

/-- An invariant of everything a step does is kept by the step. -/
theorem StepInvariant.step (h : StepInvariant P) (hs : P s) (ht : Machine.step s = .next t) : P t :=
  h.boundary (h.bookkeeping hs) ht

/-! ## The effects on each invariant -/

variable {k : Licence} {u : State}

theorem UserEffect.legal (h : UserEffect k s u) (hs : s.legalMode = true) : u.legalMode = true := by
  obtain ⟨hcpl, hvm, hpg, hnw, h0, h4⟩ := State.legalMode_iff.mp hs
  have hcr0 : u.cr0 = s.cr0 := by rw [h.frame]
  have hcr4 : u.cr4 = s.cr4 := by rw [h.frame]
  have hpe : u.pe = s.pe := by rw [State.pe, hcr0]; rfl
  refine State.legalMode_iff.mpr ⟨?_, by rw [h.flags.vm, hvm], by rw [hpe, State.pg, hcr0]; exact hpg,
    by rw [hcr0]; exact hnw, by rw [hcr0]; exact h0, by rw [hcr4]; exact h4⟩
  cases hr : s.pe with
  | true => exact .inl (by rw [hpe, hr])
  | false => exact .inr (by rw [h.realCpl hr]; simpa [hr] using hcpl)

theorem State.debugFixed_trapped (h : s.debugFixed = true) :
    ({ s with dr6 := s.dr6 ||| 0x4000#32 } : State).debugFixed = true := by
  obtain ⟨h6, h7⟩ := State.debugFixed_iff.mp h
  refine State.debugFixed_iff.mpr ⟨?_, h7⟩
  show (s.dr6 ||| 0x4000#32) &&& 0xFFFF1FF0#32 = 0xFFFF0FF0#32
  rw [or_and_mask, h6]
  rfl

theorem reset_legalMode : State.reset.legalMode = true := by decide

theorem reset_debugFixed : State.reset.debugFixed = true := by decide

theorem reset_segmentsShaped : State.reset.segmentsShaped = true := by decide

theorem reset_settled : State.reset.settled = true := by decide

theorem canonical_invariant : StepInvariant (fun s => s.canonical = true) where
  bookkeeping := id
  reset {s} hs := by
    have := hs
    simp only [State.canonical, Bool.and_eq_true] at this ⊢
    exact ⟨this.1, rfl⟩
  trapped := id
  delivery hs h _ := h.canonical hs
  effect hs h := h.elim (·.canonical hs) (·.canonical hs)
  retired {s u trap c} hu := by
    have := State.canonical_serialise hu
    cases c with
    | none => exact hu
    | notTaken => exact hu
    | taken | unknownTarget | call | ret | fault => exact this

theorem legalMode_invariant : StepInvariant (fun s => s.legalMode = true) where
  bookkeeping := id
  reset _ := reset_legalMode
  trapped := id
  delivery hs h _ := h.legal hs
  effect hs h := h.elim (·.legal hs) (·.legal hs)
  retired := id

theorem debugFixed_invariant : StepInvariant (fun s => s.debugFixed = true) where
  bookkeeping := id
  reset _ := reset_debugFixed
  trapped := State.debugFixed_trapped
  delivery hs h _ := by
    rw [h.frame]
    exact hs
  effect hs h := h.elim (fun h => by
    rw [h.frame]
    exact hs) (·.debug hs)
  retired := id

theorem segmentsShaped_invariant : StepInvariant (fun s => s.segmentsShaped = true) where
  bookkeeping := id
  reset _ := reset_segmentsShaped
  trapped := id
  delivery hs h _ := h.shaped hs
  effect hs h := h.elim (·.shaped hs) fun h => by
    rw [h.frame]
    exact hs
  retired := id

theorem settled_invariant : StepInvariant (fun s => s.settled = true) where
  bookkeeping := id
  reset _ := reset_settled
  trapped := id
  delivery {s u} hs h hn := by
    have htr : u.tr = s.tr := by rw [h.frame]
    have := hs
    simp only [State.settled, Bool.and_eq_true] at this ⊢
    exact ⟨by rw [hn]; rfl, by rw [htr]; exact this.2⟩
  effect hs h := h.elim (fun h => by
    rw [h.frame]
    exact hs) (·.settled hs)
  retired := id

end

/-! ## The obligations -/

/-- Settles O53: the reset state is a literal, its memory empty. -/
theorem resetInvariants : Obligations.ResetInvariants :=
  ⟨reset_canonical, reset_legalMode, reset_debugFixed, reset_segmentsShaped, reset_settled⟩

/-- Settles O54: writes keep the canonical forms, and nothing else touches them. -/
theorem stepKeepsCanonical : Obligations.StepKeepsCanonical := fun _ _ hs ht => canonical_invariant.step hs ht

/-- Settles O55: an instruction without privilege writes neither CR0 nor CR4 nor VM, and CPL only in protected mode. -/
theorem stepKeepsLegalMode : Obligations.StepKeepsLegalMode := fun _ _ hs ht => legalMode_invariant.step hs ht

/-- Settles O56: the three predicates are invariants of everything a step does. -/
theorem stepKeepsFixedState : Obligations.StepKeepsFixedState := fun _ _ ht =>
  ⟨fun hs => debugFixed_invariant.step hs ht, fun hs => segmentsShaped_invariant.step hs ht,
    fun hs => settled_invariant.step hs ht⟩

/-- Settles O57: without privilege an instruction has a user's effect or delivers an event, and neither writes these. -/
theorem unprivilegedIsolation : Obligations.UnprivilegedIsolation := by
  intro i s t hpe hcpl ht
  rcases exec_ends i s t ht with ⟨cr2, e, eip, hd⟩ | ⟨_, u, _, -, hu | hu, rfl⟩
  · have h := deliver_effect hd
    have hiopl : t.flags.iopl = s.flags.iopl := by rw [h.flags]
    have hvif : t.flags.vif = s.flags.vif := by rw [h.flags]
    have hvip : t.flags.vip = s.flags.vip := by rw [h.flags]
    rw [h.frame]
    exact ⟨rfl, rfl, rfl, rfl, rfl, rfl, rfl, rfl, rfl, rfl, rfl, rfl, rfl, rfl, rfl, hiopl, hvif, hvip, fun _ => h.ifl⟩
  · have hf := hu.flags
    rw [hu.frame]
    exact ⟨rfl, rfl, rfl, rfl, rfl, rfl, rfl, rfl, rfl, rfl, rfl, rfl, rfl, rfl, rfl, hf.iopl hpe hcpl, hf.vif hpe hcpl,
      hf.vip hpe hcpl, hf.ifl hpe⟩
  · rcases hu.privileged with h | h
    · simp [hpe] at h
    · exact absurd h hcpl

theorem Instr.of_lowersCpl {i : Instr} (h : i.lowersCpl = true) :
    ∃ b, (∃ off sel, i = .callAp b off sel) ∨ ∃ m, i = .callMp b m := by
  unfold Instr.lowersCpl at h
  split at h
  · exact ⟨_, .inl ⟨_, _, rfl⟩⟩
  · exact ⟨_, .inr ⟨_, rfl⟩⟩
  · cases h

theorem Instr.of_raisesCpl {i : Instr} (h : i.raisesCpl = true) :
    ∃ b, i = .retf b ∨ i = .iret b ∨ ∃ n, i = .retfIw b n := by
  unfold Instr.raisesCpl at h
  split at h
  · exact ⟨_, .inl rfl⟩
  · exact ⟨_, .inr (.inr ⟨_, rfl⟩)⟩
  · exact ⟨_, .inr (.inl rfl)⟩
  · cases h

/-- An event delivered by an instruction leaves class fault (R1301, R1320). -/
theorem Delivered.classOut {s t : State} (h : Delivered s t) : t.classOut = some .fault := by
  obtain ⟨_, _, _, hd⟩ := h
  rw [(deliver_effect hd).frame]

theorem Delivered.cpl_le {s t : State} (h : Delivered s t) : t.cpl ≤ s.cpl := by
  obtain ⟨_, _, _, hd⟩ := h
  exact (deliver_effect hd).cpl_le

/-- Settles O58: an effect moves CPL by the instruction's licence, a delivery only down. -/
theorem privilegeRises : Obligations.PrivilegeRises := by
  intro i s t ht
  rcases exec_ends i s t ht with hd | ⟨trap, u, c, -, hu | hu, rfl⟩
  · exact ⟨fun _ => .inl hd.classOut, fun h => absurd h (BitVec.not_lt.mpr hd.cpl_le)⟩
  · exact ⟨fun h => .inr (Instr.of_lowersCpl (hu.lowers h)), fun h => Instr.of_raisesCpl (hu.raises h)⟩
  · have hcpl : (retire s trap u c).cpl = s.cpl := by rw [hu.frame]; rfl
    rw [hcpl]
    exact ⟨fun h => absurd h (BitVec.lt_irrefl _), fun h => absurd h (BitVec.lt_irrefl _)⟩

/-- Settles O60: a delivery leaves class fault, and a completed instruction's class is within its licence. -/
theorem flowCapability : Obligations.FlowCapability := by
  intro i s t c ht hc hnone hfault
  rcases exec_ends i s t ht with hd | ⟨_, u, c', hflow, -, rfl⟩
  · rw [hd.classOut] at hc
    exact absurd (Option.some.inj hc).symm hfault
  · cases hc
    exact hflow hnone

end Sys2Proof.Machine
end

section
/-! PROOFS. Register views and the flags image (R102 to R104, R132, R431). -/
namespace Sys2Proof.Machine
open Sys2Proof

/-- The low lanes name their own register (R103). -/
theorem low_lane {r : BitVec 3} : r.toNat < 4 →
    (r.getLsbD 2 = false ∧ laneOwner r = r) ∧ (r + 4#3).getLsbD 2 = true ∧ laneOwner (r + 4#3) = r := by
  revert r
  decide

/-- The high lanes name the register four below (R103). -/
theorem high_lane {r : BitVec 3} : 4 ≤ r.toNat → r.getLsbD 2 = true ∧ laneOwner r = r - 4#3 := by
  revert r
  decide

theorem setWidth_eq_lowBits (v : Word) {n : Nat} (hn : n ≤ 32) : v.setWidth n = v.extractLsb' 0 n :=
  BitVec.setWidth_eq_extractLsb' hn

theorem Gpr.get_write_half (g : Gpr) (r q : BitVec 3) (v : Half) :
    (g.write .w16 r v).get q = if q = r then (g.get r).extractLsb' 16 16 ++ v else g.get q :=
  Gpr.get_set ..

theorem Gpr.get_write_low (g : Gpr) {r : BitVec 3} (q : BitVec 3) (v : Byte) (hr : r.toNat < 4) :
    (g.write .w8 r v).get q = if q = r then (g.get r).extractLsb' 8 24 ++ v else g.get q := by
  obtain ⟨⟨hlow, how⟩, -⟩ := low_lane hr
  simp only [Gpr.write, hlow, how, Bool.false_eq_true, if_false]
  exact Gpr.get_set ..

theorem Gpr.get_write_high (g : Gpr) {r : BitVec 3} (q : BitVec 3) (v : Byte) (hr : 4 ≤ r.toNat) :
    (g.write .w8 r v).get q =
      if q = r - 4#3 then (g.get q).extractLsb' 16 16 ++ v ++ (g.get q).extractLsb' 0 8 else g.get q := by
  obtain ⟨hhigh, how⟩ := high_lane hr
  simp only [Gpr.write, hhigh, how, if_true]
  rw [Gpr.get_set, setWidth_eq_lowBits _ (by decide)]
  split
  · subst_vars
    rfl
  · rfl

theorem Gpr.views_of_word (g : Gpr) (r : BitVec 3) (v : Word) :
    (g.write .w32 r v).read .w16 r = v.extractLsb' 0 16 ∧
      (r.toNat < 4 → (g.write .w32 r v).read .w8 r = v.extractLsb' 0 8 ∧
        (g.write .w32 r v).read .w8 (r + 4#3) = v.extractLsb' 8 8) := by
  refine ⟨?_, fun hr => ?_⟩
  · simp [Gpr.read, setWidth_eq_lowBits]
  · obtain ⟨⟨hlow, how⟩, hhigh, how'⟩ := low_lane hr
    constructor
    · simp only [Gpr.read, hlow, how, Gpr.write_w32, Gpr.get_set_same, Bool.false_eq_true, if_false]
      exact setWidth_eq_lowBits v (by decide)
    · simp only [Gpr.read, hhigh, how', Gpr.write_w32, Gpr.get_set_same, if_true]

/-- The bits of a two-bit field written as a pair. -/
theorem bits_of_pair (a b : Bool) :
    (BitVec.ofBool a ++ BitVec.ofBool b : BitVec 2).getLsbD 0 = b ∧
      (BitVec.ofBool a ++ BitVec.ofBool b : BitVec 2).getLsbD 1 = a := by
  revert a b
  decide

/-- A write of the image, read bit by bit (R132, R431). -/
theorem Flags.image_setImage (f : Flags) (v m : Word) {i : Nat} (hi : i < 32) :
    (f.setImage v m).image.getLsbD i =
      if i = 1 then true
      else if i = 3 ∨ i = 5 ∨ i = 15 ∨ 22 ≤ i then false
      else if m.getLsbD i = true then v.getLsbD i
      else f.image.getLsbD i := by
  rw [Flags.image_bit, Flags.image_bit]
  by_cases hiopl : i = 12 ∨ i = 13
  · obtain ⟨h0, h1⟩ := bits_of_pair (if m.getLsbD 13 then v.getLsbD 13 else f.iopl.getLsbD 1)
      (if m.getLsbD 12 then v.getLsbD 12 else f.iopl.getLsbD 0)
    rcases hiopl with rfl | rfl
    · exact h0
    · exact h1
  · interval_cases i <;> simp_all [Flags.bits, Flags.setImage]

/-- Settles O6: a view is a field of its owner, and each bit of the image is a flag or a constant. -/
theorem storageViews : Obligations.StorageViews :=
  ⟨fun g r q => ⟨g.get_write_half r q, fun v => g.get_write_low q v, fun v => g.get_write_high q v, g.views_of_word r⟩,
    fun f v m _ hi => f.image_setImage v m hi⟩

end Sys2Proof.Machine
end

section
/-! PROOFS. Sums and differences with a carry: the result, and carry, overflow and auxiliary carry as arithmetic (R410
to R417). -/
namespace Sys2Proof.Machine
open Sys2Proof

/-! ## Bits of a sum -/

theorem xor_odd (x y z : Nat) :
    (decide (x % 2 = 1) ^^ decide (y % 2 = 1) ^^ decide (z % 2 = 1)) = decide ((x + y + z) % 2 = 1) := by
  rcases Nat.mod_two_eq_zero_or_one x with hx | hx <;> rcases Nat.mod_two_eq_zero_or_one y with hy | hy <;>
    rcases Nat.mod_two_eq_zero_or_one z with hz | hz <;> simp [hx, hy, hz, Nat.add_mod]

/-- Bit 4 of a xor of three values is the parity of their second digits. -/
theorem xor_bit_four {n : Nat} (a b r : BitVec n) :
    (a ^^^ b ^^^ r).getLsbD 4 = decide ((a.toNat / 16 + b.toNat / 16 + r.toNat / 16) % 2 = 1) := by
  rw [← xor_odd]
  simp only [BitVec.getLsbD_xor]
  simp [← BitVec.testBit_toNat, Nat.testBit_eq_decide_div_mod_eq]

theorem thirtyTwo_dvd_twoPow (w : Width) : 32 ∣ 2 ^ w.bits := by
  cases w <;> decide

theorem twoPow_eq (w : Width) : 2 ^ w.bits = 2 * 2 ^ (w.bits - 1) := by
  cases w <;> rfl

section
variable {w : Width} (a b : BitVec w.bits) (c : Bool)

theorem carry_toNat : (carry w.bits c).toNat = c.toNat := by
  cases w <;> cases c <;> rfl

theorem toNat_addCarry : (a + b + carry w.bits c).toNat = (a.toNat + b.toNat + c.toNat) % 2 ^ w.bits := by
  simp [BitVec.toNat_add, carry_toNat]

/-- A sum with carry is the exact sum, less 2^w where that is out of range. -/
theorem toNat_addCarry_cases :
    (a + b + carry w.bits c).toNat = a.toNat + b.toNat + c.toNat ∧ a.toNat + b.toNat + c.toNat < 2 ^ w.bits ∨
      (a + b + carry w.bits c).toNat + 2 ^ w.bits = a.toNat + b.toNat + c.toNat := by
  have hc := Bool.toNat_le c
  have ha := a.isLt
  have hb := b.isLt
  rw [toNat_addCarry]
  rcases Nat.lt_or_ge (a.toNat + b.toNat + c.toNat) (2 ^ w.bits) with h | h
  · exact .inl ⟨Nat.mod_eq_of_lt h, h⟩
  · refine .inr ?_
    rw [Nat.mod_eq_sub_mod h, Nat.mod_eq_of_lt (by omega)]
    omega

/-- A difference with borrow is the exact difference, plus 2^w where that is negative. -/
theorem toNat_subCarry_cases :
    (a - b - carry w.bits c).toNat + b.toNat + c.toNat = a.toNat ∨
      (a - b - carry w.bits c).toNat + b.toNat + c.toNat = a.toNat + 2 ^ w.bits ∧ a.toNat < b.toNat + c.toNat := by
  have h := toNat_addCarry_cases (a - b - carry w.bits c) b c
  have hr : a - b - carry w.bits c + b + carry w.bits c = a := by
    rw [BitVec.add_assoc, BitVec.add_comm b, ← BitVec.add_assoc, BitVec.sub_add_cancel, BitVec.sub_add_cancel]
  have ha := a.isLt
  have hd := (a - b - carry w.bits c).isLt
  rw [hr] at h
  omega

theorem afAdd : (a ^^^ b ^^^ (a + b + carry w.bits c)).getLsbD 4 =
    decide (16 ≤ a.toNat % 16 + b.toNat % 16 + c.toNat) := by
  obtain ⟨k, hk⟩ := thirtyTwo_dvd_twoPow w
  have h := toNat_addCarry_cases a b c
  have hc := Bool.toNat_le c
  rw [xor_bit_four, decide_eq_decide]
  omega

theorem afSub : (a ^^^ b ^^^ (a - b - carry w.bits c)).getLsbD 4 = decide (a.toNat % 16 < b.toNat % 16 + c.toNat) := by
  obtain ⟨k, hk⟩ := thirtyTwo_dvd_twoPow w
  have h := toNat_subCarry_cases a b c
  have hc := Bool.toNat_le c
  rw [xor_bit_four, decide_eq_decide]
  omega

/-- The signed value of a number, by the half of the range it lies in. -/
theorem toInt_cases (x : BitVec w.bits) :
    x.msb = false ∧ x.toNat < 2 ^ (w.bits - 1) ∧ x.toInt = x.toNat ∨
      x.msb = true ∧ 2 ^ (w.bits - 1) ≤ x.toNat ∧ x.toInt = (x.toNat : Int) - (2 ^ w.bits : Nat) := by
  rw [BitVec.toInt_eq_msb_cond, BitVec.msb_eq_decide]
  rcases Nat.lt_or_ge x.toNat (2 ^ (w.bits - 1)) with h | h
  · simp [h, Nat.not_le.mpr h]
  · simp [h]

theorem twoPow_cast (k : Nat) : (2 ^ k : Int) = ((2 ^ k : Nat) : Int) := by
  push_cast
  rfl

theorem ofAdd : ((a ^^^ (a + b + carry w.bits c)) &&& (b ^^^ (a + b + carry w.bits c))).msb =
    decide (a.toInt + b.toInt + (c.toNat : Int) < -(2 ^ (w.bits - 1) : Int) ∨
      (2 ^ (w.bits - 1) : Int) ≤ a.toInt + b.toInt + (c.toNat : Int)) := by
  have h := toNat_addCarry_cases a b c
  have hc := Bool.toNat_le c
  have hr := (a + b + carry w.bits c).isLt
  have ha := a.isLt
  have hb := b.isLt
  have ca := toInt_cases a
  have cb := toInt_cases b
  have cr := toInt_cases (a + b + carry w.bits c)
  simp only [BitVec.msb_and, BitVec.msb_xor, twoPow_cast]
  rw [twoPow_eq] at h ha hb hr ca cb
  generalize 2 ^ (w.bits - 1) = half at *
  rcases ca with ⟨ma, la, ia⟩ | ⟨ma, la, ia⟩ <;> rcases cb with ⟨mb, lb, ib⟩ | ⟨mb, lb, ib⟩ <;>
    rcases cr with ⟨mr, lr, -⟩ | ⟨mr, lr, -⟩ <;> simp [ma, mb, mr] <;> omega

theorem ofSub : ((a ^^^ b) &&& (a ^^^ (a - b - carry w.bits c))).msb =
    decide (a.toInt - b.toInt - (c.toNat : Int) < -(2 ^ (w.bits - 1) : Int) ∨
      (2 ^ (w.bits - 1) : Int) ≤ a.toInt - b.toInt - (c.toNat : Int)) := by
  have h := toNat_subCarry_cases a b c
  have hc := Bool.toNat_le c
  have hr := (a - b - carry w.bits c).isLt
  have ha := a.isLt
  have hb := b.isLt
  have ca := toInt_cases a
  have cb := toInt_cases b
  have cr := toInt_cases (a - b - carry w.bits c)
  simp only [BitVec.msb_and, BitVec.msb_xor, twoPow_cast]
  rw [twoPow_eq] at h ha hb hr ca cb
  generalize 2 ^ (w.bits - 1) = half at *
  rcases ca with ⟨ma, la, ia⟩ | ⟨ma, la, ia⟩ <;> rcases cb with ⟨mb, lb, ib⟩ | ⟨mb, lb, ib⟩ <;>
    rcases cr with ⟨mr, lr, -⟩ | ⟨mr, lr, -⟩ <;> simp [ma, mb, mr] <;> omega

/-! ## The flags of a sum and of a difference -/

@[simp] theorem carry_false (n : Nat) : carry n false = 0#n := by simp [carry]

theorem beq_zero_eq (r : BitVec w.bits) : (r == 0#w.bits) = decide (r.toNat = 0) := by
  rw [Bool.beq_eq_decide_eq]
  simp [BitVec.toNat_eq]

variable (f : Flags)

theorem Flags.add_eq : f.add a b c = { f with
    cf := decide (2 ^ w.bits ≤ a.toNat + b.toNat + c.toNat)
    of := decide (a.toInt + b.toInt + (c.toNat : Int) < -(2 ^ (w.bits - 1) : Int) ∨
      (2 ^ (w.bits - 1) : Int) ≤ a.toInt + b.toInt + (c.toNat : Int))
    af := decide (16 ≤ a.toNat % 16 + b.toNat % 16 + c.toNat)
    zf := decide ((a + b + carry w.bits c).toNat = 0), sf := decide ((a + b + carry w.bits c).toInt < 0)
    pf := parity ((a + b + carry w.bits c).setWidth 8) } := by
  rw [← ofAdd, ← afAdd, ← beq_zero_eq, ← BitVec.msb_eq_toInt]
  rfl

theorem Flags.sub_eq : f.sub a b c = { f with
    cf := decide (a.toNat < b.toNat + c.toNat)
    of := decide (a.toInt - b.toInt - (c.toNat : Int) < -(2 ^ (w.bits - 1) : Int) ∨
      (2 ^ (w.bits - 1) : Int) ≤ a.toInt - b.toInt - (c.toNat : Int))
    af := decide (a.toNat % 16 < b.toNat % 16 + c.toNat)
    zf := decide ((a - b - carry w.bits c).toNat = 0), sf := decide ((a - b - carry w.bits c).toInt < 0)
    pf := parity ((a - b - carry w.bits c).setWidth 8) } := by
  rw [← ofSub, ← afSub, ← beq_zero_eq, ← BitVec.msb_eq_toInt]
  rfl

theorem toNat_subCarry :
    ((a - b - carry w.bits c).toNat : Int) = ((a.toNat : Int) - b.toNat - c.toNat) % (2 ^ w.bits : Int) := by
  have hr := (a - b - carry w.bits c).isLt
  rw [twoPow_cast, eq_comm, Int.emod_eq_iff (by positivity)]
  rcases toNat_subCarry_cases a b c with h | ⟨h, -⟩
  · exact ⟨by omega, by omega, 0, by omega⟩
  · exact ⟨by omega, by omega, 1, by omega⟩

end

/-! ## Parity -/

theorem even_add_bit (n : Nat) (p : Bool) :
    decide ((n + if p = true then 1 else 0) % 2 = 0) = (decide (n % 2 = 0) ^^ p) := by
  cases p <;> rcases Nat.mod_two_eq_zero_or_one n with h | h <;> simp [h, Nat.add_mod]

theorem parity_eq (b : Byte) : parity b = decide (((List.range 8).countP fun i => b.getLsbD i) % 2 = 0) := by
  rw [show List.range 8 = [0, 1, 2, 3, 4, 5, 6, 7] from rfl]
  simp only [List.countP_cons, List.countP_nil, even_add_bit, parity]
  simp only [decide_true, Bool.true_xor, Bool.xor_not, Bool.xor_assoc, Bool.xor_comm]

/-! ## The obligations -/

/-- Settles O8: ADC's sum and SBB's difference cover the five operations, with a carry of 0 where there is none. -/
theorem arithmeticFlags : Obligations.ArithmeticFlags := by
  refine ⟨fun w f a b => ⟨?_, ?_⟩, parity_eq⟩
  · intro p hp
    have hadd := toNat_addCarry a b
    have hflags := fun c => Flags.add_eq a b c f
    simp only [List.mem_cons, List.not_mem_nil, or_false] at hp
    rcases hp with rfl | rfl
    · have h0 := hadd false
      have h1 := hflags false
      rw [carry_false, BitVec.add_zero] at h0 h1
      exact ⟨h0, h1⟩
    · exact ⟨hadd f.cf, hflags f.cf⟩
  · intro p hp
    have hsub := toNat_subCarry a b
    have hflags := fun c => Flags.sub_eq a b c f
    have h0 := hsub false
    have h1 := hflags false
    rw [carry_false, BitVec.sub_zero] at h0 h1
    simp only [List.mem_cons, List.not_mem_nil, or_false] at hp
    rcases hp with rfl | rfl | rfl
    · exact ⟨h0, h1⟩
    · exact ⟨h0, h1⟩
    · exact ⟨hsub f.cf, hflags f.cf⟩

section
variable {w : Width} (f : Flags) (a r : BitVec w.bits)

theorem beq_intMin : (r == BitVec.intMin w.bits) = decide (r.toNat = 2 ^ (w.bits - 1)) := by
  have : (BitVec.intMin w.bits).toNat = 2 ^ (w.bits - 1) := by cases w <;> rfl
  rw [Bool.beq_eq_decide_eq, decide_eq_decide, BitVec.toNat_eq, this]

theorem beq_intMax : (r == BitVec.intMin w.bits - 1#w.bits) = decide (r.toNat = 2 ^ (w.bits - 1) - 1) := by
  have : (BitVec.intMin w.bits - 1#w.bits).toNat = 2 ^ (w.bits - 1) - 1 := by cases w <;> rfl
  rw [Bool.beq_eq_decide_eq, decide_eq_decide, BitVec.toNat_eq, this]

theorem lowDigit_beq (d : BitVec 4) : (r.setWidth 4 == d) = decide (r.toNat % 16 = d.toNat) := by
  rw [Bool.beq_eq_decide_eq, decide_eq_decide, BitVec.toNat_eq, BitVec.toNat_setWidth]

theorem Flags.inc_eq : f.inc r = { f.szp r with
    of := decide (r.toNat = 2 ^ (w.bits - 1)), af := decide (r.toNat % 16 = 0) } := by
  unfold Flags.inc
  rw [beq_intMin, lowDigit_beq]
  rfl

theorem Flags.dec_eq : f.dec r = { f.szp r with
    of := decide (r.toNat = 2 ^ (w.bits - 1) - 1), af := decide (r.toNat % 16 = 15) } := by
  unfold Flags.dec
  rw [beq_intMax, lowDigit_beq]
  rfl

theorem toInt_one : (1#w.bits).toInt = 1 := by cases w <;> rfl

theorem toNat_one : (1#w.bits).toNat = 1 := by cases w <;> rfl

/-- Overflow of a + 1: the result is the most negative number. -/
theorem ofAdd_one : ((a ^^^ (a + 1#w.bits)) &&& (1#w.bits ^^^ (a + 1#w.bits))).msb =
    decide ((a + 1#w.bits).toNat = 2 ^ (w.bits - 1)) := by
  have h := ofAdd a 1#w.bits false
  have hr := toNat_addCarry_cases a 1#w.bits false
  have ha := a.isLt
  have ca := toInt_cases a
  rw [carry_false, BitVec.add_zero] at h hr
  rw [h, decide_eq_decide, toInt_one, twoPow_cast]
  rw [toNat_one] at hr
  rw [twoPow_eq] at hr ha ca
  simp only [Bool.toNat_false] at hr ⊢
  omega

/-- Overflow of a - 1: the result is the most positive number. -/
theorem ofSub_one : ((a ^^^ 1#w.bits) &&& (a ^^^ (a - 1#w.bits))).msb =
    decide ((a - 1#w.bits).toNat = 2 ^ (w.bits - 1) - 1) := by
  have h := ofSub a 1#w.bits false
  have hr := toNat_subCarry_cases a 1#w.bits false
  have ha := a.isLt
  have ca := toInt_cases a
  rw [carry_false, BitVec.sub_zero] at h hr
  rw [h, decide_eq_decide, toInt_one, twoPow_cast]
  rw [toNat_one] at hr
  rw [twoPow_eq] at hr ha ca
  simp only [Bool.toNat_false] at hr ⊢
  omega

theorem afAdd_one : (a ^^^ 1#w.bits ^^^ (a + 1#w.bits)).getLsbD 4 = decide ((a + 1#w.bits).toNat % 16 = 0) := by
  obtain ⟨k, hk⟩ := thirtyTwo_dvd_twoPow w
  have h := afAdd a 1#w.bits false
  have hr := toNat_addCarry_cases a 1#w.bits false
  rw [carry_false, BitVec.add_zero] at h hr
  rw [toNat_one, hk] at hr
  rw [h, decide_eq_decide, toNat_one]
  simp only [Bool.toNat_false] at hr ⊢
  omega

theorem afSub_one : (a ^^^ 1#w.bits ^^^ (a - 1#w.bits)).getLsbD 4 = decide ((a - 1#w.bits).toNat % 16 = 15) := by
  obtain ⟨k, hk⟩ := thirtyTwo_dvd_twoPow w
  have h := afSub a 1#w.bits false
  have hr := toNat_subCarry_cases a 1#w.bits false
  rw [carry_false, BitVec.sub_zero] at h hr
  rw [toNat_one, hk] at hr
  rw [h, decide_eq_decide, toNat_one]
  simp only [Bool.toNat_false] at hr ⊢
  omega

/-- INC's flags are those of a + 1 with CF kept (R415). -/
theorem Flags.inc_eq_add : f.inc (a + 1#w.bits) = { f.add a 1#w.bits false with cf := f.cf } := by
  rw [Flags.inc_eq, ← ofAdd_one, ← afAdd_one]
  simp only [Flags.add, carry_false, BitVec.add_zero, Flags.szp]

/-- DEC's flags are those of a - 1 with CF kept (R415). -/
theorem Flags.dec_eq_sub : f.dec (a - 1#w.bits) = { f.sub a 1#w.bits false with cf := f.cf } := by
  rw [Flags.dec_eq, ← ofSub_one, ← afSub_one]
  simp only [Flags.sub, carry_false, BitVec.sub_zero, Flags.szp]

/-- NEG's flags, those of 0 - a (R416). -/
theorem Flags.sub_zero_left : f.sub 0#w.bits a false = { f with
    cf := decide (a.toNat ≠ 0), of := decide (a.toNat = 2 ^ (w.bits - 1)), af := decide (a.toNat % 16 ≠ 0)
    zf := decide (a.toNat = 0), sf := (0#w.bits - a).msb, pf := parity ((0#w.bits - a).setWidth 8) } := by
  have ha := a.isLt
  have ca := toInt_cases a
  have hr := toNat_subCarry_cases 0#w.bits a false
  have hlt := (0#w.bits - a).isLt
  rw [Flags.sub_eq, carry_false, BitVec.sub_zero, BitVec.msb_eq_toInt]
  rw [carry_false, BitVec.sub_zero] at hr
  have hcf : (0#w.bits).toNat < a.toNat + false.toNat ↔ a.toNat ≠ 0 := by simp; omega
  have hof : (0#w.bits).toInt - a.toInt - (false.toNat : Int) < -(2 ^ (w.bits - 1) : Int) ∨
      (2 ^ (w.bits - 1) : Int) ≤ (0#w.bits).toInt - a.toInt - (false.toNat : Int) ↔ a.toNat = 2 ^ (w.bits - 1) := by
    rw [twoPow_cast, BitVec.toInt_zero]
    rw [twoPow_eq] at ca ha
    simp only [Bool.toNat_false]
    omega
  have haf : (0#w.bits).toNat % 16 < a.toNat % 16 + false.toNat ↔ a.toNat % 16 ≠ 0 := by simp; omega
  have hzf : (0#w.bits - a).toNat = 0 ↔ a.toNat = 0 := by
    simp only [BitVec.toNat_zero, Bool.toNat_false] at hr
    omega
  simp only [hcf, hof, haf, hzf]

/-- The bits of AND, TEST, OR and XOR, with their flags (R417). -/
theorem Alu.eval_logic {p : Alu × (Bool → Bool → Bool)} (hp : p ∈ ([(.and, fun x y => x && y),
    (.test, fun x y => x && y), (.or, fun x y => x || y), (.xor, fun x y => x ^^ y)] : List (Alu × (Bool → Bool → Bool))))
    (b : BitVec w.bits) :
    (∀ i < w.bits, (p.1.eval f a b).1.getLsbD i = p.2 (a.getLsbD i) (b.getLsbD i)) ∧
      (p.1.eval f a b).2 = f.logic (p.1.eval f a b).1 := by
  simp only [List.mem_cons, List.not_mem_nil, or_false] at hp
  rcases hp with rfl | rfl | rfl | rfl
  · exact ⟨fun _ _ => BitVec.getLsbD_and, rfl⟩
  · exact ⟨fun _ _ => BitVec.getLsbD_and, rfl⟩
  · exact ⟨fun _ _ => BitVec.getLsbD_or, rfl⟩
  · exact ⟨fun _ _ => BitVec.getLsbD_xor, rfl⟩

end

/-- Settles O9: INC and DEC read off their result what the formulas of a + 1 and a - 1 say of overflow and digit carry. -/
theorem logicAndStepFlags : Obligations.LogicAndStepFlags := by
  refine ⟨fun w f a b p hp => ?_, fun w f a => ⟨f.inc_eq_add a, f.dec_eq_sub a, ?_, ?_, ?_, ?_, f.sub_zero_left a⟩⟩
  · obtain ⟨hbits, hflags⟩ := Alu.eval_logic f a hp b
    exact ⟨hbits, by rw [hflags]; rfl⟩
  · rw [Flags.inc_eq]
  · rw [Flags.inc_eq]
  · rw [Flags.dec_eq]
  · rw [Flags.dec_eq]

end Sys2Proof.Machine
end

section
/-! PROOFS. Operands in memory: their bytes, the segment check, and their offsets (R205 to R224, R320 to R326). -/
namespace Sys2Proof.Machine
open Sys2Proof

/-! ## Bytes of a value -/

/-- Bit j of byte k of a little-endian value (R205). -/
theorem leNat_testBit (bs : List Byte) {k j : Nat} (hj : j < 8) :
    (leNat bs).testBit (8 * k + j) = (bs.getD k 0#8).getLsbD j := by
  induction bs generalizing k with
  | nil => simp [leNat]
  | cons b t ih =>
    rw [leNat, show b.toNat + 256 * leNat t = 2 ^ 8 * leNat t + b.toNat by omega, Nat.testBit_two_pow_mul_add _ b.isLt]
    cases k with
    | zero => simp [hj, BitVec.testBit_toNat]
    | succ k =>
      rw [if_neg (by omega), show 8 * (k + 1) + j - 8 = 8 * k + j by omega, ih]
      rfl

theorem linAddrs_eq_map (lin : Word) (n : Nat) :
    linAddrs lin n = (List.range n).map fun k => (lin + BitVec.ofNat 32 k).toNat := by
  induction n generalizing lin with
  | zero => rfl
  | succ n ih =>
    rw [linAddrs, List.range_succ_eq_map, List.map_cons, List.map_map, ih]
    congr 1
    · simp
    · refine List.map_congr_left fun k _ => ?_
      rw [Function.comp, Nat.succ_eq_add_one, Nat.add_comm k 1, BitVec.ofNat_add, BitVec.add_assoc]

/-- Without paging a value read has the bits of the bytes from its linear address on (R205, R206, R210). -/
theorem State.memRead_flat_bit {s : State} (hpg : s.pg = false) {kind : AccessKind} {user : Bool} {lin : Word} {n v : Nat}
    (h : s.memRead kind user lin n = .ok v) {k j : Nat} (hk : k < n) (hj : j < 8) :
    v.testBit (8 * k + j) = (s.mem.read (lin + BitVec.ofNat 32 k).toNat).getLsbD j := by
  obtain ⟨ps, hps, rfl⟩ := State.memRead_ok.mp h
  rw [State.physAll_flat hpg] at hps
  cases hps
  rw [leNat_testBit _ hj, linAddrs_eq_map, Memory.readAll]
  simp [List.getD_eq_getElem?_getD, hk]

theorem State.memRead_flat {s : State} (hpg : s.pg = false) (kind : AccessKind) (user : Bool) (lin : Word) (n : Nat) :
    s.memRead kind user lin n = .ok (leNat (s.mem.readAll (linAddrs lin n))) := by
  unfold State.memRead
  rw [State.physAll_flat hpg]
  rfl

theorem width_bits_eq_bytes (w : Width) : w.bits = 8 * w.bytes := by cases w <;> rfl

theorem width_bytes_le (w : Width) : w.bytes ≤ 2 ^ 32 := by cases w <;> decide

/-- The bits of an operand of a width, from those of the number read. -/
theorem getLsbD_operand {w : Width} (v : Nat) {k j : Nat} (hk : k < w.bytes) (hj : j < 8) :
    (BitVec.ofNat w.bits v).getLsbD (8 * k + j) = v.testBit (8 * k + j) := by
  have hlt : 8 * k + j < w.bits := by
    rw [width_bits_eq_bytes]
    omega
  rw [BitVec.getLsbD_ofNat]
  simp [hlt]

/-! ## The segment check -/

/-- Settles O10: the check's branches are the rule's, in its order, its Boolean tests read as propositions. -/
theorem segmentCheck : Obligations.SegmentCheck := by
  intro s r wr off n c last fault badType badLimit
  have hfault : segFault r = fault := by cases r <;> rfl
  have htype : c.typeBad wr = true ↔ badType := by
    cases wr <;> simp [SegCache.typeBad, badType]
  have hlimit : c.outside off.toNat last = true ↔ badLimit := by
    by_cases hd : c.type.getLsbD 3 = false ∧ c.type.getLsbD 2 = true
    · simp only [badLimit, hd, SegCache.outside, and_self, if_true, Bool.not_false, Bool.and_self, Bool.or_eq_true,
        decide_eq_true_eq]
    · have : (!c.type.getLsbD 3 && c.type.getLsbD 2) = false := by
        rw [← Bool.not_eq_true, Bool.and_eq_true, Bool.not_eq_true']
        exact hd
      simp only [badLimit, hd, SegCache.outside, this, Bool.false_eq_true, if_false, decide_eq_true_eq]
  have hprot : s.pe = true → c.valid = true → s.segCheck r wr off n =
      if (c.typeBad wr || c.outside off.toNat last) = true then .error (.raise fault)
      else raiseIf (s.misaligned s.cpl off n) .ac := fun hp hv => by
    simp [State.segCheck, State.segCheckAt, hp, hv, hfault, c, last]
  refine ⟨fun hp => ?_, fun hp hv => ?_, fun hp hv hb => ?_, fun hp hv ht hl => ?_, rfl⟩
  · simp [State.segCheck, State.segCheckAt, refuseIf, hp, c, last]
  · simp [State.segCheck, State.segCheckAt, hp, hv, c]
  · rw [hprot hp hv, if_pos (Bool.or_eq_true_iff.mpr (hb.imp htype.mpr hlimit.mpr))]
  · rw [hprot hp hv, if_neg fun h => (Bool.or_eq_true_iff.mp h).elim (ht ∘ htype.mp) (hl ∘ hlimit.mp)]
    simp [raiseIf, State.misaligned, and_assoc]

/-! ## Reading and writing an operand -/

/-- Settles O11: without paging the translations are the linear addresses, so the read gives the bytes there. -/
theorem operandRead : Obligations.OperandRead := by
  intro s w r off hpg at'
  have hbits : ∀ {kind v}, s.memRead kind (isUser s.cpl) (s.linear r off) w.bytes = .ok v → ∀ k < w.bytes, ∀ j < 8,
      (BitVec.ofNat w.bits v).getLsbD (8 * k + j) = (s.mem.read (at' k)).getLsbD j := fun h k hk j hj => by
    rw [getLsbD_operand _ hk hj]
    exact State.memRead_flat_bit hpg h hk hj
  refine ⟨fun hc => ?_, fun hc => ?_⟩
  · have hread := State.memRead_flat hpg .read (isUser s.cpl) (s.linear r off) w.bytes
    refine ⟨_, ?_, hbits hread⟩
    simp only [State.readLoc, State.segRead, hc, hread, except_ok_bind, except_pure]
  · have hread := State.memRead_flat hpg .write (isUser s.cpl) (s.linear r off) w.bytes
    refine ⟨_, ?_, hbits hread⟩
    simp only [State.readDst, State.segReadRmw, hc, hread, except_ok_bind, except_pure]

theorem mem_addDirty (lin : Word) (n : Nat) (d : List Nat) (a : Nat) :
    a ∈ addDirty lin n d ↔ a ∈ d ∨ ∃ k < n, a = (lin + BitVec.ofNat 32 k).toNat := by
  rw [← mem_linAddrs]
  induction n generalizing lin with
  | zero => simp [addDirty, linAddrs]
  | succ n ih =>
    simp only [addDirty, linAddrs, mem_insertAddr, ih, List.mem_cons]
    exact or_left_comm

/-- A store that succeeds: its physical addresses, and memory and the stored addresses after it (R211, R223). -/
theorem State.writeLoc_mem_ok {s t : State} {w : Width} {r : SegReg} {off : Word} {v : BitVec w.bits} :
    s.writeLoc w (.mem r off) v = .ok t ↔ s.segCheck r true off w.bytes = .ok () ∧
      ∃ ps, s.physAll .write (isUser s.cpl) (s.linear r off) w.bytes = .ok ps ∧
        t = { s with
          mem := s.mem.writeAll ps (leBytes w.bytes v.toNat)
          smcDirty := addDirty (s.linear r off) w.bytes s.smcDirty } := by
  rw [State.writeLoc, State.segWrite_ok, State.memWrite_ok]

/-- Without paging the bytes of a store stand at its linear addresses (R205, R211). -/
theorem State.read_of_writeLoc {s t : State} {w : Width} {r : SegReg} {off : Word} {v : BitVec w.bits}
    (hpg : s.pg = false) (hwf : s.mem.wf = true) (h : s.writeLoc w (.mem r off) v = .ok t) {k : Nat} (hk : k < w.bytes) :
    t.mem.read (s.linear r off + BitVec.ofNat 32 k).toNat = v.extractLsb' (8 * k) 8 := by
  have hw := (State.segWrite_ok.mp h).2
  have hread := State.memRead_memWrite hpg hwf (width_bytes_le w) hw .read false
  have hpg' : t.pg = false := by
    have := State.segWrite_only h
    rw [State.pg, this]
    exact hpg
  refine BitVec.eq_of_getLsbD_eq fun j hj => ?_
  rw [← State.memRead_flat_bit hpg' hread hk hj, BitVec.getLsbD_extractLsb', ← width_bits_eq_bytes, Nat.testBit_mod_two_pow,
    BitVec.testBit_toNat]
  have : 8 * k + j < w.bits := by
    rw [width_bits_eq_bytes]
    omega
  simp [hj, this]

/-- Settles O12: a store is one write to memory at translations that do not depend on the value. -/
theorem operandWrite : Obligations.OperandWrite := by
  refine ⟨fun s t w r off v h => ?_, fun s w r off v hpg => ⟨fun hc => ?_, fun e he => ?_, fun e he => ?_⟩,
    fun s w q v => ⟨rfl, rfl, rfl⟩⟩
  · obtain ⟨hc, ps, hps, ht⟩ := State.writeLoc_mem_ok.mp h
    refine ⟨⟨ps, hps, fun a ha => ?_⟩, ?_, fun a => ?_, fun hpg => ?_,
      fun hpg hwf k hk => State.read_of_writeLoc hpg hwf h hk, fun x => ⟨_, State.writeLoc_mem_ok.mpr ⟨hc, ps, hps, rfl⟩⟩⟩
    · rw [ht]
      exact Memory.read_writeAll_other _ _ _ _ ha
    · rw [ht]
    · rw [ht]
      exact mem_addDirty ..
    · rw [State.physAll_flat hpg, linAddrs_eq_map]
  · exact ⟨_, State.writeLoc_mem_ok.mpr ⟨hc, _, State.physAll_flat hpg .., rfl⟩⟩
  · simp only [State.writeLoc, State.segWrite, he, except_error_bind]
  · simp only [State.readLoc, State.segRead, he, except_error_bind]

/-! ## The offset of an operand -/

theorem sibIndex_eq (g : Gpr) (ss : BitVec 2) (i : BitVec 3) :
    sibIndex g ss i = if i = 4#3 then 0#32 else g.get i * BitVec.ofNat 32 (2 ^ ss.toNat) := by
  unfold sibIndex
  simp only [beq_iff_eq]
  split
  · rfl
  · rw [BitVec.shiftLeft_eq_mul_twoPow]
    congr 1
    exact BitVec.eq_of_toNat_eq (by simp)

/-- Settles O13: each form's base and index are the registers its number names. -/
theorem effectiveAddress : Obligations.EffectiveAddress := by
  intro g b h
  refine ⟨fun d p hp => ?_, fun d => ⟨rfl, rfl⟩, fun d => ⟨rfl, rfl, rfl, rfl⟩, fun r d => ⟨rfl, ?_⟩,
    fun ss i r d => ⟨?_, ?_⟩, fun d => ⟨rfl, rfl, fun ss i => ⟨rfl, ?_⟩⟩⟩
  · simp only [List.mem_cons, List.not_mem_nil, or_false] at hp
    rcases hp with rfl | rfl | rfl | rfl | rfl | rfl | rfl <;> exact ⟨rfl, rfl⟩
  · simp only [Addr.segment, Addr.defaultSeg, beq_iff_eq]
  · rw [Addr.offset, sibIndex_eq]
  · simp only [Addr.segment, Addr.defaultSeg, Bool.or_eq_true, beq_iff_eq]
  · rw [Addr.offset, sibIndex_eq]

end Sys2Proof.Machine
end

section
/-! PROOFS. The forms of the ALU operations, of the multiplications and of the shifts (R500, R509 to R512, R700). -/
namespace Sys2Proof.Machine
open Sys2Proof Sys2Proof.Claims

section
variable {i : Instr} {b : Bound} {s : State} {w : Width} {l : Loc}

/-- An ALU operation on a location completes as its kind does (R500). -/
theorem aluRuns_of_aluInto {op : Alu} {x : BitVec w.bits} (hi : exec i s = complete b s (aluInto op w s l x)) :
    AluRuns op i b s w l x := by
  unfold AluRuns
  by_cases hop : op = .cmp ∨ op = .test
  · rw [if_pos hop]
    intro a ha
    have hw : op.writes = false := by rcases hop with rfl | rfl <;> rfl
    simp only [hi, aluInto, hw, Bool.false_eq_true, if_false, ha, except_ok_bind, except_pure]
    exact complete_setFlags (OnlyData.refl s) _
  · rw [if_neg hop]
    have hw : op.writes = true := by
      cases op with
      | cmp | test => simp at hop
      | add | or | adc | sbb | and | sub | xor => rfl
    refine rewrites_of_rmw (hi.trans ?_)
    rw [aluInto, if_pos hw]

theorem aluRuns_of_aluRegRm {op : Alu} {e : Rm} {g : BitVec 3} {x : BitVec w.bits}
    (hi : exec i s = aluRegRm op w b g e s) (hx : s.readLoc w (s.loc b e) = .ok x) : AluRuns op i b s w (.reg g) x := by
  refine aluRuns_of_aluInto (hi.trans ?_)
  rw [aluRegRm, hx, except_ok_bind]

end

/-- Settles O14: every form is one ALU operation on the location and the source its row names. -/
theorem aluForms : Obligations.AluForms := by
  intro b e g s
  simp only [List.forall_mem_cons, List.not_mem_nil, false_implies, implies_true, and_true]
  refine ⟨?_, ?_, ?_, ?_, ?_, ?_, ?_, ?_, ?_⟩
  · and_intros <;> exact aluRuns_of_aluInto rfl
  · and_intros <;> exact aluRuns_of_aluInto rfl
  · and_intros <;> exact fun x hx => aluRuns_of_aluRegRm rfl hx
  · and_intros <;> exact fun x hx => aluRuns_of_aluRegRm rfl hx
  · and_intros <;> exact fun imm => aluRuns_of_aluInto rfl
  · and_intros <;> exact fun imm => aluRuns_of_aluInto rfl
  · and_intros <;> exact fun imm => aluRuns_of_aluInto rfl
  · and_intros <;> exact fun imm => aluRuns_of_aluInto rfl
  · and_intros <;> exact fun imm => aluRuns_of_aluInto rfl

/-! ## Multiplication -/

theorem toNat_unsignedHalves {n : Nat} (a v : BitVec n) :
    (BitVec.ofNat n (a.toNat * v.toNat / 2 ^ n)).toNat * 2 ^ n + (BitVec.ofNat n (a.toNat * v.toNat)).toNat =
      a.toNat * v.toNat := by
  have hlt : a.toNat * v.toNat / 2 ^ n < 2 ^ n := Nat.div_lt_of_lt_mul (Nat.mul_lt_mul'' a.isLt v.isLt)
  rw [BitVec.toNat_ofNat, BitVec.toNat_ofNat, Nat.mod_eq_of_lt hlt, Nat.mul_comm _ (2 ^ n), Nat.div_add_mod]

/-- The truncation of a number is the low part of a wider one. -/
theorem setWidth_ofInt (n : Nat) (x : Int) : (BitVec.ofInt (n + n) x).setWidth n = BitVec.ofInt n x := by
  have hdvd : ((2 ^ n : Nat) : Int) ∣ ((2 ^ (n + n) : Nat) : Int) :=
    Int.natCast_dvd_natCast.mpr (Nat.pow_dvd_pow 2 (by omega))
  refine BitVec.eq_of_toNat_eq ?_
  rw [BitVec.toNat_setWidth, BitVec.toNat_ofInt, BitVec.toNat_ofInt]
  have h := Int.emod_emod_of_dvd x hdvd
  have h1 := Int.emod_nonneg x (b := ((2 ^ (n + n) : Nat) : Int)) (by positivity)
  have h2 := Int.emod_nonneg x (b := ((2 ^ n : Nat) : Int)) (by positivity)
  push_cast at h h1 h2
  zify
  rw [Int.toNat_of_nonneg h1, Int.toNat_of_nonneg h2, h]

/-- The exact signed product fits twice the width. -/
theorem toInt_ofInt_signedProduct {n : Nat} (hn : 0 < n) (a v : BitVec n) :
    (BitVec.ofInt (n + n) (signedProduct a v)).toInt = a.toInt * v.toInt := by
  have habs : ∀ x : BitVec n, |x.toInt| ≤ 2 ^ (n - 1) := fun x =>
    abs_le.mpr ⟨x.le_toInt, by have := x.toInt_le; omega⟩
  have hmul : |a.toInt * v.toInt| ≤ 2 ^ (n - 1) * 2 ^ (n - 1) := by
    rw [abs_mul]
    exact mul_le_mul (habs a) (habs v) (abs_nonneg _) (by positivity)
  have hpow : (2 : Int) ^ (n + n - 1) = 2 * (2 ^ (n - 1) * 2 ^ (n - 1)) := by
    rw [← pow_add, ← pow_succ']
    congr 1
    omega
  have hpos : (0 : Int) < 2 ^ (n - 1) * 2 ^ (n - 1) := by positivity
  obtain ⟨hlo, hhi⟩ := abs_le.mp hmul
  exact BitVec.toInt_ofInt_eq_self (by omega) (by rw [hpow, signedProduct]; omega) (by rw [hpow, signedProduct]; omega)

theorem toInt_signedHalves {n : Nat} (hn : 0 < n) (a v : BitVec n) :
    ((BitVec.ofInt (n + n) (signedProduct a v)).extractLsb' n n).toInt * 2 ^ n +
      ((BitVec.ofInt (n + n) (signedProduct a v)).setWidth n).toNat = a.toInt * v.toInt := by
  rw [← toInt_ofInt_signedProduct hn a v]
  generalize BitVec.ofInt (n + n) (signedProduct a v) = p
  have hp : p = p.extractLsb' n n ++ p.extractLsb' 0 n := BitVec.extractLsb'_append_extractLsb'.symm
  have hz : (n == 0) = false := by simp; omega
  conv_rhs => rw [hp, BitVec.toInt_append, hz]
  rw [BitVec.setWidth_eq_extractLsb' (by omega), mul_comm]
  rfl

/-- A truncated product differs from the exact one by a multiple of 2^n. -/
theorem toInt_ofInt_sub (n : Nat) (x : Int) : ∃ k : Int, (BitVec.ofInt n x).toInt = x + k * 2 ^ n := by
  refine ⟨-Int.bdiv x (2 ^ n), ?_⟩
  rw [BitVec.toInt_ofInt, Int.bmod_eq_self_sub_bdiv_mul]
  push_cast
  ring

theorem productTooBig_eq {n : Nat} (a v : BitVec n) : productTooBig a v =
    decide ((BitVec.ofInt n (a.toInt * v.toInt)).toInt ≠ a.toInt * v.toInt) := by
  rw [productTooBig, bne, Bool.beq_eq_decide_eq, decide_not]
  rfl

section
variable {i : Instr} {b : Bound} {s : State} {w : Width} {e : Rm} {g : BitVec 3} {v : BitVec w.bits}
  (hv : s.readLoc w (s.loc b e) = .ok v)
include hv

theorem mul_runs (hi : exec i s = mulRm w b e s) : ∃ hi lo : BitVec w.bits,
    hi.toNat * 2 ^ w.bits + lo.toNat = (s.reg w 0#3).toNat * v.toNat ∧
      exec i s = .next (done b s ((s.setAccPair w hi lo).setFlags
        (s.flags.mul s.flagDraws (decide (hi.toNat ≠ 0))))) := by
  refine ⟨_, _, toNat_unsignedHalves _ _, ?_⟩
  have hne : ∀ x : BitVec w.bits, (x != 0#_) = decide (x.toNat ≠ 0) := fun x => by rw [bne, beq_zero_eq, decide_not]
  rw [hi, mulRm, hv, ← hne]
  exact complete_eq_done b (State.setAccPair_eip ..)

theorem imul_runs (hi : exec i s = imulRm w b e s) : ∃ hi lo : BitVec w.bits,
    hi.toInt * 2 ^ w.bits + lo.toNat = (s.reg w 0#3).toInt * v.toInt ∧
      exec i s = .next (done b s ((s.setAccPair w hi lo).setFlags
        (s.flags.mul s.flagDraws (decide (lo.toInt ≠ (s.reg w 0#3).toInt * v.toInt))))) := by
  refine ⟨_, _, toInt_signedHalves (Width.bits_pos w) _ _, ?_⟩
  simp only [hi, imulRm, hv, except_ok_bind, except_pure, setWidth_ofInt, productTooBig_eq]
  exact complete_eq_done b (State.setAccPair_eip ..)

/-- An IMUL into a register, its two factors known. -/
theorem imulInto_runs {a x : BitVec w.bits} (hi : exec i s = complete b s (do
      let _ ← s.readLoc w (s.loc b e)
      return imulInto w s g a x)) : ∃ r : BitVec w.bits,
    (∃ k : Int, r.toInt = a.toInt * x.toInt + k * 2 ^ w.bits) ∧
      exec i s = .next (done b s ((s.setReg w g r).setFlags
        (s.flags.mul s.flagDraws (decide (r.toInt ≠ a.toInt * x.toInt))))) := by
  refine ⟨_, toInt_ofInt_sub _ _, ?_⟩
  rw [hi, hv, ← productTooBig_eq]
  exact complete_setFlags (State.setReg_data ..) _

end

/-- Settles O16: the pair holds the exact product, a register its truncation. -/
theorem multiply : Obligations.Multiply := by
  intro b e g s mulFlags
  refine ⟨List.forall_mem_cons.mpr ⟨?_, List.forall_mem_singleton.mpr ?_⟩,
    List.forall_mem_cons.mpr ⟨?_, List.forall_mem_singleton.mpr ?_⟩, fun v hv => ?_, fun v imm hv => ?_,
    fun v imm hv => ?_⟩
  · exact fun v hv => mul_runs hv rfl
  · exact fun v hv => mul_runs hv rfl
  · exact fun v hv => imul_runs hv rfl
  · exact fun v hv => imul_runs hv rfl
  · refine imulInto_runs hv ?_
    rw [show exec (.imulGvEv b g e) s = imulRegRm b.osz.width b g e s from rfl, imulRegRm, hv]
    rfl
  · refine imulInto_runs hv ?_
    rw [show exec (.imulGvEvIz b g e imm) s = imulRegRmImm b.osz.width b g e (imm.setWidth _) s from rfl, imulRegRmImm, hv]
    rfl
  · have hle : 8 ≤ b.osz.width.bits := by cases b.osz <;> decide
    rw [← BitVec.toInt_signExtend_of_le (x := imm) hle]
    refine imulInto_runs hv ?_
    rw [show exec (.imulGvEvIbs b g e imm) s = imulRegRmImm b.osz.width b g e (imm.signExtend _) s from rfl, imulRegRmImm, hv]
    rfl

/-! ## Shifts -/

/-- A shift by a count: with a masked count of 0 the operand is written back, else it is rewritten (R700). -/
def ShiftRuns (b : Bound) (e : Rm) (s : State) (op : ShiftOp) (i : Instr) (w : Width) (count : Byte) : Prop :=
  (count.toNat % 32 = 0 → ∀ d, s.readDst w (s.loc b e) = .ok d →
    ∃ t, s.writeLoc w (s.loc b e) d = .ok t ∧ exec i s = .next (done b s t)) ∧
  (count.toNat % 32 ≠ 0 → Rewrites i b s w (s.loc b e) fun d => op.eval s.flags s.flagDraws d (count.toNat % 32))

theorem shiftRuns_of_shiftRm {b : Bound} {e : Rm} {s : State} {op : ShiftOp} {i : Instr} {w : Width} {count : Byte}
    (hi : exec i s = shiftRm op w b e count s) : ShiftRuns b e s op i w count :=
  ⟨fun hc _ hd => writesBack_of_shiftFrame hi hc hd, fun hc => rewrites_of_shiftFrame hi hc⟩

/-- Settles O21: every form is the shift frame with the count its row names. -/
theorem shiftForms : Obligations.ShiftForms := by
  intro b e imm s runs
  have hruns : runs = ShiftRuns b e s := rfl
  clear_value runs
  subst hruns
  simp only [List.forall_mem_cons, List.not_mem_nil, false_implies, implies_true, and_true]
  refine ⟨?_, ?_, ?_, ?_, ?_, ?_⟩ <;> refine ⟨?_, ?_, ?_, ?_, ?_, ?_, ?_⟩ <;> exact shiftRuns_of_shiftRm rfl

end Sys2Proof.Machine
end

section
/-! PROOFS. The values of the shifts and rotates, bit for bit (R701 to R707). -/
namespace Sys2Proof.Machine
open Sys2Proof

/-! ## Rotations -/

theorem add_mod_cases {i n : Nat} (c : Nat) (hi : i < n) :
    i + c % n < n ∧ (i + c) % n = i + c % n ∨ n ≤ i + c % n ∧ (i + c) % n = i + c % n - n := by
  have hc := Nat.mod_lt c (Nat.zero_lt_of_lt hi)
  rw [Nat.add_mod, Nat.mod_eq_of_lt hi]
  rcases Nat.lt_or_ge (i + c % n) n with h | h
  · exact .inl ⟨h, Nat.mod_eq_of_lt h⟩
  · exact .inr ⟨h, by rw [Nat.mod_eq_sub_mod h, Nat.mod_eq_of_lt (by omega)]⟩

/-- A rotation to the left moves bit i to bit i + c. -/
theorem getLsbD_rotateLeft_add {n : Nat} (x : BitVec n) (c : Nat) {i : Nat} (hi : i < n) :
    (x.rotateLeft c).getLsbD ((i + c) % n) = x.getLsbD i := by
  rw [BitVec.getLsbD_rotateLeft]
  rcases add_mod_cases c hi with ⟨h, hm⟩ | ⟨h, hm⟩
  · simp [hm, h]
  · have hc := Nat.mod_lt c (Nat.zero_lt_of_lt hi)
    have hlt : i + c % n - n < c % n := by omega
    have hback : n - c % n + (i + c % n - n) = i := by omega
    simp [hm, hlt, hback]

/-- A rotation to the right moves bit i + c to bit i. -/
theorem getLsbD_rotateRight_add {n : Nat} (x : BitVec n) (c : Nat) {i : Nat} (hi : i < n) :
    (x.rotateRight c).getLsbD i = x.getLsbD ((i + c) % n) := by
  rw [BitVec.getLsbD_rotateRight]
  rcases add_mod_cases c hi with ⟨h, hm⟩ | ⟨h, hm⟩
  · have hlt : i < n - c % n := by omega
    rw [hm, Nat.add_comm i]
    simp [hlt]
  · have hc := Nat.mod_lt c (Nat.zero_lt_of_lt hi)
    have hlt : ¬i < n - c % n := by omega
    have hback : i - (n - c % n) = i + c % n - n := by omega
    simp [hm, hlt, hi, hback]

section
variable {n : Nat}

/-- Bit i of CF and an operand beside it, CF the top one (R703). -/
theorem getLsbD_cons_eq (cf : Bool) (d : BitVec n) (i : Nat) :
    (BitVec.cons cf d).getLsbD i = if i = n then cf else d.getLsbD i := BitVec.getLsbD_cons ..

/-- A value of one bit more is its low part with its top bit above. -/
theorem getLsbD_eq_of_le (x : BitVec (n + 1)) {i : Nat} (hi : i ≤ n) :
    (if i = n then x.msb else (x.setWidth n).getLsbD i) = x.getLsbD i := by
  split
  · subst_vars
    rw [BitVec.msb_eq_getLsbD_last]
    rfl
  · rw [BitVec.getLsbD_setWidth, decide_eq_true (by omega), Bool.true_and]

/-- An arithmetic shift by the width or more is one by the width. -/
theorem sshiftRight_min (d : BitVec n) (c : Nat) : d.sshiftRight (min c n) = d.sshiftRight c := by
  refine BitVec.eq_of_getLsbD_eq fun i hi => ?_
  rw [BitVec.getLsbD_sshiftRight, BitVec.getLsbD_sshiftRight]
  rcases Nat.le_total c n with h | h
  · rw [min_eq_left h]
  · rw [min_eq_right h, if_neg (by omega), if_neg (by omega)]

end

/-- Settles O22: shifts are products and quotients by a power of two, rotates move the bits of a word, CF beside it
for RCL and RCR. -/
theorem shiftValues : Obligations.ShiftValues := by
  intro w f dr d c h1 h32 n of szp
  have hshift : ∀ (r : BitVec w.bits) (cf o : Bool), f.shift dr c cf o r = szp r cf o := fun r cf o => Flags.shift_eq cf o r
  refine ⟨⟨d <<< c, Prod.ext rfl (hshift ..), ?_⟩, ⟨d >>> c, Prod.ext rfl (hshift ..), ?_⟩,
    ⟨d.sshiftRight (min c n), Prod.ext rfl (hshift ..), ?_⟩,
    ⟨d.rotateLeft c, rfl, fun i hi => getLsbD_rotateLeft_add d c hi⟩,
    ⟨d.rotateRight c, rfl, fun i hi => getLsbD_rotateRight_add d c hi⟩,
    ⟨_, _, rfl, fun i hi => ?_⟩, ⟨_, _, rfl, fun i hi => ?_⟩⟩
  · rw [BitVec.toNat_shiftLeft, Nat.shiftLeft_eq]
  · rw [BitVec.toNat_ushiftRight, Nat.shiftRight_eq_div_pow]
  · rw [sshiftRight_min, BitVec.toInt_sshiftRight, Int.shiftRight_eq_div_pow]
    push_cast
    rfl
  · refine (getLsbD_eq_of_le _ (Nat.lt_succ_iff.mp (Nat.mod_lt _ (Nat.succ_pos _)))).trans
      (Eq.trans ?_ (getLsbD_cons_eq f.cf d i))
    rw [← Nat.add_mod_mod]
    exact getLsbD_rotateLeft_add _ _ (Nat.lt_succ_iff.mpr hi)
  · refine (getLsbD_eq_of_le _ hi).trans (Eq.trans ?_ (getLsbD_cons_eq f.cf d _))
    rw [← Nat.add_mod_mod]
    exact getLsbD_rotateRight_add _ _ (Nat.lt_succ_iff.mpr hi)

end Sys2Proof.Machine
end

section
/-! PROOFS. Conditions, flag control, debug registers, software interrupts, segment loads, and a push with its pop. -/
namespace Sys2Proof.Machine
open Sys2Proof Sys2Proof.Claims

/-! ## Conditions (R460, R630, R826) -/

theorem beq_eq_not_xor (x y : Bool) : (x == y) = !(x ^^ y) := by
  cases x <;> cases y <;> rfl

/-- The sixteen conditions (R460). -/
theorem Flags.cond_table (f : Flags) :
    f.cond 0 = f.of ∧ f.cond 1 = !f.of ∧ f.cond 2 = f.cf ∧ f.cond 3 = !f.cf ∧ f.cond 4 = f.zf ∧ f.cond 5 = !f.zf ∧
    f.cond 6 = (f.cf || f.zf) ∧ f.cond 7 = (!f.cf && !f.zf) ∧ f.cond 8 = f.sf ∧ f.cond 9 = !f.sf ∧ f.cond 10 = f.pf ∧
    f.cond 11 = !f.pf ∧ f.cond 12 = (f.sf ^^ f.of) ∧ f.cond 13 = !(f.sf ^^ f.of) ∧ f.cond 14 = (f.zf || (f.sf ^^ f.of)) ∧
    f.cond 15 = (!f.zf && !(f.sf ^^ f.of)) := by
  have h13 : f.cond 13 = (f.sf == f.of) := rfl
  have h15 : f.cond 15 = (!f.zf && f.sf == f.of) := rfl
  rw [h13, h15, beq_eq_not_xor]
  exact ⟨rfl, rfl, rfl, rfl, rfl, rfl, rfl, rfl, rfl, rfl, rfl, rfl, congrFun₂ Bool.bne_eq_xor _ _, rfl,
    congrArg (f.zf || ·) (congrFun₂ Bool.bne_eq_xor _ _), rfl⟩

/-- Settles O7: SETcc is a store of the condition, CMOVcc a load that the condition keeps or drops. -/
theorem conditions : Obligations.Conditions := by
  refine ⟨Flags.cond_table, fun b cc e g s => ⟨fun t ht => ?_, fun v hv => ?_, fun x hx => ?_⟩⟩
  · rw [← carry_byte] at ht
    exact exec_of_store rfl ht
  · rw [show exec (.cmovccGvEv b cc g e) s = cmovcc b.osz.width b cc g e s from rfl, cmovcc, hv]
    refine complete_data ?_
    split
    · exact State.setReg_data ..
    · exact OnlyData.refl s
  · rw [show exec (.cmovccGvEv b cc g e) s = cmovcc b.osz.width b cc g e s from rfl, cmovcc, hx]
    rfl

/-! ## Flag control and halt (R1100 to R1110) -/

theorem setFlagsTo_eq (f : Flags → Flags) (b : Bound) (s : State) :
    setFlagsTo f b s = .next (done b s (s.setFlags (f s.flags))) :=
  complete_setFlags (OnlyData.refl s) _

theorem State.ioplCheck_allowed {s : State} (h : s.pe = false ∨ s.cpl ≤ s.flags.iopl) : s.ioplCheck = .ok () := by
  rw [State.ioplCheck, raiseIf_ok, Bool.and_eq_false_iff, decide_eq_false_iff_not, BitVec.not_lt]
  exact h

theorem State.ioplCheck_denied {s : State} (hpe : s.pe = true) (h : s.flags.iopl < s.cpl) :
    s.ioplCheck = .error (.raise (.gp 0#32)) := by
  rw [State.ioplCheck, hpe, decide_eq_true h]
  rfl

/-- Settles O44: each instruction is its check, if it has one, and one write. -/
theorem flagControl : Obligations.FlagControl := by
  intro b s f
  refine ⟨setFlagsTo_eq (fun f => { f with cf := false }) b s, setFlagsTo_eq (fun f => { f with cf := true }) b s,
    setFlagsTo_eq (fun f => { f with cf := !f.cf }) b s, setFlagsTo_eq (fun f => { f with df := false }) b s,
    setFlagsTo_eq (fun f => { f with df := true }) b s,
    fun h => ?_, fun hpe h => ?_, fun h => ?_, fun hpe h => ?_⟩
  · have hok := State.ioplCheck_allowed h
    constructor
    · rw [show exec (.cli b) s = cli b s from rfl, cli, hok]
      exact complete_setFlags (OnlyData.refl s) _
    · rw [show exec (.sti b) s = sti b s from rfl, sti, hok]
      exact complete_eq_done b rfl
  · have hno := State.ioplCheck_denied hpe h
    constructor
    · rw [show exec (.cli b) s = cli b s from rfl, cli, hno]
      rfl
    · rw [show exec (.sti b) s = sti b s from rfl, sti, hno]
      rfl
  · rw [exec_hlt, hlt, State.privileged_iff.mpr h]
    exact completeAs_eq_doneAs (by decide) ..
  · rw [exec_hlt]
    exact hlt_of_unprivileged hpe h

/-! ## Debug registers (R1132, R1134) -/

theorem State.debugExists_ok {s : State} {d : BitVec 3} (h : ¬(s.cr4.getLsbD 3 = true ∧ (d = 4#3 ∨ d = 5#3))) :
    s.debugExists d = .ok () := by
  rw [State.debugExists, raiseIf_ok, ← Bool.not_eq_true]
  simpa using h

theorem State.debugExists_raise {s : State} {d : BitVec 3} (hde : s.cr4.getLsbD 3 = true) (hd : d = 4#3 ∨ d = 5#3) :
    s.debugExists d = .error (.raise .ud) := by
  rw [State.debugExists, hde]
  rcases hd with rfl | rfl <;> rfl

section
variable {b : Bound} {s : State} {d r : BitVec 3} (hp : s.pe = false ∨ s.cpl = 0#2)
  (hd : ¬(s.cr4.getLsbD 3 = true ∧ (d = 4#3 ∨ d = 5#3)))
include hp hd

theorem movToDebug_eq : movToDebug b d r s = complete b s (s.writeDebug d (s.gpr.get r) >>= fun t =>
    .ok t.flagsUndefined.serialise) := by
  rw [movToDebug, State.debugExists_ok hd, State.privileged_iff.mpr hp]
  rfl

theorem movFromDebug_eq : movFromDebug b r d s =
    .next (done b s ((s.setReg .w32 r (s.debug d)).setFlags (s.flags.undefined s.flagDraws))) := by
  rw [movFromDebug, State.debugExists_ok hd, State.privileged_iff.mpr hp]
  exact complete_eq_done b rfl

end

theorem complete_writeDr7 (b : Bound) (s : State) (v : Word) : complete b s (s.writeDr7 v >>= fun t =>
      .ok t.flagsUndefined.serialise) = if v &&& 0x20FF#32 ≠ 0#32 then .refused .hwBreakpoint
    else .next (done b s { s with
      dr7 := (v &&& 0xFFFF03FF#32) ||| 0x400#32, flags := s.flags.undefined s.flagDraws, smcDirty := [] }) := by
  by_cases h : v &&& 0x20FF#32 = 0#32
  · rw [if_neg (not_not.mpr h), State.writeDr7, h]
    exact complete_eq_done b rfl
  · rw [if_pos h, State.writeDr7, bne_iff_ne.mpr h]
    rfl

/-- What each number reads, DR4 and DR5 naming DR6 and DR7 (R170). -/
theorem State.debug_table (s : State) : ∀ p ∈ ([(0, s.dr0), (1, s.dr1), (2, s.dr2), (3, s.dr3), (4, s.dr6), (5, s.dr7),
    (6, s.dr6), (7, s.dr7)] : List (BitVec 3 × Word)), s.debug p.1 = p.2 := by
  simp only [List.forall_mem_cons, List.not_mem_nil, false_implies, implies_true, and_true]
  exact ⟨rfl, rfl, rfl, rfl, rfl, rfl, rfl, rfl⟩

/-- Settles O48: past the two checks a write is one register's rule, and DR4 and DR5 name DR6 and DR7. -/
theorem debugRegisters : Obligations.DebugRegisters := by
  intro b s r v free ends
  have hto : ∀ d {t}, s.pe = false ∨ s.cpl = 0#2 → ¬(s.cr4.getLsbD 3 = true ∧ (d = 4#3 ∨ d = 5#3)) →
      s.writeDebug d v = .ok t → t.eip = s.eip → exec (.movDdRd b d r) s = .next (done b s t.flagsUndefined.serialise) := by
    intro d t hp hd ht heip
    rw [exec_movDdRd, movToDebug_eq hp hd, ht]
    exact complete_eq_done b heip
  refine ⟨fun hp => ⟨?_, ?_, ?_, ?_, fun d hd hde => ?_, fun d hd hde => ?_, fun p hmem hd => ?_⟩,
    fun hde d hd => ?_⟩
  · exact hto 0 hp (by simp) rfl rfl
  · exact hto 1 hp (by simp) rfl rfl
  · exact hto 2 hp (by simp) rfl rfl
  · exact hto 3 hp (by simp) rfl rfl
  · simp only [List.mem_cons, List.not_mem_nil, or_false] at hd
    rcases hd with rfl | rfl
    · exact hto 4 hp (by simpa using hde) rfl rfl
    · exact hto 6 hp (by simp) rfl rfl
  · simp only [List.mem_cons, List.not_mem_nil, or_false] at hd
    rw [exec_movDdRd, movToDebug_eq hp (by rcases hd with rfl | rfl <;> simp_all)]
    rcases hd with rfl | rfl
    · exact complete_writeDr7 b s v
    · exact complete_writeDr7 b s v
  · rw [exec_movRdDd, movFromDebug_eq hp hd, State.debug_table s p hmem]
  · have hdr : d = 4#3 ∨ d = 5#3 := by simpa using hd
    rw [exec_movDdRd, exec_movRdDd, movToDebug, movFromDebug, State.debugExists_raise hde hdr]
    exact ⟨rfl, rfl⟩

/-! ## Software interrupts (R970 to R972, R1170, R1173) -/

/-- Settles O40: each of them delivers its event at once. -/
theorem softwareInterrupts : Obligations.SoftwareInterrupts := by
  intro b s v u s'
  refine ⟨fun h => deliver_of_enters h, fun h => deliver_of_enters h, fun hof h => ?_, fun hof => ?_,
    fun h => ⟨deliver_of_enters h, deliver_of_enters h⟩⟩
  · rw [show exec (.into b) s = into b s from rfl, into, if_pos hof]
    exact deliver_of_enters h
  · rw [show exec (.into b) s = into b s from rfl, into, hof]
    exact complete_data (OnlyData.refl s)

end Sys2Proof.Machine
end

section
/-! PROOFS. Segment loads (R811 to R813, R848, R859, R250, R251), and a push with its pop (R840, R841). -/
namespace Sys2Proof.Machine
open Sys2Proof Sys2Proof.Claims

/-! ## A segment register loaded by MOV, POP and the far-pointer loads -/

theorem completeShadowed_eq_doneShadowed (b : Bound) {s t : State} (heip : t.eip = s.eip) :
    completeShadowed b s (.ok t) = .next (doneShadowed b s t) := by
  simp [completeShadowed, finish, retire, doneShadowed, done, State.postponeTrap, State.advance, State.next, heip,
    FlowClass.serialises]

theorem State.loadSegReg_real {s : State} (hpe : s.pe = false) (r : SegReg) (sel : Half) :
    s.loadSegReg r sel = .ok (s.setSeg r ((s.seg r).realLoad sel)) := by
  rw [State.loadSegReg, hpe]
  rfl

theorem State.loadSegReg_eip {s t : State} {r : SegReg} {sel : Half} (h : s.loadSegReg r sel = .ok t) : t.eip = s.eip := by
  obtain ⟨u, hu, ht⟩ := State.loadSegReg_only h
  rw [ht, State.setSeg_eip, hu]

/-- A load of a segment register that shadows interrupts for SS, the load done (R811, R848). -/
theorem segLoad_ends {b : Bound} {s t : State} (r : SegReg) (heip : t.eip = s.eip) :
    (if r == .ss then completeShadowed b s (.ok (t.shadowIf (r == .ss))) else complete b s (.ok (t.shadowIf (r == .ss)))) =
      .next (if r = .ss then doneShadowed b s { t with intShadow := true } else done b s t) := by
  by_cases hr : r = .ss
  · subst hr
    have hshadow : t.shadowIf (SegReg.ss == .ss) = { t with intShadow := true } := by
      simp [State.shadowIf]
    rw [hshadow]
    exact completeShadowed_eq_doneShadowed b heip
  · have hbeq : (r == .ss) = false := beq_eq_false_iff_ne.mpr hr
    have hshadow : t.shadowIf (r == .ss) = t := by
      simp [State.shadowIf, hbeq]
    rw [hshadow, hbeq, if_neg hr]
    exact complete_eq_done b heip

theorem movSegRm_spec {b : Bound} {r : SegReg} {e : Rm} {s t : State} {sel : Half} (hr : r ≠ .cs)
    (hsel : s.readLoc .w16 (s.loc b e) = .ok sel) (ht : s.loadSegReg r sel = .ok t) : movSegRm b r e s =
      .next (if r = .ss then doneShadowed b s { t with intShadow := true } else done b s t) := by
  have hcs : (r == .cs) = false := beq_eq_false_iff_ne.mpr hr
  simp only [movSegRm, hcs, raiseIf_false, except_ok_bind, hsel, ht, except_pure]
  exact segLoad_ends r (State.loadSegReg_eip ht)

theorem popSeg_spec {r : SegReg} {b : Bound} {s t : State} {v : Word} (hv : StackHolds s b.osz 0 v)
    (ht : s.loadSegReg r (v.setWidth 16) = .ok t) :
    let u := t.setSp (stackAt s 0#32 + slots b.osz 1)
    popSeg r b s = .next (if r = .ss then doneShadowed b s { u with intShadow := true } else done b s u) := by
  intro u
  have hu : t.setSp (stackStep t.ss.db s.sp b.osz.delta) = u := by
    rw [State.setSp_stackStep, State.sp_eq, ← slots_one]
  simp only [popSeg, stackRead_top_of_holds hv, except_ok_bind, ht, hu, except_pure]
  have heip : u.eip = t.eip := by
    show (t.setSp _).eip = t.eip
    rw [State.setSp_data t _]
  exact segLoad_ends r (heip.trans (State.loadSegReg_eip ht))

theorem loadFarPointer_spec {r : SegReg} {b : Bound} {g : BitVec 3} {m : Addr} {s t : State} {off sel : Nat}
    (hoff : s.segRead (m.segment b) (m.offset s.gpr) b.osz.bytes = .ok off)
    (hsel : s.segRead (m.segment b) (indexOf b (m.offset s.gpr + BitVec.ofNat 32 b.osz.bytes)) 2 = .ok sel)
    (ht : s.loadSegReg r (BitVec.ofNat 16 sel) = .ok t) :
    loadFarPointer r b g m s = .next (done b s (t.setReg b.osz.width g (BitVec.ofNat _ off))) := by
  have hcut : (BitVec.ofNat 32 off).setWidth b.osz.width.bits = BitVec.ofNat b.osz.width.bits off := by
    cases b.osz <;> simp [BitVec.setWidth_ofNat_of_le, Size.width, Width.bits]
  rw [← offAfter_eq_indexOf] at hsel
  simp only [loadFarPointer, State.readFarPtr, hoff, hsel, except_ok_bind, except_pure, ht, hcut]
  have heip := State.loadSegReg_eip ht
  exact complete_eq_done b heip

/-- Settles O26: each form reads its selector, loads it, and completes by what the load gives. -/
theorem segmentLoads : Obligations.SegmentLoads := by
  intro b e m g s
  refine ⟨fun r sel hpe => State.loadSegReg_real hpe r sel, fun r sel t hr hsel ht => movSegRm_spec hr hsel ht, rfl, ?_, ?_⟩
  · simp only [List.forall_mem_cons, List.not_mem_nil, false_implies, implies_true, and_true]
    exact ⟨fun v t hv ht => popSeg_spec hv ht, fun v t hv ht => popSeg_spec hv ht, fun v t hv ht => popSeg_spec hv ht,
      fun v t hv ht => popSeg_spec hv ht, fun v t hv ht => popSeg_spec hv ht⟩
  · simp only [List.forall_mem_cons, List.not_mem_nil, false_implies, implies_true, and_true]
    and_intros <;> exact fun off sel t hoff hsel ht => loadFarPointer_spec hoff hsel ht

/-! ## The checks of a protected-mode load (R250, R251) -/

section
variable {s t : State} {r : SegReg} {sel : Half} {addr : Word} {d : Desc}

theorem lookup_of_names (h : Names s sel addr d) (x : Exc) : s.lookup sel x = .ok (addr, d) :=
  State.lookup_ok.mpr ⟨h.2.1, h.2.2⟩

theorem State.lookup_outside (h : s.descAddr sel = none) (x : Exc) : s.lookup sel x = .error (.raise x) := by
  rw [State.lookup, h]

/-- The kind and the privilege level of a descriptor that a data segment register takes (R250). -/
def DataOk (s : State) (sel : Half) (d : Desc) : Prop :=
  (d.s = true ∧ (d.type.getLsbD 3 = true → d.type.getLsbD 1 = true)) ∧
    (d.type.getLsbD 3 = true ∧ d.type.getLsbD 2 = true ∨ rpl sel ≤ d.dpl ∧ s.cpl ≤ d.dpl)

/-- What SS takes in protected mode (R251). -/
def StackDataOk (s : State) (sel : Half) (d : Desc) : Prop :=
  rpl sel = s.cpl ∧ d.s = true ∧ d.type.getLsbD 3 = false ∧ d.type.getLsbD 1 = true ∧ d.dpl = s.cpl

theorem dataOk_iff : DataOk s sel d ↔ (!d.s) = false ∧ (d.type.getLsbD 3 && !d.type.getLsbD 1) = false ∧
    ((!d.type.getLsbD 3 || !d.type.getLsbD 2) && (decide (d.dpl < rpl sel) || decide (d.dpl < s.cpl))) = false := by
  unfold DataOk
  rw [← BitVec.not_lt, ← BitVec.not_lt]
  cases d.s <;> cases d.type.getLsbD 3 <;> cases d.type.getLsbD 1 <;> cases d.type.getLsbD 2 <;> simp

theorem State.loadDataSeg_eq (h : Names s sel addr d) : s.loadDataSeg r sel =
    if (!d.s) = true then .error (.raise (.gp (selCode sel)))
    else if (d.type.getLsbD 3 && !d.type.getLsbD 1) = true then .error (.raise (.gp (selCode sel)))
    else if ((!d.type.getLsbD 3 || !d.type.getLsbD 2) && (decide (d.dpl < rpl sel) || decide (d.dpl < s.cpl))) = true then
      .error (.raise (.gp (selCode sel)))
    else if (!d.p) = true then .error (.raise (.np (selCode sel)))
    else s.setAccessed addr d >>= fun t => .ok (t.setSeg r (.ofDesc sel d)) := by
  simp only [State.loadDataSeg, h.1, Bool.false_eq_true, if_false, lookup_of_names h, except_ok_bind, raiseIf_bind,
    except_pure]

/-- The load of a data segment register past its null check (R250). -/
theorem State.loadDataSeg_of_names (h : Names s sel addr d) :
    (¬DataOk s sel d → s.loadDataSeg r sel = .error (.raise (.gp (selCode sel)))) ∧
    (DataOk s sel d → d.p = false → s.loadDataSeg r sel = .error (.raise (.np (selCode sel)))) ∧
    (DataOk s sel d → d.p = true → ∀ t, s.setAccessed addr d = .ok t →
      s.loadDataSeg r sel = .ok (t.setSeg r (.ofDesc sel d))) := by
  rw [State.loadDataSeg_eq h, dataOk_iff]
  refine ⟨fun hno => ?_, fun ⟨h1, h2, h3⟩ hp => ?_, fun ⟨h1, h2, h3⟩ hp t ht => ?_⟩
  · simp only [not_and_or, Bool.not_eq_false] at hno
    rcases hno with hno | hno | hno <;> simp only [hno, if_true, ite_self]
  · simp only [h1, h2, h3, hp, Bool.false_eq_true, if_false, Bool.not_false, if_true]
  · simp only [h1, h2, h3, hp, Bool.false_eq_true, if_false, Bool.not_true, ht, except_ok_bind]

theorem stackDataOk_iff : StackDataOk s sel d ↔
    (rpl sel != s.cpl) = false ∧ (!d.isWritableData) = false ∧ (d.dpl != s.cpl) = false := by
  simp [StackDataOk, and_assoc, Desc.isWritableData]

theorem State.loadSS_eq (h : Names s sel addr d) : s.loadSS sel =
    if (rpl sel != s.cpl) = true then .error (.raise (.gp (selCode sel)))
    else if (!d.isWritableData) = true then .error (.raise (.gp (selCode sel)))
    else if (d.dpl != s.cpl) = true then .error (.raise (.gp (selCode sel)))
    else if (!d.p) = true then .error (.raise (.ss (selCode sel)))
    else s.setAccessed addr d >>= fun t => .ok (t.setSeg .ss (.ofDesc sel d)) := by
  simp only [State.loadSS, h.1, h.2.1, Option.isNone_some, raiseIf_false, lookup_of_names h, except_ok_bind, raiseIf_bind,
    except_pure]

/-- The load of SS past its null check (R251). -/
theorem State.loadSS_of_names (h : Names s sel addr d) :
    (¬StackDataOk s sel d → s.loadSS sel = .error (.raise (.gp (selCode sel)))) ∧
    (StackDataOk s sel d → d.p = false → s.loadSS sel = .error (.raise (.ss (selCode sel)))) ∧
    (StackDataOk s sel d → d.p = true → ∀ t, s.setAccessed addr d = .ok t →
      s.loadSS sel = .ok (t.setSeg .ss (.ofDesc sel d))) := by
  rw [State.loadSS_eq h, stackDataOk_iff]
  refine ⟨fun hno => ?_, fun ⟨h1, h2, h3⟩ hp => ?_, fun ⟨h1, h2, h3⟩ hp t ht => ?_⟩
  · simp only [not_and_or, Bool.not_eq_false] at hno
    rcases hno with hno | hno | hno <;> simp only [hno, if_true, ite_self]
  · simp only [h1, h2, h3, hp, Bool.false_eq_true, if_false, Bool.not_false, if_true]
  · simp only [h1, h2, h3, hp, Bool.false_eq_true, if_false, Bool.not_true, ht, except_ok_bind]

/-- The cache of a present code or data descriptor, field by field (R250). -/
theorem ofDesc_of_present (hs : d.s = true) (hp : d.p = true) : SegCache.ofDesc sel d =
    ⟨sel, d.base, d.limit, d.type ||| 1#4, true, d.dpl, true, d.db, d.g, d.avl, true⟩ := by
  rw [SegCache.ofDesc, hs, hp]

/-- In protected mode SS and the data segment registers are loaded by their own rules (R813). -/
theorem State.loadSegReg_ss (hpe : s.pe = true) : s.loadSegReg .ss sel = s.loadSS sel := by
  rw [State.loadSegReg, hpe]
  rfl

theorem State.loadSegReg_data (hpe : s.pe = true) (hr : r ≠ .ss) : s.loadSegReg r sel = s.loadDataSeg r sel := by
  rw [State.loadSegReg, hpe, beq_eq_false_iff_ne.mpr hr]
  rfl

end

/-- Settles O27: the checks of R250 and R251 are made in order, and what passes them all fills the cache. -/
theorem protectedSegmentLoad : Obligations.ProtectedSegmentLoad := by
  intro s r sel hpe hcs code
  by_cases hr : r = .ss
  · subst hr
    rw [State.loadSegReg_ss hpe]
    refine ⟨fun _ h => absurd rfl h, fun hn _ => ?_, fun hn ha => ?_, fun addr d hd => ?_⟩
    · rw [State.loadSS, hn]
      rfl
    · rw [State.loadSS, hn, ha]
      rfl
    · obtain ⟨hbad, habsent, hok⟩ := State.loadSS_of_names hd
      exact ⟨hbad, habsent, fun hs hp t ht => by rw [hok hs hp t ht, ofDesc_of_present hs.2.1 hp]⟩
  · rw [State.loadSegReg_data hpe hr]
    refine ⟨fun hn _ => ?_, fun _ h => absurd h hr, fun hn ha => ?_, fun addr d hd => ?_⟩
    · rw [State.loadDataSeg, hn]
      rfl
    · rw [State.loadDataSeg, hn, State.lookup_outside ha]
      rfl
    · obtain ⟨hbad, habsent, hok⟩ := State.loadDataSeg_of_names (r := r) hd
      simp only [hr, if_false]
      exact ⟨hbad, habsent, fun hs hp t ht => by rw [hok hs hp t ht, ofDesc_of_present hs.1.1 hp]⟩

/-! ## A push with its pop (R205, R840, R841) -/

/-- The stack offset of a push (R840). -/
def State.pushOffset (s : State) (z : Size) : Word := stackStep s.ss.db s.sp (0#32 - z.delta)

theorem State.pushOffset_stackAt {s t : State} {z : Size} {v : Word} (h : s.push z v = .ok t) :
    stackAt t 0#32 = s.pushOffset z := by
  obtain ⟨u, hu, rfl⟩ := State.push_ok.mp h
  have hss : u.ss = s.ss := by rw [State.segWrite_only hu]
  rw [← State.sp_eq, State.setSp_sp, hss]
  exact stackStep_zero ..

/-- What a push stored is read back at its offset (R205). -/
theorem State.memRead_of_push {s t : State} {z : Size} {v : Word} (hpg : s.pg = false) (hwf : s.mem.wf = true)
    (h : s.push z v = .ok t) (k : AccessKind) (user : Bool) :
    t.memRead k user (t.linear .ss (s.pushOffset z)) z.bytes = .ok (v.toNat % 2 ^ (8 * z.bytes)) := by
  obtain ⟨u, hu, rfl⟩ := State.push_ok.mp h
  have hw := (State.segWrite_ok.mp hu).2
  have hbytes : z.bytes ≤ 2 ^ 32 := by cases z <;> decide
  have hread := State.memRead_memWrite hpg hwf hbytes hw k user
  have hpgu : u.pg = false := by
    rw [State.pg, State.segWrite_only hu]
    exact hpg
  have hlin : (u.setSp (s.pushOffset z)).linear .ss (s.pushOffset z) = s.linear .ss (s.pushOffset z) := by
    rw [State.setSp_only u _, State.segWrite_only hu]
    rfl
  have hpgt : (u.setSp (s.pushOffset z)).pg = false := by
    rw [State.setSp_only u _]
    exact hpgu
  have hmem : (u.setSp (s.pushOffset z)).mem = u.mem := by rw [State.setSp_only u _]
  rw [State.memRead_flat hpgu] at hread
  rw [← State.pushOffset, State.memRead_flat hpgt, hmem, hlin]
  exact hread

theorem setWidth_half_stackStep (y d : Word) :
    (stackStep false y 0#32 + d).setWidth 16 = ((y + d).setWidth 16 : Half) := by
  rw [stackStep_eq, if_neg (by decide), BitVec.setWidth_add _ _ (by decide)]
  simp [BitVec.setWidth_add]

/-- The stack pointer moved down and up again is as before (R122, R840). -/
theorem State.setSp_back (s : State) (z : Size) {u : State} (hss : u.ss = s.ss) (hgpr : u.gpr = s.gpr) :
    let t := u.setSp (s.pushOffset z)
    (t.setSp (stackAt t (slots z 1))).gpr = s.gpr := by
  intro t
  have htss : t.ss = s.ss := by
    show (u.setSp _).ss = s.ss
    rw [State.setSp_only u _]
    exact hss
  have ht : t = u.setSp (s.sp - z.delta) := by
    show u.setSp (stackStep s.ss.db s.sp (0#32 - z.delta)) = _
    rw [← hss, State.setSp_stackStep]
    congr 1
    rw [BitVec.zero_sub, BitVec.sub_eq_add_neg]
  have hsp : t.sp = stackStep s.ss.db (s.sp - z.delta) 0#32 := by rw [ht, State.setSp_sp, hss]
  rw [← stackStep_sp, State.setSp_stackStep, hsp, slots_one]
  refine Gpr.ext_get _ _ fun q => ?_
  by_cases hq : q = 4#3
  · subst hq
    rw [State.setSp_get_sp, htss, ht, State.setSp_get_sp, hss, hgpr]
    cases hdb : s.ss.db with
    | true =>
      rw [if_pos rfl, State.sp, hdb]
      simp [stackStep, Gpr.get]
    | false =>
      have hlow : s.sp.setWidth 16 = ((s.gpr.get 4#3).setWidth 16 : Half) := by
        have := setWidth_half_stackStep s.gpr.esp 0#32
        rw [BitVec.add_zero, BitVec.add_zero] at this
        rw [State.sp, hdb]
        exact this
      simp only [Bool.false_eq_true, if_false]
      rw [setWidth_half_stackStep, BitVec.sub_add_cancel, hlow, BitVec.extractLsb'_append_eq_left,
        setWidth_eq_lowBits _ (by decide)]
      exact BitVec.extractLsb'_append_extractLsb'
  · rw [State.setSp_get_other _ _ hq, State.setSp_get_other _ _ hq, hgpr]

/-- Settles O31: the slot pushed to is the slot at the new stack pointer, and the two moves of the pointer cancel. -/
theorem pushThenPop : Obligations.PushThenPop := by
  intro s t z v hpg hwf h
  refine ⟨fun hc => ?_, ?_⟩
  · rw [State.pushOffset_stackAt h] at hc ⊢
    exact State.segRead_ok.mpr ⟨hc, State.memRead_of_push hpg hwf h _ _⟩
  · obtain ⟨u, hu, rfl⟩ := State.push_ok.mp h
    have hss : u.ss = s.ss := by rw [State.segWrite_only hu]
    have hgpr : u.gpr = s.gpr := by rw [State.segWrite_only hu]
    exact State.setSp_back s z hss hgpr

end Sys2Proof.Machine
end

section
/-! PROOFS. Near transfers (R900 to R913). -/
namespace Sys2Proof.Machine
open Sys2Proof Sys2Proof.Claims

/-- A near transfer: to its target where that lies inside CS, and else its fault or refusal (R900). -/
def Goes (b : Bound) (s : State) (i : Instr) (c : FlowClass) (t : Word) (u : State) : Prop :=
  ((target b.osz t).toNat ≤ s.cs.limit.toNat → exec i s = .next (doneAs c s { u with eip := target b.osz t })) ∧
  (s.cs.limit.toNat < (target b.osz t).toNat → exec i s =
    if s.pe = true then deliverFault s (.gp 0#32) else .refused .realModeLimit)

/-- A near transfer that does not take place (R904 to R909). -/
def Falls (b : Bound) (s : State) (i : Instr) (u : State) : Prop :=
  exec i s = .next (doneAs .notTaken s { u with eip := nextEip b s })

section
variable {b : Bound} {s u : State} {i : Instr} {c : FlowClass} {t : Word}

theorem State.branchTarget_inside {z : Size} (h : (target z t).toNat ≤ s.cs.limit.toNat) :
    s.branchTarget z t = .ok (target z t) := by
  rw [State.branchTarget, Size.cut_eq_target, decide_eq_false (BitVec.not_lt.mpr h)]
  rfl

theorem State.branchTarget_outside {z : Size} (h : s.cs.limit.toNat < (target z t).toNat) :
    s.branchTarget z t = .error (if s.pe = true then .raise (.gp 0#32) else .refuse .realModeLimit) := by
  rw [State.branchTarget, Size.cut_eq_target, decide_eq_true (show s.cs.limit < target z t from h)]
  cases s.pe <;> rfl

/-- A transfer whose target fails its check ends with the fault or the refusal, whatever follows the check. -/
theorem completeAs_branchTarget_outside {α : Type} (f : α → Except Stop State) {r : Except Stop α}
    (hr : r = .error (if s.pe = true then .raise (.gp 0#32) else .refuse .realModeLimit)) :
    completeAs c s (r >>= f) = if s.pe = true then deliverFault s (.gp 0#32) else .refused .realModeLimit := by
  rw [hr]
  cases s.pe <;> rfl

/-- A checked target followed by one write. -/
theorem goes_of_branchTarget (hc : c ≠ .none)
    (hi : exec i s = completeAs c s (s.branchTarget b.osz t >>= fun v => .ok { u with eip := v })) : Goes b s i c t u := by
  refine ⟨fun h => ?_, fun h => ?_⟩
  · rw [hi, State.branchTarget_inside h]
    exact completeAs_eq_doneAs hc ..
  · rw [hi]
    exact completeAs_branchTarget_outside _ (State.branchTarget_outside h)

theorem falls_of_ok (hi : exec i s = completeAs .notTaken s (.ok { u with eip := nextEip b s })) : Falls b s i u :=
  hi.trans (completeAs_eq_doneAs (by decide) ..)

theorem jmpRel_goes {rel : Word} (hi : exec i s = jmpRel b rel s) : Goes b s i .taken (nextEip b s + rel) s :=
  goes_of_branchTarget (by decide) hi

theorem jmpRm_goes {e : Rm} {v : BitVec b.osz.width.bits} (hv : s.readLoc b.osz.width (s.loc b e) = .ok v)
    (hi : exec i s = jmpRm b e s) : Goes b s i .unknownTarget (v.setWidth 32) s := by
  rw [jmpRm, hv] at hi
  exact goes_of_branchTarget (by decide) hi

theorem branchIf_goes {rel : Word} (hi : exec i s = branchIf true b rel s) : Goes b s i .taken (nextEip b s + rel) s :=
  goes_of_branchTarget (by decide) hi

theorem branchIf_falls {rel : Word} (hi : exec i s = branchIf false b rel s) : Falls b s i s := falls_of_ok hi

/-! ## Counted branches (R907 to R909) -/

theorem State.setAddrReg_cut (s : State) (b : Bound) (r : BitVec 3) (v : Word) :
    s.setAddrReg b r (b.asz.cut v) = s.setAddrReg b r v := by
  unfold State.setAddrReg
  rw [Size.cut_eq]
  cases b.asz <;> simp

theorem State.setAddrReg_setEip (s : State) (b : Bound) (r : BitVec 3) (v o : Word) :
    ({ s with eip := o } : State).setAddrReg b r v = { s.setAddrReg b r v with eip := o } := by
  unfold State.setAddrReg
  cases b.asz <;> rfl

/-- The count ends at 0 exactly when it was 1 (R907). -/
theorem State.count_ends (s : State) (b : Bound) :
    (b.asz.cut (s.count b - 1#32) != 0#32) = decide (s.count b ≠ 1#32) := by
  rw [bne, Bool.beq_eq_decide_eq, ← decide_not, decide_eq_decide, State.count, Size.cut_eq, Size.cut_eq]
  split <;> bv_omega

theorem loopIf_eq (extra : Bool) (b : Bound) (rel : Word) (s : State) : loopIf extra b rel s =
    if decide (s.count b ≠ 1#32) && extra then
      completeAs .taken s (s.branchTarget b.osz (nextEip b s + rel) >>= fun v =>
        .ok { s.setAddrReg b 1#3 (s.count b - 1#32) with eip := v })
    else completeAs .notTaken s (.ok { s.setAddrReg b 1#3 (s.count b - 1#32) with eip := nextEip b s }) := by
  simp only [loopIf, State.count_ends, State.setAddrReg_cut, State.advance, State.setAddrReg_setEip, State.branchNear]
  rw [show s.next b = nextEip b s from rfl]
  cases s.branchTarget b.osz (nextEip b s + rel) with
  | error e => rfl
  | ok v =>
    rw [except_ok_bind, except_ok_bind, except_pure, except_map_of_ok, State.setAddrReg_setEip]

theorem loopIf_spec {extra : Bool} {rel : Word} (hi : exec i s = loopIf extra b rel s) :
    ((decide (s.count b ≠ 1#32) && extra) = true →
      Goes b s i .taken (nextEip b s + rel) (s.setAddrReg b 1#3 (s.count b - 1#32))) ∧
    ((decide (s.count b ≠ 1#32) && extra) = false → Falls b s i (s.setAddrReg b 1#3 (s.count b - 1#32))) := by
  rw [loopIf_eq] at hi
  refine ⟨fun h => ?_, fun h => ?_⟩
  · rw [h] at hi
    exact goes_of_branchTarget (by decide) hi
  · rw [h] at hi
    exact falls_of_ok hi

/-! ## CALL and RET (R910 to R913) -/

/-- A near CALL: the return address pushed and the target entered, or nothing done (R910). -/
def Calls (b : Bound) (s : State) (i : Instr) (t : Word) : Prop :=
  ((target b.osz t).toNat ≤ s.cs.limit.toNat → ∀ u, s.push b.osz (nextEip b s) = .ok u →
    exec i s = .next (doneAs .call s { u with eip := target b.osz t })) ∧
  (s.cs.limit.toNat < (target b.osz t).toNat → exec i s =
    if s.pe = true then deliverFault s (.gp 0#32) else .refused .realModeLimit)

theorem calls_of_callNear (hi : exec i s = completeAs .call s (s.callNear b t)) : Calls b s i t := by
  refine ⟨fun h u hu => ?_, fun h => ?_⟩
  · rw [hi, State.callNear, State.branchTarget_inside h, except_ok_bind]
    rw [← show s.next b = nextEip b s from rfl] at hu
    rw [hu]
    exact completeAs_eq_doneAs (by decide) ..
  · rw [hi]
    exact completeAs_branchTarget_outside _ (State.branchTarget_outside h)

theorem target_of_holds {z : Size} {k : Nat} {v : Word} (h : StackHolds s z k v) : target z v = v := by
  obtain ⟨-, hlt⟩ := h
  cases z with
  | s16 =>
    have hlt : v.toNat < 65536 := hlt
    rw [target, if_pos rfl]
    exact BitVec.eq_of_toNat_eq (by simp; omega)
  | s32 => rfl

theorem popped_setEip (s : State) (o d : Word) : popped { s with eip := o } d = { popped s d with eip := o } := by
  unfold popped State.setSp
  cases s.ss.db <;> rfl

theorem retNear_spec {v : Word} (h : StackHolds s b.osz 0 v) (hin : v.toNat ≤ s.cs.limit.toNat) (rel : Half) :
    retNear b rel s = .next (doneAs .ret s { popped s (slots b.osz 1 + rel.setWidth 32) with eip := v }) := by
  have ht := target_of_holds h
  rw [retNear, stackRead_top_of_holds h, except_ok_bind, State.branchNear, State.branchTarget_inside (by rw [ht]; exact hin),
    ht, slots_one]
  refine (completeAs_eq_doneAs (by decide) s _).trans ?_
  rw [State.dropStack_eq]
  exact congrArg (fun u => Host.Outcome.next (doneAs .ret s u)) (popped_setEip s v _)

end

/-- The two outcomes of a test, chosen by a condition that says the same. -/
theorem if_then_else_of {p : Prop} [Decidable p] {x : Bool} {A B : Prop} (ht : x = true → A) (hf : x = false → B)
    (hp : p ↔ x = true) : if p then A else B := by
  split
  · next h => exact ht (hp.mp h)
  · next h => exact hf (Bool.eq_false_iff.mpr (mt hp.mpr h))

theorem sextRel_eq (z : Size) (d : Word) :
    z.sextRel d = if z = .s16 then (d.setWidth 16 : Half).signExtend 32 else d := by
  cases z <;> rfl

/-- Settles O32: each form is a checked target with one write, or the fall to the next instruction. -/
theorem nearTransfers : Obligations.NearTransfers := by
  refine ⟨fun b s cc d8 d e => ?_, fun b s d e rel => ?_⟩
  · intro rel8 relz goes falls count more
    have hrelz : relz = nextEip b s + b.osz.sextRel d := by rw [sextRel_eq]
    have hgoes : goes = Goes b s := rfl
    have hfalls : falls = Falls b s := rfl
    rw [hrelz, hgoes, hfalls]
    refine ⟨jmpRel_goes rfl, jmpRel_goes rfl, fun v hv => jmpRm_goes hv rfl, ?_, ?_, ?_, ?_, ?_⟩
    · split
      · next hcc => exact ⟨branchIf_goes (by rw [← hcc]; rfl), branchIf_goes (by rw [← hcc]; rfl)⟩
      · next hcc =>
        rw [Bool.not_eq_true] at hcc
        exact ⟨branchIf_falls (by rw [← hcc]; rfl), branchIf_falls (by rw [← hcc]; rfl)⟩
    · split
      · next h0 => exact branchIf_goes (by rw [← beq_iff_eq.mpr h0]; rfl)
      · next h0 => exact branchIf_falls (by rw [← beq_eq_false_iff_ne.mpr h0]; rfl)
    · obtain ⟨htaken, hended⟩ := loopIf_spec (show exec (.loopJb b d8) s = loopIf true b (d8.signExtend 32) s from rfl)
      exact if_then_else_of htaken hended (by simp [more])
    · obtain ⟨htaken, hended⟩ :=
        loopIf_spec (show exec (.loopeJb b d8) s = loopIf s.flags.zf b (d8.signExtend 32) s from rfl)
      exact if_then_else_of htaken hended (by simp [more])
    · obtain ⟨htaken, hended⟩ :=
        loopIf_spec (show exec (.loopneJb b d8) s = loopIf (!s.flags.zf) b (d8.signExtend 32) s from rfl)
      exact if_then_else_of htaken hended (by simp [more])
  · intro relz calls
    have hrelz : relz = nextEip b s + b.osz.sextRel d := by rw [sextRel_eq]
    have hcalls : calls = Calls b s := rfl
    rw [hrelz, hcalls]
    refine ⟨calls_of_callNear rfl, fun v hv => calls_of_callNear ?_, fun v hv hin => ⟨?_, retNear_spec hv hin rel⟩⟩
    · rw [show exec (.callEv b e) s = callRm b e s from rfl, callRm, hv]
      rfl
    · have h := retNear_spec hv hin 0#16
      rw [show (0#16 : Half).setWidth 32 = 0#32 from rfl, BitVec.add_zero] at h
      exact h

end Sys2Proof.Machine
end

section
/-! PROOFS. Far JMP and CALL in protected mode, to a code segment and through a call gate (R920 to R923, R929 to R931,
R940 to R942). -/
namespace Sys2Proof.Machine
open Sys2Proof Sys2Proof.Claims

/-! ## Loads of CS and the checks before them -/

section
variable {b : Bound} {s t u v : State} {off addr : Word} {sel : Half} {d g : Desc} {n : BitVec 2}

/-- A load of CS that keeps the privilege level (R929). -/
theorem State.loadCS_same (h : s.setAccessed addr d = .ok t) (hn : s.cpl = n) :
    s.loadCS sel addr d n = .ok { t with cs := loadedCS sel d n } := by
  have hcpl : t.cpl = s.cpl := by
    rw [State.setAccessed_only h]
  rw [State.loadCS, h, except_ok_bind, except_pure, ← hn, ← hcpl]
  rfl

theorem Desc.isCode_of (hs : d.s = true) (hcode : d.type.getLsbD 3 = true) : d.isCode = true := by
  rw [Desc.isCode, hs, hcode]
  rfl

/-- The privilege levels with which a far JMP or CALL may name a code segment (R930). -/
def FarLevelOk (s : State) (sel : Half) (d : Desc) : Prop :=
  if d.type.getLsbD 2 = true then d.dpl ≤ s.cpl else rpl sel ≤ s.cpl ∧ d.dpl = s.cpl

theorem State.checkFarCode_of_level (h : FarLevelOk s sel d) :
    s.checkFarCode sel d = raiseIf (!d.p) (.np (selCode sel)) := by
  rw [FarLevelOk] at h
  rw [State.checkFarCode, Desc.conforming]
  cases hc : d.type.getLsbD 2 with
  | true =>
    rw [if_pos hc] at h
    rw [decide_eq_false (BitVec.not_lt.mpr h)]
    rfl
  | false =>
    rw [if_neg (by rw [hc]; decide)] at h
    obtain ⟨hrpl, hdpl⟩ := h
    rw [decide_eq_false (BitVec.not_lt.mpr hrpl), hdpl, bne_self_eq_false]
    rfl

theorem State.checkFarCode_of_ok (h : FarCodeOk s sel d) : s.checkFarCode sel d = .ok () := by
  obtain ⟨-, -, hp, hlevel⟩ := h
  rw [State.checkFarCode_of_level hlevel, hp]
  rfl

/-! ## The direct transfers (R930, R931) -/

/-- A far JMP past its null and table checks (R930). -/
theorem State.farJump_eq (hpe : s.pe = true) (h : Names s sel addr d) : s.farJump b sel off =
    if d.isCode = true then s.checkFarCode sel d >>= fun _ => raiseIf (decide (d.limit < target b.osz off)) (.gp 0#32) >>=
      fun _ => s.loadCS sel addr d s.cpl >>= fun t => .ok { t with eip := target b.osz off }
    else if d.isCallGate = true then s.gateJump sel d
    else refuseIf d.isTask .taskSwitch >>= fun _ => .error (.raise (.gp (selCode sel))) := by
  obtain ⟨hnull, -⟩ := id h
  simp only [State.farJump, hpe, Bool.not_true, Bool.false_eq_true, if_false, hnull, raiseIf_false, lookup_of_names h,
    except_ok_bind, Size.cut_eq_target, except_pure]

/-- A far CALL past its null and table checks (R931). -/
theorem State.farCall_eq (hpe : s.pe = true) (h : Names s sel addr d) : s.farCall b sel off =
    if d.isCode = true then s.checkFarCode sel d >>= fun _ => s.checkStack (.ss 0#32) b.osz 2 >>= fun _ =>
      raiseIf (decide (d.limit < target b.osz off)) (.gp 0#32) >>= fun _ =>
      s.pushAll b.osz [slot b.osz s.drawHalf2 s.cs.selector, nextEip b s] >>= fun t =>
      t.loadCS sel addr d s.cpl >>= fun u => .ok { u with eip := target b.osz off }
    else if d.isCallGate = true then s.gateCall sel d (nextEip b s)
    else refuseIf d.isTask .taskSwitch >>= fun _ => .error (.raise (.gp (selCode sel))) := by
  obtain ⟨hnull, -⟩ := id h
  simp only [State.farCall, hpe, Bool.not_true, Bool.false_eq_true, if_false, hnull, raiseIf_false, lookup_of_names h,
    except_ok_bind, Size.cut_eq_target, except_pure]
  rfl

/-- Both transfers stop in the same way. -/
def FarStops (b : Bound) (s : State) (off : Word) (sel : Half) (e : Stop) : Prop :=
  s.farJump b sel off = .error e ∧ s.farCall b sel off = .error e

theorem farStops_null (hpe : s.pe = true) (h : isNull sel = true) : FarStops b s off sel (.raise (.gp 0#32)) := by
  constructor
  · simp only [State.farJump, hpe, h]
    rfl
  · simp only [State.farCall, hpe, h]
    rfl

theorem farStops_outside (hpe : s.pe = true) (hnull : isNull sel = false) (h : s.descAddr sel = none) :
    FarStops b s off sel (.raise (.gp (selCode sel))) := by
  constructor
  · simp only [State.farJump, hpe, hnull, State.lookup_outside h]
    rfl
  · simp only [State.farCall, hpe, hnull, State.lookup_outside h]
    rfl

theorem farStops_absent (hpe : s.pe = true) (h : Names s sel addr d) (hs : d.s = true) (hcode : d.type.getLsbD 3 = true)
    (hp : d.p = false) (hlevel : FarLevelOk s sel d) : FarStops b s off sel (.raise (.np (selCode sel))) := by
  constructor
  · rw [State.farJump_eq hpe h, if_pos (Desc.isCode_of hs hcode), State.checkFarCode_of_level hlevel, hp]
    rfl
  · rw [State.farCall_eq hpe h, if_pos (Desc.isCode_of hs hcode), State.checkFarCode_of_level hlevel, hp]
    rfl

theorem farStops_task (hpe : s.pe = true) (h : Names s sel addr d) (hs : d.s = false)
    (htype : d.type ∈ ([0x1, 0x3, 0x5, 0x9, 0xB] : List (BitVec 4))) : FarStops b s off sel (.refuse .taskSwitch) := by
  have hcode : d.isCode = false := by rw [Desc.isCode, hs, Bool.false_and]
  obtain ⟨hgate, htask⟩ : d.isCallGate = false ∧ d.isTask = true := by
    simp only [List.mem_cons, List.not_mem_nil, or_false] at htype
    rw [Desc.isCallGate, Desc.isTask, hs]
    rcases htype with h | h | h | h | h <;> rw [h] <;> exact ⟨rfl, rfl⟩
  constructor
  · rw [State.farJump_eq hpe h, hcode, hgate, htask]
    rfl
  · rw [State.farCall_eq hpe h, hcode, hgate, htask]
    rfl

theorem State.farJump_code (hpe : s.pe = true) (h : Names s sel addr d) (hok : FarCodeOk s sel d)
    (hin : target b.osz off ≤ d.limit) (ht : s.setAccessed addr d = .ok t) : s.farJump b sel off =
    .ok { t with cs := loadedCS sel d s.cpl, eip := target b.osz off } := by
  obtain ⟨hs, hcode, -⟩ := id hok
  rw [State.farJump_eq hpe h, if_pos (Desc.isCode_of hs hcode), State.checkFarCode_of_ok hok,
    decide_eq_false (BitVec.not_lt.mpr hin), State.loadCS_same ht rfl]
  rfl

theorem State.farCall_code (hpe : s.pe = true) (h : Names s sel addr d) (hok : FarCodeOk s sel d)
    (hin : target b.osz off ≤ d.limit) (ht : s.pushAll b.osz [slot b.osz s.drawHalf2 s.cs.selector, nextEip b s] = .ok t)
    (hu : t.setAccessed addr d = .ok u) : s.farCall b sel off =
    .ok { u with cs := loadedCS sel d s.cpl, eip := target b.osz off } := by
  obtain ⟨hs, hcode, -⟩ := id hok
  have hcheck : s.checkStack (.ss 0#32) b.osz 2 = .ok () := State.checkStack_of_pushAll ht _
  have hcpl : t.cpl = s.cpl := by rw [State.pushAll_data ht]
  rw [State.farCall_eq hpe h, if_pos (Desc.isCode_of hs hcode), State.checkFarCode_of_ok hok, hcheck,
    decide_eq_false (BitVec.not_lt.mpr hin), ht]
  simp only [raiseIf_false, except_ok_bind, State.loadCS_same hu hcpl]

/-! ## The instructions -/

/-- A direct far JMP and every indirect one with the same pointer (R920, R921). -/
def Jumps (b : Bound) (s : State) (off : Word) (sel : Half) (r : Result) : Prop :=
  exec (.jmpAp b off sel) s = r ∧ ∀ m : Addr, s.readFarPtr b m = .ok (off, sel) → exec (.jmpMp b m) s = r

/-- The same of CALL (R922, R923). -/
def FarCalls (b : Bound) (s : State) (off : Word) (sel : Half) (r : Result) : Prop :=
  exec (.callAp b off sel) s = r ∧ ∀ m : Addr, s.readFarPtr b m = .ok (off, sel) → exec (.callMp b m) s = r

theorem jumps_of_farJump {r : Except Stop State} (h : s.farJump b sel off = r) :
    Jumps b s off sel (completeAs .unknownTarget s r) := by
  subst h
  refine ⟨rfl, fun m hm => ?_⟩
  rw [exec_jmpMp, jmpFarMem, hm]
  rfl

theorem farCalls_of_farCall {r : Except Stop State} (h : s.farCall b sel off = r) :
    FarCalls b s off sel (completeAs .call s r) := by
  subst h
  refine ⟨rfl, fun m hm => ?_⟩
  rw [exec_callMp, callFarMem, hm]
  rfl

theorem jumps_of_ok (h : s.farJump b sel off = .ok t) : Jumps b s off sel (.next (doneAs .unknownTarget s t)) := by
  rw [← completeAs_eq_doneAs (by decide)]
  exact jumps_of_farJump h

theorem farCalls_of_ok (h : s.farCall b sel off = .ok t) : FarCalls b s off sel (.next (doneAs .call s t)) := by
  rw [← completeAs_eq_doneAs (by decide)]
  exact farCalls_of_farCall h

/-- What a stop of both transfers makes of the four instructions. -/
theorem all_of_farStops {e : Stop} {r : Result} (h : FarStops b s off sel e)
    (hr : ∀ c, completeAs c s (.error e) = r) : exec (.jmpAp b off sel) s = r ∧ exec (.callAp b off sel) s = r ∧
      ∀ m : Addr, s.readFarPtr b m = .ok (off, sel) → exec (.jmpMp b m) s = r ∧ exec (.callMp b m) s = r := by
  obtain ⟨hj, hjm⟩ := hr _ ▸ jumps_of_farJump h.1
  obtain ⟨hc, hcm⟩ := hr _ ▸ farCalls_of_farCall h.2
  exact ⟨hj, hc, fun m hm => ⟨hjm m hm, hcm m hm⟩⟩

/-! ## Call gates (R940 to R942) -/

section
variable {ga : Word} {gt : Desc}

theorem State.gateCheck_of_ok (h : GateOk s sel g gt addr) : s.gateCheck sel g = .ok (addr, gt) := by
  obtain ⟨-, -, hcpl, hrpl, hp, htarget, hs, hcode, hdpl, htp, -⟩ := h
  obtain ⟨hnull, -⟩ := id htarget
  simp only [State.gateCheck, decide_eq_false (BitVec.not_lt.mpr hcpl), decide_eq_false (BitVec.not_lt.mpr hrpl), hp, hnull,
    lookup_of_names htarget, Desc.isCode_of hs hcode, decide_eq_false (BitVec.not_lt.mpr hdpl), htp, Bool.not_true,
    Bool.or_self, raiseIf_false, except_ok_bind, except_pure]

theorem gateOffset_of_ok (h : GateOk s sel g gt addr) : decide (gt.limit < g.gateOffset) = false := by
  obtain ⟨-, -, -, -, -, -, -, -, -, -, hin⟩ := h
  exact decide_eq_false (BitVec.not_lt.mpr hin)

/-- A call gate is no code segment. -/
theorem Desc.isCallGate_of_ok (h : GateOk s sel g gt addr) : g.isCode = false ∧ g.isCallGate = true := by
  obtain ⟨hs, htype, -⟩ := h
  rw [Desc.isCode, Desc.isCallGate, hs]
  rcases htype with h | h <;> rw [h] <;> exact ⟨rfl, rfl⟩

theorem State.farJump_gate (hpe : s.pe = true) (hn : Names s sel ga g) (h : GateOk s sel g gt addr) :
    s.farJump b sel off = raiseIf (!gt.conforming && gt.dpl != s.cpl) (.gp (selCode g.gateSelector)) >>= fun _ =>
      s.loadCS g.gateSelector addr gt s.cpl >>= fun u => .ok { u with eip := g.gateOffset } := by
  obtain ⟨hcode, hgate⟩ := Desc.isCallGate_of_ok h
  rw [State.farJump_eq hpe hn, hcode, hgate, if_neg Bool.false_ne_true, if_pos rfl, State.gateJump, State.gateCheck_of_ok h]
  simp only [gateOffset_of_ok h, raiseIf_false, except_ok_bind, except_pure]

theorem State.farCall_gate (hpe : s.pe = true) (hn : Names s sel ga g) (h : GateOk s sel g gt addr) :
    s.farCall b sel off = if (gt.conforming || gt.dpl == s.cpl) = true then
        s.checkStack (.ss 0#32) g.gateSize 2 >>= fun _ =>
        s.pushAll g.gateSize [slot g.gateSize s.drawHalf2 s.cs.selector, nextEip b s] >>= fun u =>
        u.loadCS g.gateSelector addr gt s.cpl >>= fun v => .ok { v with eip := g.gateOffset }
      else s.gateCallInner g addr gt (nextEip b s) := by
  obtain ⟨hcode, hgate⟩ := Desc.isCallGate_of_ok h
  rw [State.farCall_eq hpe hn, hcode, hgate, if_neg Bool.false_ne_true, if_pos rfl, State.gateCall, State.gateCheck_of_ok h]
  simp only [gateOffset_of_ok h, raiseIf_false, except_ok_bind, except_pure]

/-- A gate's target that a transfer enters at the level it has (R941). -/
theorem Desc.same_of_level (h : gt.type.getLsbD 2 = true ∨ gt.dpl = s.cpl) : (gt.conforming || gt.dpl == s.cpl) = true := by
  rw [Desc.conforming]
  rcases h with h | h
  · rw [h, Bool.true_or]
  · rw [h, beq_self_eq_true, Bool.or_true]

theorem State.farJump_gate_same (hpe : s.pe = true) (hn : Names s sel ga g) (h : GateOk s sel g gt addr)
    (hlevel : gt.type.getLsbD 2 = true ∨ gt.dpl = s.cpl) (hu : s.setAccessed addr gt = .ok u) : s.farJump b sel off =
    .ok { u with cs := loadedCS g.gateSelector gt s.cpl, eip := g.gateOffset } := by
  have hsame : (!gt.conforming && gt.dpl != s.cpl) = false := by
    rw [bne, ← Bool.not_or, Desc.same_of_level hlevel]
    rfl
  rw [State.farJump_gate hpe hn h, hsame, State.loadCS_same hu rfl]
  rfl

theorem State.farCall_gate_same (hpe : s.pe = true) (hn : Names s sel ga g) (h : GateOk s sel g gt addr)
    (hlevel : gt.type.getLsbD 2 = true ∨ gt.dpl = s.cpl)
    (hu : s.pushAll g.gateSize [slot g.gateSize s.drawHalf2 s.cs.selector, nextEip b s] = .ok u)
    (hv : u.setAccessed addr gt = .ok v) : s.farCall b sel off =
    .ok { v with cs := loadedCS g.gateSelector gt s.cpl, eip := g.gateOffset } := by
  have hcheck : s.checkStack (.ss 0#32) g.gateSize 2 = .ok () := State.checkStack_of_pushAll hu _
  have hcpl : u.cpl = s.cpl := by rw [State.pushAll_data hu]
  rw [State.farCall_gate hpe hn h, if_pos (Desc.same_of_level hlevel), hcheck, hu]
  simp only [except_ok_bind, State.loadCS_same hv hcpl]

/-- A target that is neither conforming nor of the same level. -/
theorem Desc.other_of_level (hconf : gt.type.getLsbD 2 = false) (hdpl : gt.dpl < s.cpl) :
    (gt.conforming || gt.dpl == s.cpl) = false := by
  rw [Desc.conforming, hconf, Bool.false_or, beq_eq_false_iff_ne]
  exact BitVec.ne_of_lt hdpl

theorem State.farJump_gate_other (hpe : s.pe = true) (hn : Names s sel ga g) (h : GateOk s sel g gt addr)
    (hconf : gt.type.getLsbD 2 = false) (hdpl : gt.dpl < s.cpl) : s.farJump b sel off =
    .error (.raise (.gp (selCode g.gateSelector))) := by
  have hother : (!gt.conforming && gt.dpl != s.cpl) = true := by
    rw [bne, ← Bool.not_or, Desc.other_of_level hconf hdpl]
    rfl
  rw [State.farJump_gate hpe hn h, hother]
  rfl

theorem State.readParams_length {z : Size} {x : Word} {k : Nat} {ps : List Word} (h : s.readParams z x k = .ok ps) :
    ps.length = k := by
  induction k generalizing x ps with
  | zero =>
    injection h with h
    subst h
    rfl
  | succ k ih =>
    simp only [State.readParams, except_bind_ok, except_pure, Except.ok.injEq] at h
    obtain ⟨y, -, ys, hys, rfl⟩ := h
    rw [List.length_cons, ih hys]

/-- The call into a more privileged level: the frame that is pushed on the new stack passes the check made before it
(R942). -/
theorem State.gateCallInner_ok {ss1 : Half} {esp1 saddr ret : Word} {ps : List Word} {x : State}
    (h : GateOk s sel g gt addr) (htss : s.stackFromTSS gt.dpl 0#32 = .ok (ss1, esp1))
    (hstack : StackOk s ss1 gt.dpl saddr d) (hps : s.readParams g.gateSize 0#32 g.gateCount = .ok ps)
    (hu : s.setAccessed saddr d = .ok u)
    (hv : (({ u with ss := .ofDesc ss1 d, cpl := gt.dpl } : State).setSp esp1).pushAll g.gateSize
      ([slot g.gateSize s.drawHalf s.ss.selector, stackAt s 0#32] ++ ps.reverse
        ++ [slot g.gateSize s.drawHalf2 s.cs.selector, ret]) = .ok v)
    (hx : v.setAccessed addr gt = .ok x) : s.gateCallInner g addr gt ret =
    .ok { x with cs := loadedCS g.gateSelector gt gt.dpl, cpl := gt.dpl, eip := g.gateOffset } := by
  obtain ⟨hcr0, hflags, hview⟩ : u.cr0 = s.cr0 ∧ u.flags = s.flags ∧ u.pagingView = s.pagingView := by
    rw [State.setAccessed_only hu]
    exact ⟨rfl, rfl, rfl⟩
  have hcheck : s.checkPushes (.ofDesc ss1 d) (.ss (selCode ss1)) gt.dpl g.gateSize (stackStep d.db esp1 0#32)
      (4 + g.gateCount) = .ok () := by
    rw [← State.checkPushes_of_switched (t := { u with ss := .ofDesc ss1 d, cpl := gt.dpl }) hcr0 hflags hview hv
      (.ss (selCode ss1)), List.length_append, List.length_append, List.length_reverse, State.readParams_length hps]
    refine congrArg (State.checkPushes s _ _ _ _ _) ?_
    change 4 + g.gateCount = 2 + g.gateCount + 2
    omega
  rw [← State.sp_eq] at hv
  simp only [State.gateCallInner, State.innerStack_ok htss hstack, hcheck, hps, gateOffset_of_ok h, raiseIf_false,
    State.loadStack, hu, hv, State.loadCS, hx, except_ok_bind, except_pure, loadedCS]

end

end

/-- Settles O34: a selector that names no code segment the transfer may enter stops both; one that does is entered. -/
theorem farTransfersProtected : Obligations.FarTransfersProtected := by
  intro b s off sel hpe o code both
  refine ⟨fun h => all_of_farStops (farStops_null hpe h) fun _ => rfl,
    fun hnull h => all_of_farStops (farStops_outside hpe hnull h) fun _ => rfl, fun addr d hn => ⟨fun hok hin => ?_,
    fun hs hcode hp hlevel => all_of_farStops (farStops_absent hpe hn hs hcode hp hlevel) fun _ => rfl,
    fun hs htype => all_of_farStops (farStops_task hpe hn hs htype) fun _ => rfl⟩⟩
  exact ⟨fun t ht => jumps_of_ok (State.farJump_code hpe hn hok hin ht),
    fun t u ht hu => farCalls_of_ok (State.farCall_code hpe hn hok hin ht hu)⟩

/-- Settles O35: a gate that passes its checks is entered at the same level, or by the switch of stacks. -/
theorem callGates : Obligations.CallGates := by
  intro b s off sel ga g gt addr hpe hn h z ts jumps calls
  refine ⟨fun hlevel => ⟨fun u hu => jumps_of_ok (State.farJump_gate_same hpe hn h hlevel hu),
    fun u v hu hv => farCalls_of_ok (State.farCall_gate_same hpe hn h hlevel hu hv)⟩, fun hconf hdpl => ⟨?_, ?_⟩⟩
  · exact jumps_of_farJump (State.farJump_gate_other hpe hn h hconf hdpl)
  · intro ss1 esp1 saddr d ps u v x htss hstack hps hu hv hx
    refine farCalls_of_ok ?_
    rw [State.farCall_gate hpe hn h, Desc.other_of_level hconf hdpl, if_neg Bool.false_ne_true]
    exact State.gateCallInner_ok h htss hstack hps hu hv hx

end Sys2Proof.Machine
end

section
/-! PROOFS. RET far and IRET in protected mode (R253, R924, R925, R950, R961). -/
namespace Sys2Proof.Machine
open Sys2Proof Sys2Proof.Claims

section
variable {b : Bound} {s t v : State} {sel ss2 : Half} {addr saddr ip x esp2 y fl : Word} {d sd : Desc}

/-! ## The selectors of the frame -/

theorem State.returnTarget_of_ok (h : ReturnOk s sel addr d) : s.returnTarget sel = .ok (addr, d) := by
  obtain ⟨hn, hs, hcode, hcpl, hp, hlevel⟩ := h
  obtain ⟨hnull, -⟩ := id hn
  simp only [State.returnTarget, hnull, lookup_of_names hn, Desc.isCode_of hs hcode,
    decide_eq_false (BitVec.not_lt.mpr hcpl), hp, Bool.not_true, raiseIf_false, except_ok_bind, except_pure, Desc.conforming]
  cases hc : d.type.getLsbD 2 with
  | true =>
    rw [if_pos hc] at hlevel
    rw [decide_eq_false (BitVec.not_lt.mpr hlevel)]
    rfl
  | false =>
    rw [if_neg (by rw [hc]; decide)] at hlevel
    rw [hlevel, bne_self_eq_false]
    rfl

theorem State.returnStack_of_ok {n : BitVec 2} (h : StackOk s sel n saddr sd) : s.returnStack sel n = .ok (saddr, sd) := by
  obtain ⟨hn, hrpl, hdpl, hs, hdata, hwrite, hp⟩ := h
  obtain ⟨hnull, -⟩ := id hn
  have hgood : sd.badStack sel n = false := by
    simp only [Desc.badStack, Desc.isWritableData, hrpl, hdpl, hs, hdata, hwrite, bne_self_eq_false]
    rfl
  simp only [State.returnStack, hnull, lookup_of_names hn, hgood, hp, Bool.not_true, raiseIf_false, except_ok_bind,
    except_pure]

/-- The two loads of a return to an outer level, of CS and then of SS (R950). -/
theorem State.loadStack_after_loadCS {n : BitVec 2} (ht : s.setAccessed addr d = .ok t)
    (hv : ({ t with cs := loadedCS sel d n, cpl := n } : State).setAccessed saddr sd = .ok v) :
    (s.loadCS sel addr d n >>= fun t => t.loadStack ss2 saddr sd) = .ok { v with ss := .ofDesc ss2 sd } := by
  rw [State.loadCS, ht]
  exact State.loadStack_ok.mpr ⟨v, hv, rfl⟩

/-- What a return to the outer level n makes of its data segments (R253), its stack pointer written. -/
def nulledFor (n : BitVec 2) (u : State) : State :=
  { u with es := u.es.nulled n, ds := u.ds.nulled n, fs := u.fs.nulled n, gs := u.gs.nulled n }

theorem State.nullOuter_eq {n : BitVec 2} (h : s.cpl = n) : s.nullOuter = nulledFor n s := by
  subst h
  rfl

theorem State.nullOuter_of_cpl {n : BitVec 2} (h : s.cpl = n) (p : Word) :
    (s.setSp p).nullOuter = nulledFor n (s.setSp p) := by
  obtain ⟨-, hcpl, -⟩ := s.setSp_keeps p
  exact State.nullOuter_eq (hcpl.trans h)

/-- The stack pointer of an outer level is written at the width of its own SS, then the data segments are nulled. -/
theorem State.nullOuter_setSp {n : BitVec 2} (h : s.cpl = n) (p k : Word) :
    (s.setSp (stackStep s.ss.db p k)).nullOuter = nulledFor n (s.setSp (p + k)) := by
  rw [State.setSp_stackStep, State.nullOuter_of_cpl h]

theorem State.cpl_after_loads {n : BitVec 2}
    (hv : ({ t with cs := loadedCS sel d n, cpl := n } : State).setAccessed saddr sd = .ok v) : v.cpl = n := by
  rw [State.setAccessed_only hv]

/-! ## The returns -/

/-- The stack reads of a frame, released bytes included. -/
theorem stackRead_of_segRead {z : Size} {k : Word} (h : s.segRead .ss (stackAt s k) z.bytes = .ok x.toNat) :
    s.stackRead z k = .ok x := by
  rw [State.stackRead, stackStep_sp, h, except_ok_bind, BitVec.ofNat_toNat, BitVec.setWidth_eq, except_pure]

/-- The checks of IRET before it reads its selector (R961). -/
theorem iret_may_return (hvm : ¬(b.osz = .s32 ∧ fl.getLsbD 17 = true ∧ s.cpl = 0#2)) :
    (b.osz == .s32 && fl.getLsbD 17 && s.cpl == 0#2) = false := by
  rw [Bool.eq_false_iff, Ne, Bool.and_eq_true, Bool.and_eq_true, beq_iff_eq, beq_iff_eq, and_assoc]
  exact hvm

section
variable (hpe : s.pe = true) (hip : StackHolds s b.osz 0 ip) (hx : StackHolds s b.osz 1 x)
  (hok : ReturnOk s (x.setWidth 16) addr d) (hin : ip ≤ d.limit)
include hpe hip hx hok hin

theorem State.farReturn_same (hlevel : rpl (x.setWidth 16) = s.cpl) (ht : s.setAccessed addr d = .ok t) (rel : Half) :
    s.farReturn b.osz rel = .ok (popped { t with cs := loadedCS (x.setWidth 16) d s.cpl, eip := ip }
      (slots b.osz 2 + rel.setWidth 32)) := by
  simp only [State.farReturn, stackRead_top_of_holds hip, stackRead_second_of_holds hx, hpe, Bool.not_true,
    Bool.false_eq_true, if_false, except_ok_bind, State.returnTarget_of_ok hok, hlevel, beq_self_eq_true, if_true,
    Size.cut_eq_target, target_of_holds hip, decide_eq_false (BitVec.not_lt.mpr hin), raiseIf_false,
    State.loadCS_same ht rfl, except_pure, State.dropStack_eq, Size.delta_mul]

theorem State.farReturn_outer (hlevel : s.cpl < rpl (x.setWidth 16)) (rel : Half)
    (hstack : StackOk s (y.setWidth 16) (rpl (x.setWidth 16)) saddr sd) (ht : s.setAccessed addr d = .ok t)
    (hv : ({ t with cs := loadedCS (x.setWidth 16) d (rpl (x.setWidth 16)), cpl := rpl (x.setWidth 16) } : State).setAccessed
      saddr sd = .ok v)
    (hesp : s.stackRead b.osz (slots b.osz 2 + rel.setWidth 32) = .ok esp2)
    (hy : s.stackRead b.osz (slots b.osz 3 + rel.setWidth 32) = .ok y) :
    s.farReturn b.osz rel = .ok (nulledFor (rpl (x.setWidth 16))
      (({ v with eip := ip, ss := .ofDesc (y.setWidth 16) sd } : State).setSp (esp2 + rel.setWidth 32))) := by
  have hne : (rpl (x.setWidth 16) == s.cpl) = false := beq_eq_false_iff_ne.mpr (BitVec.ne_of_lt hlevel).symm
  have hcpl := State.cpl_after_loads hv
  have hloads := State.loadStack_after_loadCS (ss2 := y.setWidth 16) ht hv
  simp only [State.farReturn, stackRead_top_of_holds hip, stackRead_second_of_holds hx, hpe, Bool.not_true,
    Bool.false_eq_true, if_false, except_ok_bind, State.returnTarget_of_ok hok, hne, Size.delta_mul, hesp, hy,
    State.returnStack_of_ok hstack, Size.cut_eq_target, target_of_holds hip, decide_eq_false (BitVec.not_lt.mpr hin),
    raiseIf_false, except_pure]
  rw [← bind_assoc, hloads, except_ok_bind]
  exact congrArg Except.ok (State.nullOuter_setSp (s := { v with eip := ip, ss := .ofDesc (y.setWidth 16) sd })
    hcpl esp2 (rel.setWidth 32))

section
variable (hnt : s.flags.nt = false) (hfl : StackHolds s b.osz 2 fl)
  (hvm : ¬(b.osz = .s32 ∧ fl.getLsbD 17 = true ∧ s.cpl = 0#2))
include hnt hfl hvm

omit hpe in
theorem State.iretProt_same (hlevel : rpl (x.setWidth 16) = s.cpl) (ht : s.setAccessed addr d = .ok t) :
    s.iretProt b.osz = .ok (popped { t with
      cs := loadedCS (x.setWidth 16) d s.cpl, eip := ip, flags := s.flags.setImage fl (s.iretMask b.osz)
      nmiBlocked := false } (slots b.osz 3)) := by
  have hat : ∀ k, stackAt t k = stackAt s k := fun k => by
    rw [State.setAccessed_only ht]
    rfl
  simp only [State.iretProt, hnt, stackRead_top_of_holds hip, stackRead_second_of_holds hx, Size.delta_mul,
    stackRead_of_holds hfl, iret_may_return hvm, refuseIf_bind, Bool.false_eq_true, if_false, except_ok_bind,
    State.returnTarget_of_ok hok, hlevel, beq_self_eq_true, if_true, Size.cut_eq_target, target_of_holds hip,
    decide_eq_false (BitVec.not_lt.mpr hin), raiseIf_false, State.loadCS_same ht rfl, except_pure, stackStep_sp]
  rw [← hat]
  rfl

omit hpe in
theorem State.iretProt_outer (hlevel : s.cpl < rpl (x.setWidth 16))
    (hstack : StackOk s (y.setWidth 16) (rpl (x.setWidth 16)) saddr sd) (ht : s.setAccessed addr d = .ok t)
    (hv : ({ t with cs := loadedCS (x.setWidth 16) d (rpl (x.setWidth 16)), cpl := rpl (x.setWidth 16) } : State).setAccessed
      saddr sd = .ok v)
    (hesp : StackHolds s b.osz 3 esp2) (hy : StackHolds s b.osz 4 y) :
    s.iretProt b.osz = .ok (nulledFor (rpl (x.setWidth 16)) (({ v with
      eip := ip, ss := .ofDesc (y.setWidth 16) sd, flags := s.flags.setImage fl (s.iretMask b.osz)
      nmiBlocked := false } : State).setSp esp2)) := by
  have hne : (rpl (x.setWidth 16) == s.cpl) = false := beq_eq_false_iff_ne.mpr (BitVec.ne_of_lt hlevel).symm
  have hcpl := State.cpl_after_loads hv
  have hloads := State.loadStack_after_loadCS (ss2 := y.setWidth 16) ht hv
  simp only [State.iretProt, hnt, stackRead_top_of_holds hip, stackRead_second_of_holds hx, Size.delta_mul,
    stackRead_of_holds hfl, iret_may_return hvm, refuseIf_bind, Bool.false_eq_true, if_false, except_ok_bind,
    State.returnTarget_of_ok hok, hne, stackRead_of_holds hesp, stackRead_of_holds hy, State.returnStack_of_ok hstack,
    Size.cut_eq_target, target_of_holds hip, decide_eq_false (BitVec.not_lt.mpr hin), raiseIf_false, except_pure]
  rw [← bind_assoc, hloads, except_ok_bind]
  exact congrArg Except.ok (State.nullOuter_of_cpl (s := { v with
    eip := ip, ss := .ofDesc (y.setWidth 16) sd, flags := s.flags.setImage fl (s.iretMask b.osz), nmiBlocked := false })
    hcpl esp2)

end
end
end

/-- Settles O36: a frame that passes its checks is returned through, to the same level or to an outer one. -/
theorem farReturnsProtected : Obligations.FarReturnsProtected := by
  intro b s ip x rel addr d hpe hip hx hok hin sel out nulls
  have iret_of_ok : ∀ u, s.iretProt b.osz = .ok u → exec (.iret b) s = .next (doneAs .ret s u) := fun u h => by
    rw [exec_iret, iret, hpe, ← completeAs_eq_doneAs (by decide), ← h]
    rfl
  have retf_of_ok : ∀ r u, s.farReturn b.osz r = .ok u → exec (.retfIw b r) s = .next (doneAs .ret s u) := fun r u h => by
    rw [exec_retfIw, retFar, h]
    exact completeAs_eq_doneAs (by decide) s u
  have hzero : ∀ k : Word, k + (0#16 : Half).setWidth 32 = k := BitVec.add_zero
  refine ⟨fun hlevel t ht => ⟨?_, ?_, ?_⟩, fun hlevel esp2 y saddr sd t v hstack ht hv => ⟨?_, ?_, ?_⟩⟩
  · rw [← hzero (slots b.osz 2)]
    exact retf_of_ok _ _ (State.farReturn_same hpe hip hx hok hin hlevel ht 0#16)
  · exact retf_of_ok _ _ (State.farReturn_same hpe hip hx hok hin hlevel ht rel)
  · exact fun fl hnt hfl hvm => iret_of_ok _ (State.iretProt_same (t := t) hip hx hok hin hnt hfl hvm hlevel ht)
  · intro hesp hy
    have h := State.farReturn_outer hpe hip hx hok hin hlevel 0#16 hstack ht hv
      (by rw [hzero]; exact stackRead_of_holds hesp) (by rw [hzero]; exact stackRead_of_holds hy)
    rw [hzero] at h
    exact retf_of_ok _ _ h
  · exact fun hesp hy => retf_of_ok _ _ (State.farReturn_outer hpe hip hx hok hin hlevel rel hstack ht hv
      (stackRead_of_segRead hesp) (stackRead_of_segRead hy))
  · exact fun fl hnt hfl hvm hesp hy =>
      iret_of_ok _ (State.iretProt_outer (t := t) (v := v) hip hx hok hin hnt hfl hvm hlevel hstack ht hv hesp hy)

end Sys2Proof.Machine
end

section
/-! PROOFS. Faults inside a delivery (R1310, R1330, R1331). -/
namespace Sys2Proof.Machine
open Sys2Proof Sys2Proof.Claims

/-! ## The classes of R1331 -/

/-- The contributory vectors (R1331). -/
def Contributory (v : Byte) : Prop := v ∈ ([0, 10, 11, 12, 13] : List Byte)

theorem vectorClass_contributory (v : Byte) : vectorClass v = .contributory ↔ Contributory v := by
  unfold Contributory
  revert v
  decide

theorem vectorClass_pageFault (v : Byte) : vectorClass v = .pageFault ↔ v = 14 := by
  revert v
  decide

theorem vectorClass_double (v : Byte) : vectorClass v = .double ↔ v = 8 := by
  revert v
  decide

section
variable {s : State} {e : Event} {eip : Word} {x : Exc} {n : Nat}

/-- The event was raised as an exception: INT n, INTR and NMI are benign whatever their vector (R1331). -/
def Event.IsExc (e : Event) : Prop := e.kind = .fault ∨ e.kind = .trap

theorem Event.cls_of_isExc (h : e.IsExc) : e.cls = vectorClass e.vector := by
  rw [Event.cls]
  rcases h with h | h <;> rw [h]

theorem Event.isExc_of_cls (h : e.cls ≠ .benign) : e.IsExc := by
  rw [Event.cls] at h
  cases hk : e.kind with
  | fault => exact .inl hk
  | trap => exact .inr hk
  | soft => exact absurd (by rw [hk]) h
  | intr => exact absurd (by rw [hk]) h
  | nmi => exact absurd (by rw [hk]) h

theorem Event.cls_eq_iff {c : EventClass} (hc : c ≠ .benign) : e.cls = c ↔ e.IsExc ∧ vectorClass e.vector = c := by
  constructor
  · intro h
    have hexc := Event.isExc_of_cls (h ▸ hc)
    exact ⟨hexc, Event.cls_of_isExc hexc ▸ h⟩
  · exact fun ⟨hexc, h⟩ => (Event.cls_of_isExc hexc).trans h

theorem Exc.event_cls (x : Exc) : x.event.cls = vectorClass x.event.vector := by cases x <;> rfl

/-- The pairs of R1331 that make a double fault. -/
def MakesDouble (e : Event) (x : Exc) : Prop :=
  Contributory e.vector ∧ Contributory x.event.vector ∨
    e.vector = 14 ∧ (Contributory x.event.vector ∨ x.event.vector = 14)

theorem doubleFaults_iff : doubleFaults e.cls x.event.cls = true ↔ e.IsExc ∧ MakesDouble e x := by
  simp only [doubleFaults, Bool.or_eq_true, Bool.and_eq_true, beq_iff_eq,
    Event.cls_eq_iff (c := .contributory) (by decide), Event.cls_eq_iff (c := .pageFault) (by decide), Exc.event_cls, vectorClass_contributory, vectorClass_pageFault,
    MakesDouble]
  tauto

theorem Event.cls_double_iff : (e.cls == .double) = true ↔ e.IsExc ∧ e.vector = 8 := by
  rw [beq_iff_eq, Event.cls_eq_iff (by decide), vectorClass_double]

/-- A double fault is of a class of its own. -/
theorem not_double_of_makesDouble (h : MakesDouble e x) : e.vector ≠ 8 := by
  rcases h with ⟨h, -⟩ | ⟨h, -⟩
  · intro h8
    rw [h8] at h
    exact absurd h (by unfold Contributory; decide)
  · rw [h]
    decide

/-! ## A fault inside an attempt -/

/-- What the chain of deliveries makes of a fault inside one attempt (R1331). -/
theorem deliverN_of_raise (h : (s.beginDelivery e).tryDeliver e eip = .error (.raise x)) : deliverN (n + 1) s e eip =
    if (e.cls == .double) = true then .next (((s.beginDelivery e).keepAccessed e).noteFault x).shutDown
    else if doubleFaults e.cls x.event.cls = true then
      deliverN n (((s.beginDelivery e).keepAccessed e).noteFault x) .doubleFault (nestedEip s eip x)
    else deliverN n (((s.beginDelivery e).keepAccessed e).noteFault x) x.event (nestedEip s eip x) := by
  simp only [deliverN, h]

/-! ## What the attempt leaves written (log 23) -/

variable {g t : Desc} {addr : Word}

theorem State.keepAccessed_real (hpe : s.pe = false) : s.keepAccessed e = s := by
  rw [State.keepAccessed, hpe]

/-- Whether the handler's code segment makes the delivery switch stacks, as R1314 words it. -/
theorem State.entersInner_same (h : t.type.getLsbD 2 = true ∨ t.dpl = s.cpl) : s.entersInner t = false := by
  rw [State.entersInner, Desc.conforming]
  rcases h with h | h
  · rw [h]
    rfl
  · rw [h, decide_eq_false (BitVec.lt_irrefl _), Bool.and_false]

theorem State.entersInner_inner (hconf : t.type.getLsbD 2 = false) (hdpl : t.dpl < s.cpl) : s.entersInner t = true := by
  rw [State.entersInner, Desc.conforming, hconf, decide_eq_true hdpl]
  rfl

theorem State.keepAccessed_same (hpe : s.pe = true) (h : VectorOk s e g t addr) (hsame : s.entersInner t = false) :
    s.keepAccessed e = s := by
  simp only [State.keepAccessed, hpe, State.idtGate_of_vectorOk h, State.gateTarget_of_vectorOk h, except_ok_bind, hsame,
    Bool.false_eq_true, if_false, except_pure]

/-- The accessed bit of the new stack's descriptor, once the checks of the switch are passed (R1315). -/
theorem State.keepAccessed_inner {ss1 : Half} {esp1 saddr : Word} {d : Desc} {u : State} (hpe : s.pe = true)
    (h : VectorOk s e g t addr) (hinner : s.entersInner t = true) (htss : s.stackFromTSS t.dpl e.ext = .ok (ss1, esp1))
    (hstack : StackOk s ss1 t.dpl saddr d) (hu : s.setAccessed saddr d = .ok u)
    (hcheck : s.checkPushes (.ofDesc ss1 d) (.ss (selCode ss1 + e.ext)) t.dpl g.gateSize (stackStep d.db esp1 0#32)
      (5 + e.errSlots.length) = .ok ()) : s.keepAccessed e = u := by
  have hoff := decide_eq_false (BitVec.not_lt.mpr (gateOffset_le_of_vectorOk h))
  simp only [State.keepAccessed, hpe, State.idtGate_of_vectorOk h, State.gateTarget_of_vectorOk h, except_ok_bind, hinner,
    if_true, State.innerTarget, State.innerStack_ok htss hstack, hcheck, hoff, raiseIf_false, except_pure, hu]

end

end Sys2Proof.Machine

namespace Sys2Proof.Claims
open Sys2Proof Sys2Proof.Machine

/-- Settles O39: the classes choose what the chain does, and what stays written is the accessed bit of the new stack. -/
theorem doubleFaults : Obligations.DoubleFaults := by
  constructor
  case right =>
    exact fun s e => ⟨State.keepAccessed_real, s.keepAccessed_cases e, fun g t addr hpe h =>
      ⟨fun hsame => State.keepAccessed_same hpe h (State.entersInner_same hsame),
      fun hconf hdpl ss1 esp1 saddr d u htss hstack hu hcheck =>
        State.keepAccessed_inner hpe h (State.entersInner_inner hconf hdpl) htss hstack hu hcheck⟩⟩
  intro s e eip x n s1 htry s2 saved exn contributory
  have hchain := deliverN_of_raise (n := n) htry
  have hexn : exn = true ↔ e.IsExc := decide_eq_true_iff
  have hsaved : saved = nestedEip s eip x := by cases x <;> rfl
  rw [hexn, hsaved]
  refine ⟨fun h8 => ?_, fun ⟨hexc, hd⟩ => ?_, fun hno => ?_, fun lin err hx => ?_⟩
  · rw [hchain, if_pos (Event.cls_double_iff.mpr h8)]
    rfl
  · have h8 : ¬(e.cls == .double) = true := fun h => not_double_of_makesDouble hd (Event.cls_double_iff.mp h).2
    rw [hchain, if_neg h8, if_pos (doubleFaults_iff.mpr ⟨hexc, hd⟩)]
    rfl
  · have h8 : ¬(e.cls == .double) = true := fun h =>
      hno ⟨(Event.cls_double_iff.mp h).1, .inl (Event.cls_double_iff.mp h).2⟩
    have hd : ¬Machine.doubleFaults e.cls x.event.cls = true := fun h =>
      hno ⟨(doubleFaults_iff.mp h).1, .inr (doubleFaults_iff.mp h).2⟩
    rw [hchain, if_neg h8, if_neg hd]
    rfl
  · subst hx
    rfl

end Sys2Proof.Claims
end

section
/-! PROOFS. What one-destination instructions, compares, loads and pushes leave unchanged (R211, R223, R326, R400, R840). -/
namespace Sys2Proof.Machine
open Sys2Proof Sys2Proof.Claims

/-! ## What an instruction of class none leaves -/

/-- The flags differ in the six status flags, DF and IF at most. -/
def Flags.FreeOnly (f g : Flags) : Prop :=
  g = { f with cf := g.cf, pf := g.pf, af := g.af, zf := g.zf, sf := g.sf, of := g.of, df := g.df, ifl := g.ifl }

theorem Flags.StatusOnly.free {f g : Flags} (h : f.StatusOnly g) : f.FreeOnly g := by
  rw [h]
  rfl

/-- The state changed in its general registers, the flags of `FreeOnly`, memory and the stored addresses only. -/
structure BodyOnly (s u : State) : Prop where
  frame : u = { s with gpr := u.gpr, flags := u.flags, mem := u.mem, smcDirty := u.smcDirty }
  flags : s.flags.FreeOnly u.flags

/-- What the statement allows an instruction of class none to have changed when it is done. -/
def RestKept (b : Bound) (s t : State) : Prop :=
  t = { s with
    gpr := t.gpr, eip := nextEip b s, mem := t.mem, smcDirty := t.smcDirty, classOut := some .none
    pendingTrapDB := s.pendingTrapDB || s.flags.tf
    flags := { s.flags with
      cf := t.flags.cf, pf := t.flags.pf, af := t.flags.af, zf := t.flags.zf, sf := t.flags.sf, of := t.flags.of
      df := t.flags.df, ifl := t.flags.ifl, rf := false } }

/-- The result is a completed computation whose every success has the property. -/
def Completes (b : Bound) (s : State) (P : State → Prop) (r : Result) : Prop := ∃ x, r = complete b s x ∧ Gives P x

section
variable {b : Bound} {s t u : State} {P : State → Prop} {r : Result}

/-- An instruction that ended with class none completed: a fault leaves class fault (R470). -/
theorem Completes.retired (h : Completes b s P r) (hr : r = .next t) (hc : t.classOut = some .none) :
    ∃ u, P u ∧ t = retire s true (u.advance b) .none := by
  obtain ⟨x, rfl, hx⟩ := h
  rcases finish_next hr with ⟨v, c, hv, rfl⟩ | ⟨e, -, he⟩
  · obtain ⟨u, hu, h⟩ := except_map_ok.mp hv
    obtain ⟨rfl, rfl⟩ := Prod.mk.inj h
    exact ⟨u, hx u hu, rfl⟩
  · rw [(delivered_of_deliverFault he).classOut] at hc
    exact absurd hc (by decide)

theorem BodyOnly.restKept (h : BodyOnly s u) : RestKept b s (retire s true (u.advance b) .none) := by
  have hflags := h.flags
  unfold Flags.FreeOnly at hflags
  unfold RestKept retire State.advance State.next nextEip
  rw [h.frame, hflags]
  simp only [Bool.and_true]

theorem BodyOnly.of_data (h : OnlyData s u) {f : Flags} (hf : s.flags.FreeOnly f) : BodyOnly s (u.setFlags f) where
  frame := by
    unfold OnlyData at h
    rw [h]
    rfl
  flags := hf

/-! ## One destination -/

/-- One operand was stored to, and status flags written. -/
def StoredTo (w : Width) (l : Loc) (s u : State) : Prop :=
  ∃ v t f, s.writeLoc w l v = .ok t ∧ s.flags.StatusOnly f ∧ u = t.setFlags f

theorem StoredTo.body {w : Width} {l : Loc} (h : StoredTo w l s u) : BodyOnly s u := by
  obtain ⟨v, t, f, ht, hf, rfl⟩ := h
  exact .of_data (State.writeLoc_data ht) hf.free

/-- A store to a register (R103, R211). -/
theorem StoredTo.of_reg {w : Width} {r : BitVec 3} (h : StoredTo w (.reg r) s u) :
    u.mem = s.mem ∧ ∀ q, q ≠ owner w r → u.gpr.get q = s.gpr.get q := by
  obtain ⟨v, t, f, ht, -, rfl⟩ := h
  injection ht with ht
  subst ht
  exact ⟨rfl, fun q hq => Gpr.get_write_other s.gpr w r q v hq⟩

/-- A store to memory (R211, R223). -/
theorem StoredTo.of_mem {w : Width} {r : SegReg} {off : Word} (h : StoredTo w (.mem r off) s u) :
    u.gpr = s.gpr ∧ ∃ ps, s.physAll .write (isUser s.cpl) (s.linear r off) w.bytes = .ok ps ∧
      ∀ a, a ∉ ps → u.mem.read a = s.mem.read a := by
  obtain ⟨v, t, f, ht, -, rfl⟩ := h
  obtain ⟨-, ps, hps, rfl⟩ := State.writeLoc_mem_ok.mp ht
  exact ⟨rfl, ps, hps, fun a ha => Memory.read_writeAll_other s.mem ps _ a ha⟩

/-- A store that keeps the flags. -/
theorem StoredTo.of_writeLoc {w : Width} {l : Loc} {v : BitVec w.bits} : Gives (StoredTo w l s) (s.writeLoc w l v) := by
  intro u hu
  refine ⟨v, u, u.flags, hu, ?_, rfl⟩
  rw [show u.flags = s.flags from by rw [State.writeLoc_data hu]]
  rfl

theorem StoredTo.of_rmw {w : Width} {l : Loc} {f : BitVec w.bits → BitVec w.bits × Flags}
    (hf : ∀ a, s.flags.StatusOnly (f a).2) : Gives (StoredTo w l s) (s.rmw w l f) := by
  intro u hu
  obtain ⟨a, t, -, ht, rfl⟩ := State.rmw_ok.mp hu
  exact ⟨_, t, _, ht, hf a, rfl⟩

end

section
variable {b : Bound} {s : State} {w : Width} {e : Rm} {g : BitVec 3}

/-- The instruction stores to its one operand. -/
def Stores (b : Bound) (s : State) (w : Width) (e : Rm) (r : Result) : Prop := Completes b s (StoredTo w (s.loc b e) s) r

theorem aluInto_stores {op : Alu} (h : op.writes = true) {l : Loc} {x : BitVec w.bits} :
    Gives (StoredTo w l s) (aluInto op w s l x) := by
  rw [aluInto, if_pos h]
  exact .of_rmw fun _ => Alu.eval_status ..

theorem aluRmReg_stores {op : Alu} (h : op.writes = true) : Stores b s w e (aluRmReg op w b e g s) :=
  ⟨_, rfl, aluInto_stores h⟩

theorem aluRmImm_stores {op : Alu} (h : op.writes = true) {x : BitVec w.bits} : Stores b s w e (aluRmImm op w b e x s) :=
  ⟨_, rfl, aluInto_stores h⟩

theorem incRm_stores : Stores b s w e (incRm w b e s) := ⟨_, rfl, .of_rmw fun _ => rfl⟩

theorem decRm_stores : Stores b s w e (decRm w b e s) := ⟨_, rfl, .of_rmw fun _ => rfl⟩

theorem negRm_stores : Stores b s w e (negRm w b e s) := ⟨_, rfl, .of_rmw fun _ => rfl⟩

theorem notRm_stores : Stores b s w e (notRm w b e s) := ⟨_, rfl, .of_rmw fun _ => rfl⟩

theorem shiftFrame_stores {count : Byte} {body : BitVec w.bits → Nat → BitVec w.bits × Flags}
    (h : ∀ d c, s.flags.StatusOnly (body d c).2) : Stores b s w e (shiftFrame w b e count body s) :=
  ⟨_, rfl, .bind fun _ _ => .ite (fun _ => .of_writeLoc) fun _ => .bind fun t ht => .ok ⟨_, t, _, ht, h _ _, rfl⟩⟩

theorem shiftRm_stores {op : ShiftOp} {count : Byte} : Stores b s w e (shiftRm op w b e count s) :=
  shiftFrame_stores fun _ _ => ShiftOp.eval_status ..

theorem shld_stores {count : Byte} : Stores b s w e (shld w b e g count s) :=
  shiftFrame_stores fun _ _ => shldBody_status ..

theorem shrd_stores {count : Byte} : Stores b s w e (shrd w b e g count s) :=
  shiftFrame_stores fun _ _ => shrdBody_status ..

theorem bitRmImm_stores {op : BitOp} (h : op ≠ .bt) {imm : Byte} : Stores b s w e (bitRmImm op w b e imm s) := by
  refine ⟨_, rfl, ?_⟩
  cases op with
  | bt => exact absurd rfl h
  | bts => exact .of_rmw fun _ => rfl
  | btr => exact .of_rmw fun _ => rfl
  | btc => exact .of_rmw fun _ => rfl

theorem movRmReg_stores : Stores b s w e (movRmReg w b e g s) := ⟨_, rfl, .of_writeLoc⟩

theorem movRmImm_stores {x : BitVec w.bits} : Stores b s w e (movRmImm w b e x s) := ⟨_, rfl, .of_writeLoc⟩

theorem setcc_stores {cc : BitVec 4} : Stores b s .w8 e (setcc b cc e s) := ⟨_, rfl, .of_writeLoc⟩

end

/-! ## No store -/

/-- The state changed in its general registers and the flags of `FreeOnly` only. -/
structure NoStore (s u : State) : Prop where
  frame : u = { s with gpr := u.gpr, flags := u.flags }
  flags : s.flags.FreeOnly u.flags

section
variable {s u : State}

theorem NoStore.body (h : NoStore s u) : BodyOnly s u := ⟨by rw [h.frame], h.flags⟩

theorem NoStore.mem (h : NoStore s u) : u.mem = s.mem := by rw [h.frame]

theorem NoStore.refl (s : State) : NoStore s s := ⟨rfl, rfl⟩

theorem NoStore.setGpr (h : NoStore s u) (r : Gpr) : NoStore s { u with gpr := r } := ⟨by rw [h.frame], h.flags⟩

theorem NoStore.setReg (h : NoStore s u) (w : Width) (r : BitVec 3) (v : BitVec w.bits) : NoStore s (u.setReg w r v) :=
  h.setGpr _

theorem NoStore.setFlags (h : NoStore s u) {f : Flags} (hf : s.flags.FreeOnly f) : NoStore s (u.setFlags f) :=
  ⟨by rw [h.frame]; rfl, hf⟩

theorem NoStore.setAddrReg (h : NoStore s u) (b : Bound) (r : BitVec 3) (v : Word) : NoStore s (u.setAddrReg b r v) := by
  unfold State.setAddrReg
  split <;> exact h.setReg ..

theorem NoStore.setAccPair (h : NoStore s u) (w : Width) (hi lo : BitVec w.bits) : NoStore s (u.setAccPair w hi lo) := by
  cases w <;> exact (h.setReg ..).setReg ..

theorem NoStore.dropStack (h : NoStore s u) (d : Word) : NoStore s (u.dropStack d) := by
  unfold State.dropStack State.setSp
  split <;> exact h.setReg ..

end

section
variable {b : Bound} {s : State} {w : Width} {e : Rm} {g r : BitVec 3}

/-- The instruction stores nothing. -/
def Loads (b : Bound) (s : State) (r : Result) : Prop := Completes b s (NoStore s) r

theorem aluInto_noStore {op : Alu} (h : op.writes = false) {l : Loc} {x : BitVec w.bits} :
    Gives (NoStore s) (aluInto op w s l x) := by
  rw [aluInto, h, if_neg Bool.false_ne_true]
  exact .bind fun _ _ => .ok ((NoStore.refl s).setFlags (Alu.eval_status ..).free)

/-- An operation into a register (R500). -/
theorem aluInto_reg_noStore {op : Alu} {x : BitVec w.bits} : Gives (NoStore s) (aluInto op w s (.reg r) x) := by
  cases h : op.writes with
  | false => exact aluInto_noStore h
  | true =>
    rw [aluInto, if_pos h]
    exact .ok (((NoStore.refl s).setReg ..).setFlags (Alu.eval_status ..).free)

theorem aluRmReg_loads {op : Alu} (h : op.writes = false) : Loads b s (aluRmReg op w b e g s) := ⟨_, rfl, aluInto_noStore h⟩

theorem aluRegRm_loads {op : Alu} : Loads b s (aluRegRm op w b g e s) := ⟨_, rfl, .bind fun _ _ => aluInto_reg_noStore⟩

theorem mulRm_loads : Loads b s (mulRm w b e s) :=
  ⟨_, rfl, .bind fun _ _ => .ok (((NoStore.refl s).setAccPair ..).setFlags rfl)⟩

theorem imulRm_loads : Loads b s (imulRm w b e s) :=
  ⟨_, rfl, .bind fun _ _ => .ok (((NoStore.refl s).setAccPair ..).setFlags rfl)⟩

theorem divRm_loads : Loads b s (divRm w b e s) :=
  ⟨_, rfl, .bind fun _ _ => .after (.after (.ok (((NoStore.refl s).setAccPair ..).setFlags rfl)))⟩

theorem idivRm_loads : Loads b s (idivRm w b e s) :=
  ⟨_, rfl, .bind fun _ _ => .after (.after (.ok (((NoStore.refl s).setAccPair ..).setFlags rfl)))⟩

theorem imulRegRm_loads : Loads b s (imulRegRm w b g e s) :=
  ⟨_, rfl, .bind fun _ _ => .ok (((NoStore.refl s).setReg ..).setFlags rfl)⟩

theorem bitOn_bt_noStore {l : Loc} {i : Nat} : Gives (NoStore s) (bitOn .bt w s l i) :=
  .bind fun _ _ => .ok ((NoStore.refl s).setFlags rfl)

theorem bitRmImm_loads {imm : Byte} : Loads b s (bitRmImm .bt w b e imm s) := ⟨_, rfl, bitOn_bt_noStore⟩

theorem bitRmReg_loads : Loads b s (bitRmReg .bt w b e g s) := ⟨_, rfl, bitOn_bt_noStore⟩

theorem scanRegRm_loads {find : {n : Nat} → BitVec n → Nat} : Loads b s (scanRegRm find w b g e s) :=
  ⟨_, rfl, .bind fun _ _ => .ok (((NoStore.refl s).setReg ..).setFlags rfl)⟩

theorem movRegRm_loads : Loads b s (movRegRm w b g e s) := ⟨_, rfl, .bind fun _ _ => .ok ((NoStore.refl s).setReg ..)⟩

theorem movzx_loads : Loads b s (movzx w b g e s) := ⟨_, rfl, .bind fun _ _ => .ok ((NoStore.refl s).setReg ..)⟩

theorem movsx_loads : Loads b s (movsx w b g e s) := ⟨_, rfl, .bind fun _ _ => .ok ((NoStore.refl s).setReg ..)⟩

theorem cmovcc_loads {cc : BitVec 4} : Loads b s (cmovcc w b cc g e s) := by
  refine ⟨_, rfl, .bind fun v _ => .ok ?_⟩
  split
  · exact (NoStore.refl s).setReg ..
  · exact .refl s

theorem lea_loads {m : Addr} : Loads b s (lea b g m s) := ⟨_, rfl, .ok ((NoStore.refl s).setReg ..)⟩

theorem popReg_loads : Loads b s (popReg b r s) :=
  ⟨_, rfl, .bind fun _ _ => .ok (((NoStore.refl s).dropStack _).setReg ..)⟩

theorem daa_loads : Loads b s (daa b s) := ⟨_, rfl, .ok (((NoStore.refl s).setReg ..).setFlags rfl)⟩

theorem aaa_loads : Loads b s (aaa b s) := ⟨_, rfl, .ok ((((NoStore.refl s).setReg ..).setReg ..).setFlags rfl)⟩

theorem aad_loads {imm : Byte} : Loads b s (aad b imm s) :=
  ⟨_, rfl, .ok ((((NoStore.refl s).setReg ..).setReg ..).setFlags rfl)⟩

theorem cbw_loads : Loads b s (cbw b s) := by
  refine ⟨_, rfl, .ok ?_⟩
  split <;> exact (NoStore.refl s).setReg ..

theorem cwd_loads : Loads b s (cwd b s) := ⟨_, rfl, .ok ((NoStore.refl s).setReg ..)⟩

theorem xlat_loads : Loads b s (xlat b s) := ⟨_, rfl, .bind fun _ _ => .ok ((NoStore.refl s).setReg ..)⟩

theorem lahf_loads : Loads b s (lahf b s) := ⟨_, rfl, .ok ((NoStore.refl s).setReg ..)⟩

theorem sahf_loads : Loads b s (sahf b s) := ⟨_, rfl, .ok ((NoStore.refl s).setFlags rfl)⟩

theorem setFlagsTo_loads {f : Flags → Flags} (hf : ∀ f₀ : Flags, f₀.FreeOnly (f f₀)) : Loads b s (setFlagsTo f b s) :=
  ⟨_, rfl, .ok ((NoStore.refl s).setFlags (hf _))⟩

theorem cli_loads : Loads b s (cli b s) := ⟨_, rfl, .after (.ok ((NoStore.refl s).setFlags rfl))⟩

section
variable (hrep : b.rep = .none)
include hrep

/-- A string instruction that is not repeated is its element (R1002). -/
theorem stringStep_loads {stop : State → Bool} {x : Except Stop State} (h : Gives (NoStore s) x) :
    Loads b s (stringStep stop b s x) := by
  rw [stringStep, hrep]
  exact ⟨x, rfl, h⟩

theorem lods_loads : Loads b s (lods w b s) :=
  stringStep_loads hrep (.bind fun _ _ => .ok (((NoStore.refl s).setReg ..).setAddrReg ..))

theorem scas_loads : Loads b s (scas w b s) :=
  stringStep_loads hrep (.bind fun _ _ => .ok (((NoStore.refl s).setFlags (Flags.sub_status ..).free).setAddrReg ..))

theorem cmps_loads : Loads b s (cmps w b s) :=
  stringStep_loads hrep (.bind fun _ _ => .bind fun _ _ => .ok
    ((((NoStore.refl s).setFlags (Flags.sub_status ..).free).setAddrReg ..).setAddrReg ..))

end
end

/-! ## Pushes -/

/-- One value was pushed. -/
def Pushed (z : Size) (s u : State) : Prop := ∃ v, s.push z v = .ok u

section
variable {b : Bound} {s u : State} {z : Size} {e : Rm} {r : BitVec 3}

theorem Pushed.body (h : Pushed z s u) : BodyOnly s u := by
  obtain ⟨v, hv⟩ := h
  have hdata := State.push_data hv
  refine ⟨?_, ?_⟩
  · unfold OnlyData at hdata
    rw [hdata]
  · rw [show u.flags = s.flags from by rw [hdata]]
    rfl

/-- The slot below the stack pointer and ESP are all a push writes (R840). -/
theorem Pushed.outside (h : Pushed z s u) : (∃ ps,
    s.physAll .write (isUser s.cpl) (s.linear .ss (stackAt s (0#32 - slots z 1))) z.bytes = .ok ps ∧
      ∀ a, a ∉ ps → u.mem.read a = s.mem.read a) ∧ ∀ q, q ≠ 4#3 → u.gpr.get q = s.gpr.get q := by
  obtain ⟨v, hv⟩ := h
  obtain ⟨t, ht, rfl⟩ := State.push_ok.mp hv
  obtain ⟨-, hw⟩ := State.segWrite_ok.mp ht
  obtain ⟨ps, hps, rfl⟩ := State.memWrite_ok.mp hw
  rw [stackStep_sp, ← slots_one] at hps
  refine ⟨⟨ps, hps, fun a ha => ?_⟩, fun q hq => State.setSp_get_other _ _ hq⟩
  rw [State.setSp_only]
  exact Memory.read_writeAll_other s.mem ps _ a ha

/-- The instruction pushes one value. -/
def PushesOne (b : Bound) (s : State) (r : Result) : Prop := Completes b s (Pushed b.osz s) r

theorem push_pushed {v : Word} : Gives (Pushed z s) (s.push z v) := fun _ hu => ⟨v, hu⟩

theorem pushReg_pushes : PushesOne b s (pushReg b r s) := ⟨_, rfl, push_pushed⟩

theorem pushRm_pushes : PushesOne b s (pushRm b e s) := ⟨_, rfl, .bind fun _ _ => push_pushed⟩

theorem pushImm_pushes {v : Word} : PushesOne b s (pushImm b v s) := ⟨_, rfl, push_pushed⟩

theorem pushSeg_pushes {sr : SegReg} : PushesOne b s (pushSeg sr b s) := ⟨_, rfl, push_pushed⟩

theorem pushf_pushes : PushesOne b s (pushf b s) := ⟨_, rfl, push_pushed⟩

end

theorem laneOwner_eq (r : BitVec 3) : laneOwner r = if r.toNat < 4 then r else r - 4#3 := by
  revert r
  decide

theorem owner_of_size (z : Size) (r : BitVec 3) : owner z.width r = r := by cases z <;> rfl

/-- The frame of an instruction that stores to its one operand. -/
theorem Stores.frame {b : Bound} {s t : State} {w : Width} {e : Rm} {r : Result} (h : Stores b s w e r) (hr : r = .next t)
    (hc : t.classOut = some .none) : RestKept b s t ∧
      (∀ r, s.loc b e = .reg r → (∀ a, t.mem.read a = s.mem.read a) ∧ ∀ q, q ≠ owner w r → t.gpr.get q = s.gpr.get q) ∧
      (∀ r off, s.loc b e = .mem r off → t.gpr = s.gpr ∧ ∃ ps,
        s.physAll .write (s.cpl == 3#2) ((s.seg r).base + off) w.bytes = .ok ps ∧
          ∀ a, a ∉ ps → t.mem.read a = s.mem.read a) := by
  obtain ⟨u, hu, rfl⟩ := h.retired hr hc
  unfold Stores at h
  refine ⟨hu.body.restKept, fun r hl => ?_, fun r off hl => ?_⟩
  · rw [hl] at hu
    obtain ⟨hmem, hget⟩ := hu.of_reg
    exact ⟨fun a => congrArg (·.read a) hmem, hget⟩
  · rw [hl] at hu
    exact hu.of_mem

/-- Settles O59: the rows store to one operand, store nothing, or push, and what each kind writes is all that changes. -/
theorem frames : Obligations.Frames := by
  intro b e m g cc imm i s t hi hc rest outside dest
  refine ⟨fun h => ?_, fun h => ?_, fun h hrep => ?_, fun h => ?_⟩
  · have hstores : Stores b s .w8 e (exec i s) := by
      clear hi
      revert i
      simp only [List.forall_mem_cons, List.not_mem_nil, false_imp_iff, implies_true, and_true]
      exact ⟨aluRmReg_stores rfl, aluRmReg_stores rfl, aluRmReg_stores rfl, aluRmReg_stores rfl,
        aluRmReg_stores rfl, aluRmReg_stores rfl, aluRmReg_stores rfl, aluRmImm_stores rfl,
        aluRmImm_stores rfl, aluRmImm_stores rfl, aluRmImm_stores rfl, aluRmImm_stores rfl,
        aluRmImm_stores rfl, aluRmImm_stores rfl, shiftRm_stores, shiftRm_stores, shiftRm_stores,
        shiftRm_stores, shiftRm_stores, shiftRm_stores, shiftRm_stores, shiftRm_stores, shiftRm_stores,
        shiftRm_stores, shiftRm_stores, shiftRm_stores, shiftRm_stores, shiftRm_stores, movRmReg_stores,
        movRmImm_stores, incRm_stores, decRm_stores, negRm_stores, notRm_stores, setcc_stores⟩
    obtain ⟨hrest, hreg, hmem⟩ := hstores.frame hi hc
    exact ⟨hrest, fun r hl => ⟨(hreg r hl).1, fun q hq => (hreg r hl).2 q (by rw [owner, laneOwner_eq]; exact hq)⟩, hmem⟩
  · have hstores : Stores b s b.osz.width e (exec i s) := by
      clear hi
      revert i
      simp only [List.forall_mem_cons, List.not_mem_nil, false_imp_iff, implies_true, and_true]
      exact ⟨aluRmReg_stores rfl, aluRmReg_stores rfl, aluRmReg_stores rfl, aluRmReg_stores rfl,
        aluRmReg_stores rfl, aluRmReg_stores rfl, aluRmReg_stores rfl, aluRmImm_stores rfl,
        aluRmImm_stores rfl, aluRmImm_stores rfl, aluRmImm_stores rfl, aluRmImm_stores rfl,
        aluRmImm_stores rfl, aluRmImm_stores rfl, shiftRm_stores, shiftRm_stores, shiftRm_stores,
        shiftRm_stores, shiftRm_stores, shiftRm_stores, shiftRm_stores, shiftRm_stores, shiftRm_stores,
        shiftRm_stores, shiftRm_stores, shiftRm_stores, shiftRm_stores, shiftRm_stores, movRmReg_stores,
        incRm_stores, decRm_stores, negRm_stores, notRm_stores, shld_stores, shrd_stores,
        bitRmImm_stores (by decide), bitRmImm_stores (by decide), bitRmImm_stores (by decide)⟩
    obtain ⟨hrest, hreg, hmem⟩ := hstores.frame hi hc
    exact ⟨hrest, fun r hl => ⟨(hreg r hl).1, fun q hq => (hreg r hl).2 q (by rw [owner_of_size]; exact hq)⟩, hmem⟩
  · have hloads : Loads b s (exec i s) := by
      clear hi
      revert i
      simp only [List.forall_mem_cons, List.not_mem_nil, false_imp_iff, implies_true, and_true]
      exact ⟨aluRmReg_loads rfl, aluRmReg_loads rfl, aluRmReg_loads rfl, aluRmReg_loads rfl, aluRegRm_loads,
        aluRegRm_loads, aluRegRm_loads, aluRegRm_loads, aluRegRm_loads, aluRegRm_loads, aluRegRm_loads,
        aluRegRm_loads, mulRm_loads, imulRm_loads, divRm_loads, idivRm_loads, imulRegRm_loads, bitRmImm_loads,
        bitRmReg_loads, scanRegRm_loads, scanRegRm_loads, movRegRm_loads, movRegRm_loads, movzx_loads,
        movsx_loads, cmovcc_loads, lea_loads, popReg_loads, daa_loads, aaa_loads, aad_loads, cbw_loads,
        cwd_loads, xlat_loads, lahf_loads, sahf_loads,
        setFlagsTo_loads (f := fun f => { f with cf := false }) fun _ => rfl,
        setFlagsTo_loads (f := fun f => { f with df := true }) fun _ => rfl, cli_loads,
        lods_loads hrep, scas_loads hrep, cmps_loads hrep⟩
    obtain ⟨u, hu, rfl⟩ := hloads.retired hi hc
    exact ⟨hu.body.restKept, fun a => congrArg (·.read a) hu.mem⟩
  · have hpushes : PushesOne b s (exec i s) := by
      clear hi
      revert i
      simp only [List.forall_mem_cons, List.not_mem_nil, false_imp_iff, implies_true, and_true]
      exact ⟨pushReg_pushes, pushRm_pushes, pushImm_pushes, pushSeg_pushes, pushSeg_pushes, pushSeg_pushes,
        pushf_pushes⟩
    obtain ⟨u, hu, rfl⟩ := hpushes.retired hi hc
    exact ⟨hu.body.restKept, hu.outside⟩

end Sys2Proof.Machine
end

section
/-! PROOFS. What the decoder reads and what it gives (R230, R300, R302 to R304, R307, R360). -/
namespace Sys2Proof
open Sys2Proof.Machine (except_bind_ok except_ok_bind except_pure)

/-! ## What a row binds -/

/-- The immediate a row takes from its fields (R330). -/
def ImmUse.of (u : ImmUse) (f : Fields) : Imm :=
  match u with
  | .none => .none
  | .ib => .ib f.byte
  | .iw => .iw f.half
  | .iz => .iz f.word
  | .moffs => .moffs f.word
  | .ap => .ap f.word f.half
  | .iwib => .iwib f.half f.byte

/-- The r/m operand a row takes from its fields (R310, R342, R351). -/
def ModrmUse.of (u : ModrmUse) (f : Fields) : Option Rm :=
  match u with
  | .absent => none
  | .rm => some f.e
  | .mem => some (.mem f.m)
  | .regOnly => some (.reg f.er)

/-- The register a row takes that may not exist in a mode (R351). -/
def RegUse.special (u : RegUse) (f : Fields) : Special :=
  match u with
  | .segLoad => .loadSeg f.sreg
  | .dreg => .debug f.reg
  | _ => .none

/-- The parts of the instruction a row binds that well-formedness reads. -/
structure Row.Binds (r : Row) (b : Bound) (f : Fields) (p : Parts) : Prop where
  bound : p.bound = b
  esc : p.esc = r.esc
  rm : p.modrm.map (·.2) = r.modrm.of f
  imm : p.imm = r.imm.of f
  lockable : p.lockable = r.lockable
  rep : p.rep = r.rep
  pmOnly : p.pmOnly = r.pmOnly
  special : p.special = r.reg.special f

/-- Every row of the table binds what it reads. -/
theorem binds_bind : ∀ r ∈ opTable, ∀ b f, r.Binds b f (r.bind b f).parts := by
  simp only [opTable, List.forall_mem_append]
  and_intros
  all_goals
    repeat refine List.forall_mem_cons.mpr ⟨fun _ _ => ⟨rfl, rfl, rfl, rfl, rfl, rfl, rfl, rfl⟩, ?_⟩
    exact List.forall_mem_nil _

/-- LOCK stands on no row that reads its ModRM byte as registers alone. -/
theorem not_regOnly_of_lockable : ∀ r ∈ opTable, r.lockable = true → (r.modrm == .regOnly) = false := by
  simp only [opTable, List.forall_mem_append]
  and_intros
  all_goals
    repeat refine List.forall_mem_cons.mpr ⟨by decide, ?_⟩
    exact List.forall_mem_nil _

/-! ## The bytes a stage reads -/

/-- A stage F that started at k and ended before k' with the value a: the bytes between can be fetched, and no port that
agrees on them makes another value. -/
structure Consumed {ε α : Type} (p : Port ε) (k k' : Nat) (F : Port ε → Except (DecodeStop ε) α) (a : α) : Prop where
  le : k ≤ k'
  bytes : ∀ j, k ≤ j → j < k' → ∃ v, p j = .ok v
  same : ∀ q : Port ε, (∀ j, k ≤ j → j < k' → q j = p j) → F q = .ok a

/-- Whatever a stage gives at this port it read from k on up to the index μ, and it has the property. -/
def Reads {ε α : Type} (p : Port ε) (k : Nat) (μ : α → Nat) (P : α → Prop) (F : Port ε → Except (DecodeStop ε) α) : Prop :=
  ∀ a, F p = .ok a → P a ∧ Consumed p k (μ a) F a

section
variable {ε α β : Type} {p : Port ε} {k : Nat} {μ : α → Nat} {ν : β → Nat} {P : α → Prop} {Q : β → Prop}

theorem Reads.ok {a : α} (hμ : μ a = k) (h : P a) : Reads p k μ P fun _ => .ok a := by
  rintro b ⟨⟩
  subst hμ
  exact ⟨h, Nat.le_refl _, fun j h1 h2 => absurd h2 (Nat.not_lt.mpr h1), fun _ _ => rfl⟩

theorem Reads.error (e : DecodeStop ε) : Reads p k μ P fun _ => .error e := nofun

theorem Reads.ite {c : Prop} [Decidable c] {F G : Port ε → Except (DecodeStop ε) α} (hF : c → Reads p k μ P F)
    (hG : ¬c → Reads p k μ P G) : Reads p k μ P fun q => if c then F q else G q := by
  by_cases h : c
  · simpa only [if_pos h] using hF h
  · simpa only [if_neg h] using hG h

theorem Reads.mono {P' : α → Prop} {F : Port ε → Except (DecodeStop ε) α} (h : Reads p k μ P F) (hP : ∀ a, P a → P' a) :
    Reads p k μ P' F := fun a ha => ⟨hP a (h a ha).1, (h a ha).2⟩

/-- Two stages in a row. -/
theorem Reads.bind {F : Port ε → Except (DecodeStop ε) α} {G : α → Port ε → Except (DecodeStop ε) β}
    (hF : Reads p k μ P F) (hG : ∀ a, P a → Reads p (μ a) ν Q (G a)) : Reads p k ν Q fun q => F q >>= fun a => G a q := by
  intro c hc
  obtain ⟨a, ha, hc⟩ := except_bind_ok.mp hc
  obtain ⟨hP, hle, hbytes, hsame⟩ := hF a ha
  obtain ⟨hQ, hle', hbytes', hsame'⟩ := hG a hP c hc
  refine ⟨hQ, hle.trans hle', fun j h1 h2 => ?_, fun q hq => ?_⟩
  · rcases Nat.lt_or_ge j (μ a) with h | h
    · exact hbytes j h1 h
    · exact hbytes' j h h2
  · rw [hsame q fun j h1 h2 => hq j h1 (h2.trans_le hle'), except_ok_bind]
    exact hsame' q fun j h1 h2 => hq j (hle.trans h1) h2

/-- One byte, then the rest (R307). -/
theorem Reads.byte {G : Byte → Port ε → Except (DecodeStop ε) β} (hG : ∀ b, Reads p (k + 1) ν Q (G b)) :
    Reads p k ν Q fun q => readByte q k >>= fun b => G b q := by
  refine Reads.bind (μ := fun _ => k + 1) (P := fun _ => True) (fun b hb => ⟨trivial, ?_⟩) fun b _ => hG b
  have hp : p k = .ok b := by
    unfold readByte at hb
    split at hb
    · exact nomatch hb
    · split at hb
      · next v hv => rw [hv, Except.ok.inj hb]
      · exact nomatch hb
  refine ⟨Nat.le_succ k, fun j h1 h2 => ⟨b, ?_⟩, fun q hq => ?_⟩
  · have h2 : j < k + 1 := h2
    rw [show j = k by omega]
    exact hp
  · rw [readByte, hq k (Nat.le_refl k) (Nat.lt_succ_self k)]
    exact hb

end

/-! ## Each stage -/

section
variable {ε : Type} (p : Port ε)

theorem reads_readHalf (k : Nat) : Reads p k Prod.snd (fun a => a.2 = k + 2) fun q => readHalf q k :=
  .byte fun _ => .byte fun _ => .ok rfl rfl

theorem reads_readWord (k : Nat) : Reads p k Prod.snd (fun a => a.2 = k + 4) fun q => readWord q k :=
  .bind (reads_readHalf p k) fun (_, k1) hk1 => .bind (reads_readHalf p k1) fun (_, k2) hk2 => .ok rfl (by
    dsimp only at hk1 hk2 ⊢
    omega)

theorem Size.fits_setWidth (h : Half) : Size.s16.fits (h.setWidth 32) = true := by
  have hmask : h.setWidth 32 &&& 0xFFFF#32 = h.setWidth 32 := by
    rw [Machine.and_ffff, BitVec.setWidth_setWidth_of_le h (by decide), BitVec.setWidth_eq]
  rw [Size.fits, beq_iff_eq, ← hmask, BitVec.and_assoc]
  exact BitVec.and_zero

theorem reads_readSized (z : Size) (k : Nat) :
    Reads p k Prod.snd (fun a => z.fits a.1 = true ∧ a.2 = k + z.bytes) fun q => readSized q z k := by
  cases z with
  | s16 => exact .bind (reads_readHalf p k) fun (h, _) hk => .ok rfl ⟨Size.fits_setWidth h, hk⟩
  | s32 => exact (reads_readWord p k).mono fun a hk => ⟨by simp [Size.fits, Size.mask], hk⟩

theorem reads_readDisp16 (mod : BitVec 2) (k : Nat) :
    Reads p k Prod.snd (fun a => (mod ≠ 0#2 → a.1 ≠ .none) ∧ a.2 = k + a.1.length) fun q => readDisp16 q mod k := by
  rcases (by decide +revert : mod = 0#2 ∨ mod = 1#2 ∨ mod = 2#2 ∨ mod = 3#2) with rfl | rfl | rfl | rfl
  · exact .ok rfl ⟨absurd rfl, rfl⟩
  · exact .byte fun _ => .ok rfl ⟨nofun, rfl⟩
  · exact .bind (reads_readHalf p k) fun (_, _) hk => .ok rfl ⟨nofun, hk⟩
  · exact .bind (reads_readHalf p k) fun (_, _) hk => .ok rfl ⟨nofun, hk⟩

theorem reads_readDisp32 (mod : BitVec 2) (k : Nat) :
    Reads p k Prod.snd (fun a => (mod ≠ 0#2 → a.1 ≠ .none) ∧ a.2 = k + a.1.length) fun q => readDisp32 q mod k := by
  rcases (by decide +revert : mod = 0#2 ∨ mod = 1#2 ∨ mod = 2#2 ∨ mod = 3#2) with rfl | rfl | rfl | rfl
  · exact .ok rfl ⟨absurd rfl, rfl⟩
  · exact .byte fun _ => .ok rfl ⟨nofun, rfl⟩
  · exact .bind (reads_readWord p k) fun (_, _) hk => .ok rfl ⟨nofun, hk⟩
  · exact .bind (reads_readWord p k) fun (_, _) hk => .ok rfl ⟨nofun, hk⟩

/-- The operand has a form of its address size and as many bytes behind the ModRM byte as its form says (R320 to R323). -/
def RmRead (asz : Size) (k : Nat) (a : Rm × Nat) : Prop := a.1.wf asz = true ∧ a.2 = k + a.1.tailLength

/-- The base that a bare offset takes the place of is read with a displacement only (R320, R322, R323). -/
theorem base_ok {δ : Type} [BEq δ] [LawfulBEq δ] {mod : BitVec 2} {rm n : BitVec 3} {d none : δ}
    (h : ¬(mod == 0#2 && rm == n) = true) (hd : mod ≠ 0#2 → d ≠ none) : (rm != n || d != none) = true := by
  rw [Bool.and_eq_true, beq_iff_eq, beq_iff_eq, not_and_or] at h
  rw [Bool.or_eq_true, bne_iff_ne, bne_iff_ne]
  exact h.symm.imp_right hd

theorem reads_readAddr (asz : Size) (mod : BitVec 2) (rm : BitVec 3) (k : Nat) :
    Reads p k Prod.snd (fun a => RmRead asz k (.mem a.1, a.2)) fun q => readAddr q asz mod rm k := by
  cases asz with
  | s16 =>
    exact .ite (fun _ => .bind (reads_readHalf p k) fun (_, _) hk => .ok rfl ⟨rfl, hk⟩) fun h =>
      .bind (reads_readDisp16 p mod k) fun (d, _) ⟨hd, hk⟩ => .ok rfl ⟨base_ok h hd, hk⟩
  | s32 =>
    refine .ite (fun _ => .byte fun sib => .ite (fun _ => .bind (reads_readWord p _) fun (_, k1) hk => .ok rfl ⟨rfl, ?_⟩)
      fun h => .bind (reads_readDisp32 p mod _) fun (d, k1) ⟨hd, hk⟩ => .ok rfl ⟨base_ok h hd, ?_⟩) fun h4 =>
        .ite (fun _ => .bind (reads_readWord p k) fun (_, _) hk => .ok rfl ⟨rfl, hk⟩) fun h =>
          .bind (reads_readDisp32 p mod k) fun (d, _) ⟨hd, hk⟩ => .ok rfl ⟨?_, hk⟩
    · exact hk.trans (by rw [Nat.add_assoc]; rfl)
    · exact hk.trans (by rw [Nat.add_assoc]; rfl)
    · show ((rm != 4#3) && (rm != 5#3 || d != .none)) = true
      rw [base_ok h hd, Bool.and_true, bne_iff_ne]
      exact fun h => h4 (beq_iff_eq.mpr h)

theorem reads_readRm (use : ModrmUse) (asz : Size) (mb : Byte) (k : Nat) : Reads p k Prod.snd
    (fun a => a.1.isMem = !(use == .regOnly || mb.extractLsb' 6 2 == 3#2) ∧ RmRead asz k a)
    fun q => readRm q use asz mb k := by
  refine .ite (fun h => .ok rfl ⟨?_, rfl, rfl⟩) fun h => .bind (reads_readAddr p asz _ _ k) fun (a, _) ha => .ok rfl ⟨?_, ha⟩
  · rw [h]
    rfl
  · rw [Bool.eq_false_iff.mpr h]
    rfl

theorem reads_readImm (use : ImmUse) (osz asz : Size) (k : Nat) : Reads p k Prod.snd
    (fun a => a.1.use = use ∧ a.1.wf osz asz = true ∧ a.2 = k + a.1.length osz asz) fun q => readImm q use osz asz k := by
  cases use with
  | none => exact .ok rfl ⟨rfl, rfl, rfl⟩
  | ib => exact .byte fun _ => .ok rfl ⟨rfl, rfl, rfl⟩
  | iw => exact .bind (reads_readHalf p k) fun (_, _) hk => .ok rfl ⟨rfl, rfl, hk⟩
  | iz => exact .bind (reads_readSized p osz k) fun (_, _) ⟨hv, hk⟩ => .ok rfl ⟨rfl, hv, hk⟩
  | moffs => exact .bind (reads_readSized p asz k) fun (_, _) ⟨hv, hk⟩ => .ok rfl ⟨rfl, hv, hk⟩
  | ap =>
    exact .bind (reads_readSized p osz k) fun (_, k1) ⟨hv, hk⟩ => .bind (reads_readHalf p k1) fun (_, _) hk1 =>
      .ok rfl ⟨rfl, hv, hk1.trans (congrArg (· + 2) hk)⟩
  | iwib =>
    exact .bind (reads_readHalf p k) fun (_, k1) hk => .byte fun _ => .ok rfl ⟨rfl, rfl, congrArg (· + 1) hk⟩

theorem reads_readModrm (use : ModrmUse) (k : Nat) : Reads p k Prod.snd
    (fun a => (use = .absent → a.1 = 0xC0#8) ∧ a.2 = k + if use = .absent then 0 else 1) fun q => readModrm q use k := by
  refine .ite (fun h => ?_) fun h => .byte fun _ => ?_
  · rw [if_pos (beq_iff_eq.mp h)]
    exact .ok rfl ⟨fun _ => rfl, rfl⟩
  · rw [if_neg (mt beq_iff_eq.mpr h)]
    exact .ok rfl ⟨fun ha => absurd (beq_iff_eq.mpr ha) h, rfl⟩

theorem reads_readOpcode (b : Byte) (k : Nat) : Reads p k (·.2.2) (fun a => a.2.2 = k + if a.1 = true then 1 else 0)
    fun q => readOpcode q b k :=
  .ite (fun _ => .byte fun _ => .ok rfl rfl) fun _ => .ok rfl rfl

/-! ## The prefixes (R301, R302) -/

/-- The number of different prefixes noted. -/
def Prefixes.count (x : Prefixes) : Nat :=
  (if x.lock then 1 else 0) + (if x.rep == .none then 0 else 1) + (if x.seg.isSome then 1 else 0)
    + (if x.osz then 1 else 0) + (if x.asz then 1 else 0)

/-- LOCK and REP do not stand together (R302). -/
def Prefixes.Legal (x : Prefixes) : Prop := x.lock = true → x.rep = .none

theorem Prefixes.add_count {x y : Prefixes} {q : PrefixByte} (h : x.add q = some y) :
    y.count ≤ x.count + 1 ∧ 0 < y.count ∧ (x.Legal → y.Legal) := by
  unfold Prefixes.add at h
  cases q with
  | lock =>
    dsimp only at h
    split at h
    · next hrep =>
      cases h
      refine ⟨?_, ?_, fun _ _ => beq_iff_eq.mp hrep⟩ <;> simp only [count, if_true] <;> omega
    · cases h
  | repne | rep =>
    dsimp only at h
    split at h
    · cases h
    · next hno =>
      cases h
      refine ⟨?_, ?_, fun _ hl => absurd (Bool.or_eq_true_iff.mpr (.inl hl)) hno⟩ <;>
        simp only [count, beq_iff_eq, reduceCtorEq, if_false] <;> omega
  | seg r =>
    dsimp only at h
    split at h
    · cases h
      refine ⟨?_, ?_, id⟩ <;> simp only [count, Option.isSome_some, if_true] <;> omega
    · cases h
  | osz | asz =>
    cases h
    refine ⟨?_, ?_, id⟩ <;> simp only [count, if_true] <;> omega

/-- The stage of the prefixes read n bytes of them. -/
def PrefixesRead (k : Nat) (a : Prefixes × Byte × Nat) (x : Prefixes) : Prop :=
  ∃ n, a.2.2 = k + n + 1 ∧ a.1.count ≤ x.count + n ∧ (0 < x.count + n → 0 < a.1.count) ∧ (x.Legal → a.1.Legal)

theorem reads_readPrefixes (fuel k : Nat) (x : Prefixes) :
    Reads p k (·.2.2) (fun a => PrefixesRead k a x) fun q => readPrefixes q fuel k x := by
  induction fuel generalizing k x with
  | zero => exact .error _
  | succ fuel ih =>
    refine .byte fun b => ?_
    cases hb : PrefixByte.ofByte b with
    | none => exact .ok rfl ⟨0, rfl, Nat.le_refl _, id, id⟩
    | some q =>
      dsimp only
      cases hx : x.add q with
      | none => exact .error _
      | some y =>
        obtain ⟨hle, hpos, hlegal⟩ := Prefixes.add_count hx
        exact (ih (k + 1) y).mono fun a ⟨n, hk, hn, hn0, hl⟩ =>
          ⟨n + 1, by omega, by omega, fun _ => hn0 (by omega), hl ∘ hlegal⟩

end

/-! ## The instruction that is given -/

/-- What a row whose checks pass has (R303, R304, R351, R352). -/
structure Row.Passes (r : Row) (m : DecodeMode) (x : Prefixes) (mb : Byte) : Prop where
  pmOnly : r.pmOnly = true → m.pe = true
  mem : r.modrm = .mem → (mb.extractLsb' 6 2 == 3#2) = false
  reg : r.reg.ok m (mb.extractLsb' 3 3) = true
  lock : x.lock = true → r.lockable = true ∧ (mb.extractLsb' 6 2 == 3#2) = false
  rep : r.rep.allows x.rep = true

theorem Row.passes_of_check {ε : Type} {r : Row} {m : DecodeMode} {x : Prefixes} {mb : Byte}
    (h : r.check (ε := ε) m x mb = none) : r.Passes m x mb := by
  unfold Row.check at h
  dsimp only at h
  split at h
  · cases h
  next hpm =>
  split at h
  · cases h
  next hmem =>
  split at h
  · cases h
  next hreg =>
  split at h
  · cases h
  next hlock =>
  split at h
  · cases h
  next hrep =>
  exact ⟨fun hp => by simpa [hp] using hpm, fun hm => by simpa [hm] using hmem, by simpa using hreg,
    fun hl => by simpa [hl] using hlock, by simpa using hrep⟩

/-- What the stages read for a row: the operand, the immediate, and a length that is the body's behind n prefixes. -/
structure Row.Took (r : Row) (m : DecodeMode) (x : Prefixes) (mb : Byte) (f : Fields) (len : Nat) : Prop where
  passes : r.Passes m x mb
  reg : f.reg = mb.extractLsb' 3 3
  legal : x.Legal
  absent : r.modrm = .absent → mb = 0xC0#8
  isMem : f.e.isMem = !(r.modrm == .regOnly || mb.extractLsb' 6 2 == 3#2)
  rm : f.e.wf (m.sized x.asz) = true
  use : f.imm.use = r.imm
  imm : f.imm.wf (m.sized x.osz) (m.sized x.asz) = true
  length : ∃ n, x.count ≤ n ∧ (0 < n → 0 < x.count) ∧ len = n + ((if r.esc = true then 2 else 1)
    + (if r.modrm = .absent then 0 else 1 + f.e.tailLength) + f.imm.length (m.sized x.osz) (m.sized x.asz))
  le : len ≤ 15

/-- The attributes the decoder gives. -/
def Prefixes.bound (x : Prefixes) (m : DecodeMode) (len : Nat) : Bound :=
  ⟨m.sized x.osz, m.sized x.asz, x.seg, x.rep, x.lock, len⟩

theorem DecodeMode.sized_count (m : DecodeMode) (c : Bool) :
    (if (m.sized c == m.size) = true then (0 : Nat) else 1) = if c = true then 1 else 0 := by
  unfold sized size
  cases m.db <;> cases c <;> rfl

theorem Prefixes.bound_prefixCount (x : Prefixes) (m : DecodeMode) (len : Nat) :
    (x.bound m len).prefixCount m = x.count := by
  rw [Bound.prefixCount, Prefixes.bound, DecodeMode.sized_count, DecodeMode.sized_count, Prefixes.count]

theorem ImmUse.of_eq {u : ImmUse} {f : Fields} (h : f.imm.use = u) : u.of f = f.imm := by
  subst h
  unfold ImmUse.of Fields.byte Fields.half Fields.word
  cases f.imm <;> rfl

section
variable {r : Row} {m : DecodeMode} {x : Prefixes} {mb : Byte} {f : Fields} {len : Nat} {p : Parts}

/-- The operand the row takes is the one that was read. -/
theorem Row.Took.modrm_of (h : r.Took m x mb f len) (hu : r.modrm ≠ .absent) : r.modrm.of f = some f.e := by
  have hmem := h.isMem
  cases he : f.e with
  | reg g =>
    cases hr : r.modrm with
    | absent => exact absurd hr hu
    | rm => rw [ModrmUse.of, he]
    | regOnly => rw [ModrmUse.of, Fields.er, he]
    | mem =>
      rw [he, hr, h.passes.mem hr] at hmem
      exact absurd hmem Bool.false_ne_true
  | mem a =>
    cases hr : r.modrm with
    | absent => exact absurd hr hu
    | rm => rw [ModrmUse.of, he]
    | mem => rw [ModrmUse.of, Fields.m, he]
    | regOnly =>
      rw [he, hr] at hmem
      exact absurd hmem.symm Bool.false_ne_true

/-- The ModRM part of the instruction: absent with the row's, and else with the operand that was read. -/
theorem Row.Took.modrm (h : r.Took m x mb f len) {b : Bound} (hb : r.Binds b f p) :
    (r.modrm = .absent → p.modrm = none) ∧ (r.modrm ≠ .absent → ∃ g, p.modrm = some (g, f.e)) := by
  have hrm := hb.rm
  refine ⟨fun hu => ?_, fun hu => ?_⟩
  · rw [hu] at hrm
    exact Option.map_eq_none_iff.mp hrm
  · rw [h.modrm_of hu] at hrm
    obtain ⟨⟨g, e⟩, hg, he⟩ := Option.map_eq_some_iff.mp hrm
    exact ⟨g, by rw [hg, ← he]⟩

theorem Row.Took.rm_wf {i : Instr} (h : r.Took m x mb f len) (hb : r.Binds (x.bound m len) f i.parts) :
    i.fields.e.wf i.bound.asz = true := by
  obtain ⟨hnone, hsome⟩ := h.modrm hb
  rw [Instr.fields, Instr.bound, hb.bound]
  by_cases hu : r.modrm = .absent
  · rw [hnone hu]
    rfl
  · obtain ⟨g, hg⟩ := hsome hu
    rw [hg]
    exact h.rm

theorem Row.Took.lockOk (h : r.Took m x mb f len) (hr : r ∈ opTable) (hb : r.Binds (x.bound m len) f p) :
    p.lockOk = true := by
  rw [Parts.lockOk, hb.bound, hb.lockable]
  cases hl : x.lock with
  | false => simp [Prefixes.bound, hl]
  | true =>
    obtain ⟨hlockable, hmod⟩ := h.passes.lock hl
    have hu : r.modrm ≠ .absent := fun hu => by
      rw [h.absent hu] at hmod
      exact absurd hmod (by decide)
    obtain ⟨g, hg⟩ := (h.modrm hb).2 hu
    have hmem : f.e.isMem = true := by
      rw [h.isMem, hmod, not_regOnly_of_lockable r hr hlockable]
      rfl
    simp [Prefixes.bound, hlockable, h.legal hl, hg, hmem]

/-- The segment register that a load's reg field names is not CS (R351). -/
theorem segLoad_ne_cs : ∀ g : BitVec 3, ((SegReg.ofNum g).isSome && g != 1#3) = true →
    ((SegReg.ofNum g).getD .es != .cs) = true := by
  decide

theorem Row.Took.special_ok (h : r.Took m x mb f len) {b : Bound} (hb : r.Binds b f p) : p.special.ok m = true := by
  have hreg := h.passes.reg
  rw [hb.special]
  rw [← h.reg] at hreg
  cases hu : r.reg with
  | gpr | seg | creg => rfl
  | dreg =>
    rw [hu] at hreg
    exact hreg
  | segLoad =>
    rw [hu] at hreg
    exact segLoad_ne_cs _ hreg

theorem Row.Took.lenOk (h : r.Took m x mb f len) (hb : r.Binds (x.bound m len) f p) : p.lenOk m = true := by
  obtain ⟨n, hn, hpos, hlen⟩ := h.length
  obtain ⟨hnone, hsome⟩ := h.modrm hb
  have hbody : p.bodyLength = (if r.esc = true then 2 else 1) + (if r.modrm = .absent then 0 else 1 + f.e.tailLength)
      + f.imm.length (m.sized x.osz) (m.sized x.asz) := by
    rw [Parts.bodyLength, hb.esc, hb.imm, ImmUse.of_eq h.use, hb.bound]
    by_cases hu : r.modrm = .absent
    · rw [hnone hu, if_pos hu]
      rfl
    · obtain ⟨g, hg⟩ := hsome hu
      rw [hg, if_neg hu]
      rfl
  have hle := h.le
  rw [← hbody] at hlen
  simp only [Parts.lenOk, hb.bound, Prefixes.bound_prefixCount, Bool.and_eq_true, Bool.or_eq_true, beq_iff_eq,
    decide_eq_true_eq, bne_iff_ne]
  show (len = _ ∨ _ < len ∧ _) ∧ len ≤ 15
  omega

/-- A row that reads what it reads binds a well-formed instruction (R300 to R304, R307). -/
theorem Row.Took.wf (h : r.Took m x mb f len) (hr : r ∈ opTable) : (r.bind (x.bound m len) f).wf m = true := by
  have hb := binds_bind r hr (x.bound m len) f
  refine Instr.wf_iff.mpr ⟨h.rm_wf hb, ?_, h.lockOk hr hb, ?_, ?_, h.special_ok hb, h.lenOk hb⟩
  · rw [hb.imm, ImmUse.of_eq h.use, Instr.bound, hb.bound]
    exact h.imm
  · rw [hb.rep, Instr.bound, hb.bound]
    exact h.passes.rep
  · rw [hb.pmOnly]
    exact h.passes.pmOnly

end

/-- The stages one after the other: prefixes, opcode, ModRM, the operand's tail, the immediate (R300, R360). -/
theorem length_of_stages {n k k1 k2 k3 k4 tail imm : Nat} {esc : Bool} {absent : Prop} [Decidable absent]
    (hk : k = 0 + n + 1) (hk1 : k1 = k + if esc = true then 1 else 0) (hk2 : k2 = k1 + if absent then 0 else 1)
    (hk3 : k3 = k2 + tail) (hk4 : k4 = k3 + imm) (htail : absent → tail = 0) :
    k4 = n + ((if esc = true then 2 else 1) + (if absent then 0 else 1 + tail) + imm) := by
  have hesc : (if esc = true then 2 else 1) = 1 + if esc = true then 1 else 0 := by cases esc <;> rfl
  rw [hesc]
  by_cases h : absent
  · rw [if_pos h] at hk2 ⊢
    have ht := htail h
    omega
  · rw [if_neg h] at hk2 ⊢
    omega

/-- The whole of decoding: what it gives is well-formed, and it read the instruction's own bytes only (R360). -/
theorem reads_decode {ε : Type} (m : DecodeMode) (p : Port ε) : Reads p 0 (·.bound.len)
    (fun i => i.bound.len ≤ 15 → i.wf m = true ∧ 1 ≤ i.bound.len) fun q => decode m q := by
  refine .bind (reads_readPrefixes p 16 0 .empty) fun (x, b, k) ⟨n, hk, hn, hpos, hlegal⟩ => ?_
  refine .bind (reads_readOpcode p b k) fun (esc, op, k1) hk1 => ?_
  dsimp only
  cases hrows : rowsFor esc op with
  | nil => exact .error _
  | cons r0 rs =>
    refine .ite (fun _ => .error _) fun _ => .bind (reads_readModrm p r0.modrm k1) fun (mb, k2) ⟨hmb, hk2⟩ => ?_
    dsimp only
    cases hfind : (r0 :: rs).find? (·.takes (mb.extractLsb' 3 3)) with
    | none => exact .error _
    | some r =>
      dsimp only
      cases hcheck : r.check (ε := ε) m x mb with
      | some e => exact .error _
      | none =>
        refine .bind (reads_readRm p _ _ _ _) fun (e, k3) ⟨hmem, hrm, hk3⟩ =>
          .bind (reads_readImm p _ _ _ _) fun (imm, k4) ⟨huse, himm, hk4⟩ => ?_
        have hmemr : r ∈ rowsFor esc op := hrows ▸ List.mem_of_find?_eq_some hfind
        obtain ⟨hr, hcovers⟩ := mem_rowsFor.mp hmemr
        have habs : r0.modrm = .absent ↔ r.modrm = .absent := by
          have h := modrm_absent_rowsFor hmemr (hrows ▸ List.mem_cons_self : r0 ∈ rowsFor esc op)
          exact ⟨fun h0 => beq_iff_eq.mp (h ▸ beq_iff_eq.mpr h0), fun hr => beq_iff_eq.mp (h ▸ beq_iff_eq.mpr hr)⟩
        have hesc : r.esc = esc := by
          rw [Row.covers, Bool.and_eq_true, beq_iff_eq] at hcovers
          exact hcovers.1
        have htail : r.modrm = .absent → e.tailLength = 0 := fun hu => by
          have hmb : mb = 0xC0#8 := hmb (habs.mpr hu)
          have hmem : e.isMem = false := by
            rw [hmem, hmb, Bool.not_eq_false']
            exact Bool.or_eq_true_iff.mpr (.inr rfl)
          cases e with
          | reg g => rfl
          | mem a => cases hmem
        have hlen : k4 = n + ((if r.esc = true then 2 else 1) + (if r.modrm = .absent then 0 else 1 + e.tailLength)
            + imm.length (m.sized x.osz) (m.sized x.asz)) := by
          rw [hesc]
          simp only [habs] at hk2
          exact length_of_stages hk hk1 hk2 hk3 hk4 htail
        have hlen1 : 1 ≤ k4 := by
          rw [hlen]
          split <;> omega
        refine .ok (congrArg Bound.len (bound_bind r hr _ _)) fun hle => ?_
        rw [bound_bind r hr] at hle ⊢
        have htook : r.Took m x mb ⟨op, mb.extractLsb' 3 3, e, imm⟩ k4 :=
          ⟨Row.passes_of_check hcheck, rfl, hlegal nofun, hmb ∘ habs.mpr, hmem, hrm, huse, himm,
            ⟨n, by simpa [Prefixes.count, Prefixes.empty] using hn,
              by simpa [Prefixes.count, Prefixes.empty] using hpos, hlen⟩,
            hle⟩
        exact ⟨htook.wf hr, hlen1⟩

end Sys2Proof

namespace Sys2Proof.Machine
open Sys2Proof

/-- Settles O2: every stage reads the bytes between its indices, and the row that stands binds what was read. -/
theorem decodeSound : Obligations.DecodeSound := by
  intro ε m p i hi
  obtain ⟨hwf, -, hbytes, hsame⟩ := reads_decode m p i hi
  have hle := within_decode i hi
  obtain ⟨hwf, hpos⟩ := hwf hle
  exact ⟨hwf, hpos, hle, fun k hk => hbytes k (Nat.zero_le k) hk, fun q hq => hsame q fun j _ hj => hq j hj⟩

end Sys2Proof.Machine
end
